-- ==== Sys2Proof/Word.lean ====
section
/-! DEFINITION. The word types of the block: 32-bit register words (R9), bytes, 64-bit link blocks and CRC registers. -/
namespace Sys2Proof

/-- A 32-bit register word (R9), also a binary32 bit pattern (R15). -/
abbrev Word := BitVec 32

/-- One byte. -/
abbrev Byte := BitVec 8

/-- A 64-bit word: a link block payload, a digest value, an angle accumulator. -/
abbrev Dword := BitVec 64

end Sys2Proof
end

