-- ==== Sys2Proof/Syntax.lean ====
section
/-! DEFINITION. The commands the block takes: one constructor per row of the opcode table, with the row's operands. -/
namespace Sys2Proof

/-- One reading of a temperature sensor in a round (R585, R587): raw code, temperature in 1/16 °C, and for a remote diode whether the bias current
cannot flow and whether the forward voltage is below 0.2 V. -/
structure Reading where
  code : Nat
  temp : Int
  noBias : Bool
  short : Bool
deriving DecidableEq, Repr

/-- One ASDU of a sampled-value frame (R393, R395): smpCnt, smpSynch, and per value the INT32 and its quality word. -/
structure Asdu where
  smpCnt : Nat
  smpSynch : Nat
  vals : List (Word × Word)
deriving DecidableEq, Repr

/-- A received Ethernet frame (R525, R435): its port, the root cycle of the timebase tick in which its start-of-frame delimiter crosses, whether its FCS is good, its
bytes without the FCS. -/
structure EthFrame where
  port : Nat
  cyc : Nat
  good : Bool
  bytes : List Nat
deriving DecidableEq, Repr

/-- A received sampled-value frame (R392): the Ethernet frame and what it carries. -/
structure SvFrame where
  eth : EthFrame
  appid : Nat
  svid : List Nat
  simulated : Bool
  secured : Bool
  asdus : List Asdu
deriving DecidableEq, Repr

/-- A received PTP message (R436–R438): the Ethernet frame, domainNumber, sequenceId, correctionField in 2⁻¹⁶ ns, twoStepFlag, and the timestamp it carries in
seconds and nanoseconds. -/
structure PtpMsg where
  eth : EthFrame
  domain : Nat
  seq : Nat
  corr : Int
  twoStep : Bool
  sec : Nat
  ns : Nat
deriving DecidableEq, Repr

/-- A submission entry but for its opcode (R518): TAG, FLAGS, and words 1 to 15. -/
structure SqEntry where
  tag : Nat
  flags : Nat
  w : List Word
deriving DecidableEq, Repr

/-- A fault a node detects and reports (R318, R320, R328); COMM is the loss of block lock of a port: 0 A, 1 B, 2 D0, 3 D1. -/
inductive NodeFlag where
  | overvolt | desat | comm (port : Nat) | rx11 | alarm
deriving DecidableEq, Repr

/-- An error that an engine meets in its own reads (R571): the space of R566, the address of the 64-bit word, whether one bit is wrong (corrected) or more. -/
structure ReadErr where
  space : Nat
  addr : Nat
  single : Bool
deriving DecidableEq, Repr

/-- A block that a node receives on a downstream port (R297, R322): the port, 0 D0 or 1 D1, the block time after the SYNC block it takes upstream, control or data, its bits. -/
structure UpBlock where
  down : Nat
  slot : Nat
  control : Bool
  bits : Dword
deriving DecidableEq, Repr

/-- The commands of the block, in the order of the table. Lanes are numbered 0–11, mirror lanes 12 and 13 where a row covers both; receivers are numbered like lanes, and
receiver `r` of node `n` (0 A, 1 B, 2 D0, 3 D1) is 14 + 4n + r. `n` is a node's number in the model's node list where the row is an event at a node, `port` its upstream port
(0 A, 1 B), `q` a queue and `e` its submission entry. -/
inductive Instr where
  | powerOn
  | porbAssert
  | porbRelease (hot selfTest sfdp : Bool) (flash : List Nat)
  | aonBrownout
  | aonBrownoutRelease
  | domainPowerGood (d : Nat)
  | pwrFail
  | powerDown
  | hardCut
  | thermalRound (rs : List Reading)
  | journalRecordWritten
  | compactionComplete
  | rsvErase
  | eraseComplete
  | rsvCompact
  | periodBoundary (late : Bool) (phase : Int)
  | overrunBlock
  | frtExit
  | frtTimeout
  | prechargeTimeout
  | adcConversion (core : Nat) (volts : Rat)
  | adcCutoff
  | injectedTrigger (core : Nat)
  | adcCorecSoft (core : Nat)
  | adcWake (core : Nat)
  | adcWarmUpEnd (core : Nat)
  | sampledValueFrame (f : SvFrame)
  | mcdConditioning
  | inputInvalid (m : Nat)
  | gfeStep (err : Option ReadErr)
  | resyncInStep
  | cceStep (err : Option ReadErr)
  | temporaryBlockClampCount
  | temporaryBlockEnd
  | lpeEvaluation (slot : Nat)
  | pulseEdge (pin : Nat) (level : Bool)
  | pulseTimeout (pin : Nat)
  | branchSelection
  | report (lane slot : Nat) (block : Dword)
  | reportCutoff (lane : Nat)
  | nodeLost (addr : Nat)
  | modulate (err : Option ReadErr)
  | faultFlash (lane : Nat) (block : Dword)
  | blockLock (lane : Nat)
  | blockLockLoss (lane : Nat)
  | mgmtGo
  | mgmtResponse (lane : Nat) (blocks : List Dword)
  | noResponse
  | rebuild
  | scan
  | scanInterval
  | discoveryResponse (lane depth route rtt : Nat) (blocks : List Dword)
  | discoveryProbeTimeout (lane depth route : Nat)
  | nodeCmdRelease (addr : Nat)
  | nodeCmdReadmit (addr : Nat)
  | ovfClear
  | nodeSync (n port : Nat) (block : Dword)
  | nodeSyncLoss (n : Nat)
  | nodeCmdFrame (n port : Nat) (blocks : List Dword)
  | nodeClearingWait (n : Nat)
  | nodeEblk (n port : Nat) (block : Dword)
  | nodeFlt (n : Nat) (block : UpBlock)
  | nodeCellFailure (n : Nat)
  | ident (n port : Nat) (blocks : List Dword)
  | echo (n port : Nat) (blocks : List Dword)
  | portCfg (n port : Nat) (blocks : List Dword)
  | admitNode (n port : Nat) (blocks : List Dword)
  | release (n port : Nat) (blocks : List Dword)
  | status (n port : Nat) (blocks : List Dword)
  | portReset (n port : Nat) (blocks : List Dword)
  | setIdent (n port : Nat) (blocks : List Dword)
  | pairBlock (lane : Nat) (block : Dword)
  | escrowReceived (lane : Nat) (blocks : List (Nat × Dword))
  | escrowCutoff
  | staleEp
  | joinEp
  | joinMs
  | revertMs
  | gradeHoldMs
  | lossOfLock
  | lock
  | phaseStep
  | aligned
  | tmbAdjGoIncr
  | tmbAdjGoStep
  | tmbCap
  | ethFrame (f : EthFrame)
  | ptpSync (m : PtpMsg)
  | followUp (m : PtpMsg)
  | pdelayReq (m : PtpMsg)
  | pdelayReqInterval (port : Nat)
  | pdelayResp (m : PtpMsg)
  | pdelayRespFollowUp (m : PtpMsg)
  | pdelayTimeout (port : Nat)
  | syncTo (x : Nat)
  | accept (x : Nat)
  | keep (x : Nat)
  | ttPulseStart (n : Nat)
  | ttPulseEnd (n : Nat)
  | schedCmdArm (entry : Nat)
  | schedCmdCancel (entry : Nat)
  | hoc (n : Nat)
  | desatTrip (n : Nat)
  | blankingEnd (n : Nat)
  | deadTimeEnd (n : Nat)
  | ddpCommandEdge (n : Nat)
  | chopOnTimeEnd
  | uvlo
  | uvloRelease
  | offStateTestPhaseEnd (n ballMv vddMv : Nat)
  | reenable (pairs : Nat)
  | test (pairs : Nat)
  | recArm
  | recDisarm
  | recTrig
  | recReset
  | recFree (seg : Nat)
  | hostTriggerDue
  | sqTail (q index : Nat) (bad : List Word)
  | cqHead (q index : Nat)
  | nop (q : Nat) (e : SqEntry)
  | regStage (q : Nat) (e : SqEntry)
  | regRead (q : Nat) (e : SqEntry)
  | commit (q : Nat) (e : SqEntry)
  | commitDescriptorAbandon (q : Nat) (e : SqEntry)
  | mode (q : Nat) (e : SqEntry)
  | schedArm (q : Nat) (e : SqEntry)
  | schedCancel (q : Nat) (e : SqEntry)
  | timeAdjIncr (q : Nat) (e : SqEntry)
  | timeAdjStep (q : Nat) (e : SqEntry)
  | tripOpTrip (q : Nat) (e : SqEntry)
  | tripOpEmergency (q : Nat) (e : SqEntry)
  | tripOpClear (q : Nat) (e : SqEntry)
  | recXfer (q : Nat) (e : SqEntry)
  | recXferDone (q : Nat)
  | recTrigDescriptor (q : Nat) (e : SqEntry)
  | ethTx (q : Nat) (e : SqEntry)
  | ethTxSent (port : Nat)
  | ethRxbuf (q : Nat) (e : SqEntry)
  | dmaError (q : Nat)
  | linkDown
  | coalescingTime (q : Nat)
  | vltBootGo (dma : Bool) (fw cfg : List Nat)
  | provision
  | setOwner
  | storeCert (len : Nat)
  | ctrInc (index : Nat)
  | sealVault
  | attest
  | attestReport
  | challenge
  | challengeExpiry
  | unlock
  | tlyPassDue (job : Nat)
  | tlyPassComplete (job corrected : Nat) (bad : List Nat)
  | emblkN
  | commitGo
  | commitAbandon
  | holdSet
  | holdClear
  | holdExpired
  | sysModeReq (target : Nat)
  | tripCtrlTrip
  | tripCtrlClear
  | registerWrite (off : Nat) (v : Word) (whole : Bool)
  | emblkNRelease
  | hocRelease (n : Nat)
  | dsInputChange (n : Nat) (level : Bool)
  | refInLoss
  | refInReturn
  | failedLockAttempt
  | linkUp (speed width : Nat)
  | pwrFailRelease
  | vltCommandComplete
  | bootImageTimeout
  | bar0ReadFault (off : Nat) (whole : Bool)
  | codeError (lane : Nat) (block : Dword)
  | boundaryScan (instr : Nat)
  | servicePortAccess
  | flashCondition (n : Nat) (flag : NodeFlag)
  | switchSlewComplete
  | msixTableWrite (index : Nat) (v : Word)
deriving DecidableEq, Repr

end Sys2Proof
end

