-- ==== Sys2Proof/Machine/Bits.lean ====
section
/-! DEFINITION. Bit fields, sign extension, byte order, saturating counters, small list helpers. -/
namespace Sys2Proof.Machine

/-- The bits `[hi:lo]` of a number. -/
def bitsOf (x hi lo : Nat) : Nat := (x / 2 ^ lo) % 2 ^ (hi + 1 - lo)

/-- The field `[hi:lo]` of a word, as a number. -/
def fld (w : Word) (hi lo : Nat) : Nat := bitsOf w.toNat hi lo

/-- Bit `i` of a word. -/
def bit (w : Word) (i : Nat) : Bool := w.toNat.testBit i

/-- Put `v` into the field `[hi:lo]`, the rest 0. -/
def put (hi lo v : Nat) : Nat := (v % 2 ^ (hi + 1 - lo)) * 2 ^ lo

/-- A number from a Bool: 1 for true. -/
def b2n (b : Bool) : Nat := if b then 1 else 0

/-- A word assembled from the sum of its fields. -/
def word (n : Nat) : Word := BitVec.ofNat 32 n

/-- The low 32 bits of a wider number. -/
def lo32 (n : Nat) : Word := BitVec.ofNat 32 n

/-- Bits [63:32] of a wider number. -/
def hi32 (n : Nat) : Word := BitVec.ofNat 32 (n / 2 ^ 32)

/-- The mask of the field `[hi:lo]`. -/
def maskOf (hi lo : Nat) : Nat := (2 ^ (hi + 1 - lo) - 1) * 2 ^ lo

/-- The two's-complement value of the low `n` bits of `x`. -/
def signed (n x : Nat) : Int := if (x % 2 ^ n) < 2 ^ (n - 1) then ((x % 2 ^ n : Nat) : Int) else ((x % 2 ^ n : Nat) : Int) - 2 ^ n

/-- The low `n` bits of an integer in two's complement. -/
def wrapInt (n : Nat) (x : Int) : Nat := (x % (2 ^ n : Int)).toNat

/-- Add to a counter that saturates at `cap`. -/
def satAdd (cap x n : Nat) : Nat := min cap (x + n)

/-- A counter of a 32-bit register that saturates. -/
def sat32 (x n : Nat) : Nat := satAdd 0xFFFFFFFF x n

/-- A counter of a 16-bit field that saturates. -/
def sat16 (x n : Nat) : Nat := satAdd 0xFFFF x n

/-- Clamp an integer into `[lo, hi]`. -/
def clampI (lo hi x : Int) : Int := max lo (min hi x)

/-- Ceiling division. -/
def cdiv (a b : Nat) : Nat := (a + b - 1) / b

/-- Little-endian bytes of a number (R15). -/
def leBytes : Nat → Nat → List Nat
  | 0, _ => []
  | n + 1, x => x % 256 :: leBytes n (x / 256)

/-- The number of little-endian bytes (R15). -/
def ofLe : List Nat → Nat
  | [] => 0
  | b :: bs => b % 256 + 256 * ofLe bs

/-- The number of big-endian bytes. -/
def ofBe (bs : List Nat) : Nat := bs.foldl (fun a b => a * 256 + b % 256) 0

/-- Big-endian bytes of a number. -/
def beBytes (n x : Nat) : List Nat := (leBytes n x).reverse

/-- The bits of a number, most significant first. -/
def bitsMsb : Nat → Nat → List Bool
  | 0, _ => []
  | n + 1, x => x.testBit n :: bitsMsb n x

/-- The number of a list of bits, most significant first. -/
def ofBitsMsb (bs : List Bool) : Nat := bs.foldl (fun a b => 2 * a + b2n b) 0

/-- Replace the element at an index; nothing outside the list. -/
def setAt {α : Type} (l : List α) (i : Nat) (v : α) : List α := l.set i v

/-- Apply a function to the element at an index. -/
def modAt {α : Type} (l : List α) (i : Nat) (f : α → α) : List α := l.modify i f

/-- The element at an index, or a default. -/
def nth {α : Type} (l : List α) (i : Nat) (d : α) : α := l.getD i d

/-- The word at an index of a list of words, 0 outside it. -/
def wAt (l : List Word) (i : Nat) : Word := l.getD i 0

/-- A map over the indices `0 … n-1`. -/
def forN {α : Type} (n : Nat) (f : Nat → α) : List α := (List.range n).map f

/-- The number whose bit `i` is `f i`, for `i < n`. -/
def bitmap (n : Nat) (f : Nat → Bool) : Nat := (List.range n).foldl (fun a i => a + b2n (f i) * 2 ^ i) 0

/-- The number of indices below `n` that satisfy `f`. -/
def countN (n : Nat) (f : Nat → Bool) : Nat := ((List.range n).filter f).length

/-- The first index below `n` that satisfies `f`. -/
def firstN (n : Nat) (f : Nat → Bool) : Option Nat := (List.range n).find? f

/-- The least of a list of numbers. -/
def minOf : List Nat → Option Nat
  | [] => none
  | x :: xs => match minOf xs with
    | none => some x
    | some y => some (min x y)

end Sys2Proof.Machine
end

