-- ==== Sys2Proof/Machine/Crc.lean ====
section
/-! DEFINITION. The CRCs of R8 and R564: CRC-32 (IEEE 802.3), CRC-32C, CRC-64 (ECMA-182), CRC-16-CCITT, bit by bit. -/
namespace Sys2Proof.Machine

/-- One shift of a CRC register of `n` bits taken most significant bit first. -/
def crcShiftL (n poly r : Nat) (b : Bool) : Nat :=
  let t := (r.testBit (n - 1)) != b
  let s := (r * 2) % 2 ^ n
  if t then s ^^^ poly else s

/-- One shift of a reflected CRC register. -/
def crcShiftR (poly r : Nat) (b : Bool) : Nat :=
  let t := (r.testBit 0) != b
  if t then (r / 2) ^^^ poly else r / 2

/-- A CRC over bits sent most significant first. -/
def crcBits (n poly init : Nat) (bs : List Bool) : Nat := bs.foldl (crcShiftL n poly) init

/-- The bits of a byte, least significant first. -/
def bitsLsb (b : Nat) : List Bool := (List.range 8).map b.testBit

/-- A non-reflected CRC over bytes. -/
def crcBytesL (n poly init : Nat) (bs : List Nat) : Nat := bs.foldl (fun r b => crcBits n poly r (bitsMsb 8 b)) init

/-- A reflected CRC over bytes. -/
def crcBytesR (poly init : Nat) (bs : List Nat) : Nat := bs.foldl (fun r b => (bitsLsb b).foldl (crcShiftR poly) r) init

/-- CRC-32 (IEEE 802.3) of bytes (R564). -/
def crc32 (bs : List Nat) : Nat := crcBytesR 0xEDB88320 0xFFFFFFFF bs ^^^ 0xFFFFFFFF

/-- CRC-32C of bytes (R564). -/
def crc32c (bs : List Nat) : Nat := crcBytesR 0x82F63B78 0xFFFFFFFF bs ^^^ 0xFFFFFFFF

/-- CRC-64 (ECMA-182) of bytes (R564). -/
def crc64 (bs : List Nat) : Nat := crcBytesL 64 0x42F0E1EBA9EA3693 0 bs

/-- CRC-16-CCITT of bytes (R564). -/
def crc16 (bs : List Nat) : Nat := crcBytesL 16 0x1021 0xFFFF bs

/-- CRC-16-CCITT of bits in transmission order (R296, R564). -/
def crc16Bits (bs : List Bool) : Nat := crcBits 16 0x1021 0xFFFF bs

/-- CRC-64 of bits in transmission order (R564). -/
def crc64Bits (bs : List Bool) : Nat := crcBits 64 0x42F0E1EBA9EA3693 0 bs

/-- The bytes of a list of words, each little-endian (R564, R15). -/
def wordBytes (ws : List Word) : List Nat := ws.flatMap (fun w => leBytes 4 w.toNat)

end Sys2Proof.Machine
end

