-- ==== Sys2Proof/Config.lean ====
section
/-! DEFINITION. What the spec leaves open or takes from a published standard it does not restate. Every constant is opaque:
no body, so nothing can be proved about its value. -/
namespace Sys2Proof

/-- Rounding direction of a computed binary32 quantity that is not representable: true rounds away from zero
(R15 names the format and no rounding rule). Log 2. -/
opaque Config.roundUp : Rat → Bool

/-- The value an engine uses for a NaN or infinite bit pattern; the spec states none. Log 3. -/
opaque Config.nonFinite : BitVec 32 → Rat

/-- A fresh undetermined number for each value of the free-value counter. Log 1. -/
opaque Config.free : Nat → Nat

/-- The next state of the PLL's 32-bit LFSR, whose polynomial R415 does not state. Log 55. -/
opaque Config.lfsrNext : Nat → Nat

/-- Whether a safety-island watchdog expires at an elapsed time; the spec states neither its time nor its service. Log 94. -/
opaque Config.watchdogExpires : Nat → Bool

/-- SHA-512 (FIPS 180-4) of a byte list, as a 64-byte list's number. Log 5. -/
opaque Config.sha512 : List Nat → Nat

/-- ECDSA on P-521 with SHA-512 (FIPS 186-5): whether a signature over a message verifies under a public key. Log 5. -/
opaque Config.ecdsaVerify (key : List Nat) (message : List Nat) (signature : List Nat) : Bool

/-- ECDSA on P-521: the signature the device makes with its private key over a message. Log 5. -/
opaque Config.ecdsaSign (privKey : List Nat) (message : List Nat) (nonce : Nat) : List Nat

/-- The P-521 public key of a private key. Log 5. -/
opaque Config.ecdsaPublic (privKey : List Nat) : List Nat

/-- What a node of the network declares about itself (R303, R325): node, field number. Log 8. -/
opaque Config.nodeIdent : Nat → Nat → Nat

/-- The root key hash of the device, fixed at manufacture (R553). Log 5. -/
opaque Config.rootHash : Nat

/-- Whether a port of P0 and P1 runs 10GBASE-R, else 1000BASE-X (R435): set by the line, not by a register. Log 9. -/
opaque Config.tenGig : Nat → Bool

/-- The result of a quotient whose divisor is zero, for which the spec states no value. Log 6. -/
opaque Config.divZero : Rat → Rat

end Sys2Proof
end

