-- ==== Sys2Proof/Machine/Float.lean ====
section
/-! DEFINITION. binary32 (IEEE 754, R8, R15): the value of a bit pattern, rounding to binary32, comparison and range check (R643). -/
namespace Sys2Proof.Machine

/-- The exact value of a finite binary32 pattern; none for NaN and the infinities. -/
def f32Value (w : Word) : Option Rat :=
  let e := fld w 30 23
  let m := fld w 22 0
  if e = 255 then none
  else
    let mag : Rat := if e = 0 then (m : Rat) / (2 : Rat) ^ 149
      else if 150 ≤ e then ((m + 0x800000) * 2 ^ (e - 150) : Nat) else ((m + 0x800000 : Nat) : Rat) / (2 : Rat) ^ (150 - e)
    some (if bit w 31 then -mag else mag)

/-- The value an engine uses for a pattern: its exact value, or the free value of a NaN or infinity. -/
def fv (w : Word) : Rat := (f32Value w).getD (Config.nonFinite w)

/-- A pattern is finite. -/
def f32Finite (w : Word) : Bool := fld w 30 23 != 255

/-- The pattern of the largest binary32 not above `num / den` in magnitude, and whether it is exact. -/
def truncMag (num den : Nat) : Nat × Bool :=
  if num = 0 then (0, true) else
  let l : Int := (Nat.log2 num : Int) - (Nat.log2 den : Int)
  let below : Bool := if 0 ≤ l then decide (num < den * 2 ^ l.toNat) else decide (num * 2 ^ (-l).toNat < den)
  let e : Int := max (-126) (if below then l - 1 else l)
  if 128 ≤ e then (0x7F7FFFFF, false) else
  let s : Int := 23 - e
  let n := if 0 ≤ s then num * 2 ^ s.toNat else num
  let d := if 0 ≤ s then den else den * 2 ^ (-s).toNat
  (((e + 126).toNat) * 2 ^ 23 + n / d, n % d = 0)

/-- A computed quantity in binary32: exact where it is representable, else one of the two neighbouring patterns, which one left free. -/
def rnd (x : Rat) : Word :=
  let t := truncMag x.num.natAbs x.den
  let m := if t.2 then t.1 else if Config.roundUp x then t.1 + 1 else t.1
  if x < 0 then word (m + 0x80000000) else word m

/-- A quantity in whole units: exact where it is whole, else one of the two neighbouring numbers, which one left free. -/
def roundFree (x : Rat) : Int := if x.den = 1 then x.num else if Config.roundUp x then x.floor + 1 else x.floor

/-- The binary32 nearest to an exact number, ties to even (R643). -/
def nearest (x : Rat) : Word :=
  let a := x.num.natAbs
  let t := truncMag a x.den
  let lo : Rat := fv (word t.1)
  let hi : Rat := if t.1 = 0x7F7FFFFF then (2 : Rat) ^ 128 else fv (word (t.1 + 1))
  let y : Rat := if x < 0 then -x else x
  let m := if t.2 then t.1 else if y - lo < hi - y then t.1 else if hi - y < y - lo then t.1 + 1 else if t.1 % 2 = 0 then t.1 else t.1 + 1
  if x < 0 then word (m + 0x80000000) else word m

/-- A decimal constant the device compares with a binary32 quantity (R643). -/
def decConst (x : Rat) : Rat := fv (nearest x)

/-- A staged pattern lies in the range between two binary32 values, ends included (R643); NaN and the infinities never do. -/
def f32InRange (lo hi w : Word) : Bool :=
  match f32Value w with
  | none => false
  | some v => decide (fv lo ≤ v) && decide (v ≤ fv hi)

/-- Clamp into `[lo, hi]`. -/
def clamp (lo hi x : Rat) : Rat := max lo (min hi x)

/-- Magnitude of a rational. -/
def rabs (x : Rat) : Rat := if x < 0 then -x else x

/-- 1.0. -/
def f32One : Word := 0x3F800000

/-- The pattern recorded for a channel without a valid value (R486). -/
def f32NaN : Word := 0x7FC00000

end Sys2Proof.Machine
end

