-- ==== Sys2Proof/Machine/Arith.lean ====
section
/-! DEFINITION. The real functions the engine formulas use, in fixed point far finer than binary32 (log 4): square root, sine, cosine,
arctangent; and angles as fractions of a turn. -/
namespace Sys2Proof.Machine

/-- π to 40 decimals. -/
def piR : Rat := 31415926535897932384626433832795028841972 / 10 ^ 40

/-- Scale of the fixed-point evaluation: 2⁻⁹⁶. -/
def fxOne : Int := 2 ^ 96

/-- A rational in fixed point, rounded down. -/
def toFx (x : Rat) : Int := (x * (fxOne : Rat)).floor

/-- A fixed-point number as a rational. -/
def ofFx (x : Int) : Rat := (x : Rat) / (fxOne : Rat)

/-- Terms of the alternating series of sine: `term · (−x²)/((k+1)(k+2))`. -/
def sinTerms : Nat → Nat → Int → Int → Int
  | 0, _, _, _ => 0
  | n + 1, k, x2, t => t + sinTerms n (k + 2) x2 (-(t * x2 / fxOne) / (((k + 1) * (k + 2) : Nat) : Int))

/-- The angle brought into −π … π. -/
def wrapPi (x : Rat) : Rat := x - 2 * piR * (((x / (2 * piR)) + 1 / 2).floor : Rat)

/-- Sine of an angle in radians. -/
def sinR (x : Rat) : Rat :=
  let f := toFx (wrapPi x)
  ofFx (sinTerms 30 1 (f * f / fxOne) f)

/-- Cosine of an angle in radians. -/
def cosR (x : Rat) : Rat := sinR (x + piR / 2)

/-- Square root of a rational, 0 for a negative one. -/
def sqrtR (x : Rat) : Rat :=
  if x ≤ 0 then 0 else ((Nat.sqrt ((x * 2 ^ 192).floor.toNat) : Nat) : Rat) / 2 ^ 96

/-- Terms of the alternating series of arctangent. -/
def atanTerms : Nat → Nat → Int → Int → Int
  | 0, _, _, _ => 0
  | n + 1, k, x2, p => p / ((k : Nat) : Int) + atanTerms n (k + 2) x2 (-(p * x2 / fxOne))

/-- Arctangent of a number in −1 … 1, by two halvings of the angle and the series. -/
def atanUnit (t : Rat) : Rat :=
  let q (t : Rat) : Rat := ofFx (toFx (t / (1 + sqrtR (1 + t * t))))
  let u := toFx (q (q t))
  4 * ofFx (atanTerms 60 1 (u * u / fxOne) u)

/-- The angle of the vector (x, y), −π … π; 0 for the zero vector. -/
def atan2R (y x : Rat) : Rat :=
  if x = 0 ∧ y = 0 then 0
  else if rabs y ≤ rabs x then
    let a := atanUnit (y / x)
    if 0 ≤ x then a else if 0 ≤ y then a + piR else a - piR
  else
    let a := atanUnit (x / y)
    if 0 ≤ y then piR / 2 - a else -(piR / 2) - a

/-- Magnitude of a vector. -/
def hypotR (x y : Rat) : Rat := sqrtR (x * x + y * y)

/-- √2. -/
def sqrt2 : Rat := sqrtR 2

/-- √3. -/
def sqrt3 : Rat := sqrtR 3

/-- The angle in radians, −π … π, of a 64-bit accumulator in which a full turn is 2⁶⁴. -/
def accAngle (a : Dword) : Rat := 2 * piR * ((signed 64 a.toNat : Int) : Rat) / 2 ^ 64

/-- The 64-bit accumulator of an angle in radians, rounded down to the accumulator's unit. -/
def angleAcc (x : Rat) : Dword := BitVec.ofNat 64 (wrapInt 64 ((x / (2 * piR) * 2 ^ 64).floor))

/-- A complex number: an αβ or dq pair. -/
structure Cx where
  re : Rat
  im : Rat
deriving DecidableEq, Repr

/-- Zero. -/
def cx0 : Cx := ⟨0, 0⟩
/-- Sum. -/
def cadd (a b : Cx) : Cx := ⟨a.re + b.re, a.im + b.im⟩
/-- Difference. -/
def csub (a b : Cx) : Cx := ⟨a.re - b.re, a.im - b.im⟩
/-- Product. -/
def cmul (a b : Cx) : Cx := ⟨a.re * b.re - a.im * b.im, a.re * b.im + a.im * b.re⟩
/-- Product with a real number. -/
def csc (k : Rat) (a : Cx) : Cx := ⟨k * a.re, k * a.im⟩
/-- Conjugate. -/
def conj (a : Cx) : Cx := ⟨a.re, -a.im⟩
/-- Unit vector at an angle. -/
def cis (x : Rat) : Cx := ⟨cosR x, sinR x⟩
/-- Magnitude. -/
def cabs (a : Cx) : Rat := hypotR a.re a.im
/-- Unit vector along a vector; the real axis for the zero vector. -/
def cdir (a : Cx) : Cx := if a.re = 0 ∧ a.im = 0 then ⟨1, 0⟩ else csc (1 / cabs a) a
/-- The two words of a pair, rounded to binary32. -/
def cxWords (a : Cx) : List Word := [rnd a.re, rnd a.im]
/-- The pair held in words `i` and `i+1` of a list. -/
def cxAt (l : List Word) (i : Nat) : Cx := ⟨fv (wAt l i), fv (wAt l (i + 1))⟩
/-- Sign times magnitude. -/
def withSign (s m : Rat) : Rat := if s < 0 then -m else m
/-- Move `x` towards `e` by at most `d`. -/
def towards (x e d : Rat) : Rat := if x < e then min e (x + d) else max e (x - d)
/-- First-order low-pass of R137. -/
def lowpass (tc T y x : Rat) : Rat := if T + tc = 0 then x else y + tc / (T + tc) * (x - y)

end Sys2Proof.Machine
end

