-- ==== Sys2Proof/Machine/RegNames.lean ====
section
/-! DEFINITION. The BAR0 offset of every register under its name in the spec; a repeated register takes its indices. -/
namespace Sys2Proof.Machine

-- SYS
def R.SYS_ID : Nat := 0x00000000
def R.SYS_SNAP_EPOCH_LO : Nat := 0x00000010
def R.SYS_SNAP_EPOCH_HI : Nat := 0x00000014
def R.SYS_COMMIT : Nat := 0x00000020
def R.SYS_COMMIT_STATUS : Nat := 0x00000024
def R.SYS_COMMIT_EPOCH_LO : Nat := 0x00000028
def R.SYS_COMMIT_EPOCH_HI : Nat := 0x0000002C
def R.SYS_COMMIT_LATE_NS : Nat := 0x00000030
def R.SYS_STAGE_GEN : Nat := 0x00000034
def R.SYS_SNAP_CTRL : Nat := 0x00000038
def R.SYS_STAGE_STATUS : Nat := 0x0000003C
def R.SYS_DIGEST_CTRL : Nat := 0x00000040
def R.SYS_DIGEST_DROP : Nat := 0x00000044
def R.SYS_OVERRUN : Nat := 0x00000048
def R.SYS_MODE : Nat := 0x00000050
def R.SYS_MODE_REQ : Nat := 0x00000054
def R.SYS_MODE_RESULT : Nat := 0x00000058
def R.SYS_MODE_LATE_NS : Nat := 0x0000005C
def R.SYS_MODE_EPOCH_LO : Nat := 0x00000060
def R.SYS_MODE_EPOCH_HI : Nat := 0x00000064
def R.SYS_MODE_CTRL : Nat := 0x00000068
def R.SYS_TRIP_CAUSE : Nat := 0x0000006C
def R.SYS_TRIP_CTRL : Nat := 0x00000070
def R.SYS_TRIP_EPOCH_LO : Nat := 0x00000074
def R.SYS_TRIP_EPOCH_HI : Nat := 0x00000078
def R.SYS_BOOT_STATUS : Nat := 0x0000007C
def R.SYS_FRT_EXIT_VAC : Nat := 0x00000080
def R.SYS_FRT_EXIT_VDC : Nat := 0x00000084
def R.SYS_FRT_TIMING : Nat := 0x00000088
def R.SYS_FRT_STATUS : Nat := 0x0000008C
def R.SYS_HO_SLEW_P : Nat := 0x00000090
def R.SYS_HO_SLEW_Q : Nat := 0x00000094
def R.SYS_HO_SLEW_VAC : Nat := 0x00000098
def R.SYS_HO_SLEW_VDC : Nat := 0x0000009C
def R.SYS_RESET_CAUSE : Nat := 0x000000A0

-- PWR
def R.PWR_DOMAIN_EN : Nat := 0x00010000
def R.PWR_DOMAIN_STATUS : Nat := 0x00010004
def R.PWR_STATUS : Nat := 0x00010008

-- CLK
def R.CLK_PLL_CFG : Nat := 0x00020000
def R.CLK_PLL_SEED : Nat := 0x00020004
def R.CLK_STATUS : Nat := 0x00020010
def R.CLK_FREQ_OFS : Nat := 0x00020014
def R.CLK_PHASE_ERR : Nat := 0x00020018
def R.CLK_MULT_INT : Nat := 0x0002001C
def R.CLK_MULT_FRAC : Nat := 0x00020020
def R.CLK_PSTEP_NET : Nat := 0x00020024
def R.CLK_CKOn_CFG (n : Nat) : Nat := 0x00020100 + 0x4 * n

-- TMB
def R.TMB_PERIOD : Nat := 0x00030008
def R.TMB_CAP : Nat := 0x00030010
def R.TMB_CAP_SEC_LO : Nat := 0x00030014
def R.TMB_CAP_SEC_HI : Nat := 0x00030018
def R.TMB_CAP_NS : Nat := 0x0003001C
def R.TMB_CAP_FRAC : Nat := 0x00030020
def R.TMB_INCR_LO : Nat := 0x00030030
def R.TMB_INCR_HI : Nat := 0x00030034
def R.TMB_ADJ_TRIM_LO : Nat := 0x00030040
def R.TMB_ADJ_TRIM_HI : Nat := 0x00030044
def R.TMB_ADJ_STEP_LO : Nat := 0x00030048
def R.TMB_ADJ_STEP_HI : Nat := 0x0003004C
def R.TMB_ADJ_GO : Nat := 0x00030050
def R.TMB_ADJ_RESULT : Nat := 0x00030054
def R.TMB_STATUS : Nat := 0x00030060
def R.TMB_SCHED_CMD : Nat := 0x00030070
def R.TMB_EPOCH_ORIGIN_LO : Nat := 0x00030100
def R.TMB_EPOCH_ORIGIN_HI : Nat := 0x00030104
def R.TMB_TTn_CFG (n : Nat) : Nat := 0x00030200 + 0x20 * n
def R.TMB_TTn_T0_LO (n : Nat) : Nat := 0x00030204 + 0x20 * n
def R.TMB_TTn_T0_HI (n : Nat) : Nat := 0x00030208 + 0x20 * n
def R.TMB_TTn_T0_NS (n : Nat) : Nat := 0x0003020C + 0x20 * n
def R.TMB_TTn_PERIOD (n : Nat) : Nat := 0x00030210 + 0x20 * n
def R.TMB_TTn_WIDTH (n : Nat) : Nat := 0x00030214 + 0x20 * n
def R.TMB_TTn_STAT (n : Nat) : Nat := 0x00030218 + 0x20 * n
def R.TMB_SCHEDe_SEC_LO (e : Nat) : Nat := 0x00030400 + 0x20 * e
def R.TMB_SCHEDe_SEC_HI (e : Nat) : Nat := 0x00030404 + 0x20 * e
def R.TMB_SCHEDe_NS (e : Nat) : Nat := 0x00030408 + 0x20 * e
def R.TMB_SCHEDe_ACT (e : Nat) : Nat := 0x0003040C + 0x20 * e
def R.TMB_SCHEDe_VALUE (e : Nat) : Nat := 0x00030410 + 0x20 * e
def R.TMB_SCHEDe_STATUS (e : Nat) : Nat := 0x00030414 + 0x20 * e
def R.TMB_SCHEDe_LATE_NS (e : Nat) : Nat := 0x00030418 + 0x20 * e

-- PTP
def R.PTP_CTRL : Nat := 0x00040000
def R.PTP_CLOCK_ID_LO : Nat := 0x00040008
def R.PTP_CLOCK_ID_HI : Nat := 0x0004000C
def R.PTP_SEL : Nat := 0x00040010
def R.PTP_STATUS : Nat := 0x00040014
def R.PTP_SLEW_REM : Nat := 0x00040018
def R.PTP_XCHK_LIM : Nat := 0x0004001C
def R.PTP_DOMx_CFG (x : Nat) : Nat := 0x00040100 + 0x40 * x
def R.PTP_DOMx_ASYM_LIM (x : Nat) : Nat := 0x00040104 + 0x40 * x
def R.PTP_DOMx_LOCK_LIM (x : Nat) : Nat := 0x00040108 + 0x40 * x
def R.PTP_DOMx_SYNC_TO (x : Nat) : Nat := 0x0004010C + 0x40 * x
def R.PTP_DOMx_CMD (x : Nat) : Nat := 0x00040110 + 0x40 * x
def R.PTP_DOMx_STATE (x : Nat) : Nat := 0x00040114 + 0x40 * x
def R.PTP_DOMx_OFS_LO (x : Nat) : Nat := 0x00040118 + 0x40 * x
def R.PTP_DOMx_OFS_HI (x : Nat) : Nat := 0x0004011C + 0x40 * x
def R.PTP_DOMx_MPD (x : Nat) : Nat := 0x00040120 + 0x40 * x
def R.PTP_DOMx_MPD_REF (x : Nat) : Nat := 0x00040124 + 0x40 * x

-- PCI
def R.PCI_LINK_STATUS : Nat := 0x00050000
def R.PCI_EVT_CFG : Nat := 0x00050010
def R.PCI_EVT_LOST : Nat := 0x00050014
def R.PCI_ETH_CFG : Nat := 0x00050020
def R.PCI_ETH_DROP : Nat := 0x00050024
def R.PCI_ETH_MACp_LO (p : Nat) : Nat := 0x00050040 + 0x8 * p
def R.PCI_ETH_MACp_HI (p : Nat) : Nat := 0x00050044 + 0x8 * p
def R.PCI_DIGEST_SELi (i : Nat) : Nat := 0x00050080 + 0x4 * i
def R.PCI_Qq_CFG (q : Nat) : Nat := 0x00051000 + 0x40 * q
def R.PCI_Qq_SQ_LO (q : Nat) : Nat := 0x00051004 + 0x40 * q
def R.PCI_Qq_SQ_HI (q : Nat) : Nat := 0x00051008 + 0x40 * q
def R.PCI_Qq_CQ_LO (q : Nat) : Nat := 0x0005100C + 0x40 * q
def R.PCI_Qq_CQ_HI (q : Nat) : Nat := 0x00051010 + 0x40 * q
def R.PCI_Qq_COAL (q : Nat) : Nat := 0x00051014 + 0x40 * q
def R.PCI_Qq_STATUS (q : Nat) : Nat := 0x00051020 + 0x40 * q
def R.PCI_Qq_DROP (q : Nat) : Nat := 0x00051024 + 0x40 * q

-- SUP

-- VLT
def R.VLT_STATE : Nat := 0x00070000
def R.VLT_BOOT_STATUS : Nat := 0x00070004
def R.VLT_BOOT_FW_LO : Nat := 0x00070008
def R.VLT_BOOT_FW_HI : Nat := 0x0007000C
def R.VLT_BOOT_FW_LEN : Nat := 0x00070010
def R.VLT_BOOT_CFG_LO : Nat := 0x00070014
def R.VLT_BOOT_CFG_HI : Nat := 0x00070018
def R.VLT_BOOT_CFG_LEN : Nat := 0x0007001C
def R.VLT_BOOT_GO : Nat := 0x00070020
def R.VLT_CMD : Nat := 0x00070040
def R.VLT_CMD_STATUS : Nat := 0x00070044
def R.VLT_ROOT_HASHw (w : Nat) : Nat := 0x00070100 + 0x4 * w
def R.VLT_OWNER_HASHw (w : Nat) : Nat := 0x00070140 + 0x4 * w
def R.VLT_FW_MEASw (w : Nat) : Nat := 0x00070180 + 0x4 * w
def R.VLT_CFG_MEASw (w : Nat) : Nat := 0x000701C0 + 0x4 * w
def R.VLT_CTRn (n : Nat) : Nat := 0x00070200 + 0x4 * n
def R.VLT_ID_PUBw (w : Nat) : Nat := 0x00070300 + 0x4 * w
def R.VLT_ARGw (w : Nat) : Nat := 0x00070800 + 0x4 * w

-- APU
def R.APU_BAR0_LVL : Nat := 0x00080000
def R.APU_DEFAULT : Nat := 0x00080004
def R.APU_FAULT_OFS : Nat := 0x00080010
def R.APU_FAULT_INFO : Nat := 0x00080014
def R.APU_FAULT_CNT : Nat := 0x00080018
def R.APU_RGNn_BASE (n : Nat) : Nat := 0x00080100 + 0x10 * n
def R.APU_RGNn_END (n : Nat) : Nat := 0x00080104 + 0x10 * n
def R.APU_RGNn_CFG (n : Nat) : Nat := 0x00080108 + 0x10 * n

-- ADC
def R.ADC_CTRL : Nat := 0x00090000
def R.ADC_STATUS : Nat := 0x00090004
def R.ADC_GAINn (n : Nat) : Nat := 0x00090020 + 0x4 * n
def R.ADC_COREc_CFG (c : Nat) : Nat := 0x00090100 + 0x100 * c
def R.ADC_COREc_REGe (c e : Nat) : Nat := 0x00090110 + 0x100 * c + 0x4 * e
def R.ADC_COREc_INJe (c e : Nat) : Nat := 0x00090150 + 0x100 * c + 0x4 * e
def R.ADC_COREc_STAT (c : Nat) : Nat := 0x00090160 + 0x100 * c
def R.ADC_COREc_SEQ_END (c : Nat) : Nat := 0x00090164 + 0x100 * c
def R.ADC_COREc_SOFT (c : Nat) : Nat := 0x00090168 + 0x100 * c
def R.ADC_RESc_e (c e : Nat) : Nat := 0x00091000 + 0x40 * c + 0x4 * e
def R.ADC_INJc_e (c e : Nat) : Nat := 0x00091100 + 0x10 * c + 0x4 * e
def R.ADC_INJc_SEC (c : Nat) : Nat := 0x00091140 + 0x10 * c
def R.ADC_INJc_NS (c : Nat) : Nat := 0x00091144 + 0x10 * c
def R.ADC_INJc_EPOCH (c : Nat) : Nat := 0x00091148 + 0x10 * c

-- SVI
def R.SVI_CTRL : Nat := 0x000A0000
def R.SVI_STATUS : Nat := 0x000A0004
def R.SVI_STRs_CFG (s : Nat) : Nat := 0x000A0100 + 0x80 * s
def R.SVI_STRs_APPID (s : Nat) : Nat := 0x000A0104 + 0x80 * s
def R.SVI_STRs_RATE (s : Nat) : Nat := 0x000A0110 + 0x80 * s
def R.SVI_STRs_SVIDw (s w : Nat) : Nat := 0x000A0120 + 0x80 * s + 0x4 * w
def R.SVI_STRs_STAT (s : Nat) : Nat := 0x000A0160 + 0x80 * s
def R.SVI_STRs_DISC (s : Nat) : Nat := 0x000A0164 + 0x80 * s
def R.SVI_STRs_DUP (s : Nat) : Nat := 0x000A0168 + 0x80 * s
def R.SVI_STRs_GAP (s : Nat) : Nat := 0x000A016C + 0x80 * s
def R.SVI_STRs_AGE (s : Nat) : Nat := 0x000A0170 + 0x80 * s
def R.SVI_VALs_v (s v : Nat) : Nat := 0x000A1000 + 0x20 * s + 0x4 * v

-- MCD
def R.MCD_BASE_S : Nat := 0x000B0000
def R.MCD_BASE_VAC : Nat := 0x000B0004
def R.MCD_BASE_VDC : Nat := 0x000B0008
def R.MCD_BASE_F : Nat := 0x000B000C
def R.MCD_CTRL : Nat := 0x000B0010
def R.MCD_FLL_GAIN : Nat := 0x000B0014
def R.MCD_FLL_VMIN : Nat := 0x000B0018
def R.MCD_TIMING : Nat := 0x000B001C
def R.MCD_STATUS : Nat := 0x000B0020
def R.MCD_INm_SRC (m : Nat) : Nat := 0x000B0100 + 0x10 * m
def R.MCD_INm_GAIN (m : Nat) : Nat := 0x000B0104 + 0x10 * m
def R.MCD_INm_OFS (m : Nat) : Nat := 0x000B0108 + 0x10 * m
def R.MCD_INm_STAT (m : Nat) : Nat := 0x000B010C + 0x10 * m
def R.MCD_Qx (x : Nat) : Nat := 0x000B0400 + 0x4 * x

-- GFE
def R.GFE_CTRL : Nat := 0x000C0000
def R.GFE_STATUS : Nat := 0x000C0004
def R.GFE_INERTIA : Nat := 0x000C0010
def R.GFE_DAMPING : Nat := 0x000C0014
def R.GFE_DAMP_LIM : Nat := 0x000C0018
def R.GFE_DROOP_PF : Nat := 0x000C001C
def R.GFE_DROOP_QV : Nat := 0x000C0020
def R.GFE_P0 : Nat := 0x000C0024
def R.GFE_Q0 : Nat := 0x000C0028
def R.GFE_V0 : Nat := 0x000C002C
def R.GFE_F0 : Nat := 0x000C0030
def R.GFE_TF_P : Nat := 0x000C0034
def R.GFE_TF_Q : Nat := 0x000C0038
def R.GFE_FREQ_LIM : Nat := 0x000C003C
def R.GFE_REST_KF : Nat := 0x000C0040
def R.GFE_REST_KV : Nat := 0x000C0044
def R.GFE_REST_PLIM : Nat := 0x000C0048
def R.GFE_REST_VLIM : Nat := 0x000C004C
def R.GFE_VI_R : Nat := 0x000C0060
def R.GFE_VI_X : Nat := 0x000C0064
def R.GFE_VI_XN : Nat := 0x000C0068
def R.GFE_VI_TR_X : Nat := 0x000C006C
def R.GFE_VI_TR_TC : Nat := 0x000C0070
def R.GFE_VL_KP : Nat := 0x000C0080
def R.GFE_VL_KI : Nat := 0x000C0084
def R.GFE_VL_KPN : Nat := 0x000C0088
def R.GFE_VL_KIN : Nat := 0x000C008C
def R.GFE_CL_KP : Nat := 0x000C0090
def R.GFE_CL_KI : Nat := 0x000C0094
def R.GFE_CL_KPN : Nat := 0x000C0098
def R.GFE_CL_KIN : Nat := 0x000C009C
def R.GFE_LEQ : Nat := 0x000C00A0
def R.GFE_REQ : Nat := 0x000C00A4
def R.GFE_IMAX : Nat := 0x000C00C0
def R.GFE_INEG_MAX : Nat := 0x000C00C4
def R.GFE_FRT_K : Nat := 0x000C00C8
def R.GFE_FRT_DB : Nat := 0x000C00CC
def R.GFE_BS_CTRL : Nat := 0x000C0100
def R.GFE_BS_STATUS : Nat := 0x000C0104
def R.GFE_BS_VREF : Nat := 0x000C0108
def R.GFE_RESYNC_CTRL : Nat := 0x000C0140
def R.GFE_RESYNC_CFG : Nat := 0x000C0144
def R.GFE_RESYNC_TOL : Nat := 0x000C0148
def R.GFE_RESYNC_GAIN : Nat := 0x000C014C
def R.GFE_RESYNC_SLIP : Nat := 0x000C0150
def R.GFE_RESYNC_STATUS : Nat := 0x000C0160
def R.GFE_RESYNC_DANG : Nat := 0x000C0164
def R.GFE_RESYNC_DF : Nat := 0x000C0168
def R.GFE_RESYNC_DV : Nat := 0x000C016C
def R.GFE_PLL_KP : Nat := 0x000C0180
def R.GFE_PLL_KI : Nat := 0x000C0184
def R.GFE_PLL_FLIM : Nat := 0x000C0188
def R.GFE_GFL_P : Nat := 0x000C01C0
def R.GFE_GFL_Q : Nat := 0x000C01C4
def R.GFE_HANDOVER : Nat := 0x000C0200
def R.GFE_HO_ANGLE : Nat := 0x000C0204
def R.GFE_ROTOR_ANGLE : Nat := 0x000C0300
def R.GFE_ROTOR_FREQ : Nat := 0x000C0304
def R.GFE_PLL_ANGLE : Nat := 0x000C0308
def R.GFE_PLL_FREQ : Nat := 0x000C030C
def R.GFE_PE : Nat := 0x000C0310
def R.GFE_QE : Nat := 0x000C0314
def R.GFE_PM : Nat := 0x000C0318
def R.GFE_EMF : Nat := 0x000C031C
def R.GFE_REST_P : Nat := 0x000C0320
def R.GFE_REST_V : Nat := 0x000C0324
def R.GFE_PAVAIL : Nat := 0x000C0328
def R.GFE_IREF_A : Nat := 0x000C0330
def R.GFE_IREF_R : Nat := 0x000C0334
def R.GFE_IREF_N : Nat := 0x000C0338

-- CCE
def R.CCE_CTRL : Nat := 0x000D0000
def R.CCE_STATUS : Nat := 0x000D0004
def R.CCE_CSM : Nat := 0x000D0010
def R.CCE_EN_VCELL : Nat := 0x000D0014
def R.CCE_ARM_MARGIN : Nat := 0x000D0018
def R.CCE_W_TF : Nat := 0x000D001C
def R.CCE_W_KP : Nat := 0x000D0020
def R.CCE_W_KI : Nat := 0x000D0024
def R.CCE_W_PLIM : Nat := 0x000D0028
def R.CCE_HB_KP : Nat := 0x000D0030
def R.CCE_HB_KI : Nat := 0x000D0034
def R.CCE_VB_KP : Nat := 0x000D0038
def R.CCE_VB_KI : Nat := 0x000D003C
def R.CCE_BAL_ILIM : Nat := 0x000D0040
def R.CCE_CC_KP : Nat := 0x000D0050
def R.CCE_CC_KI : Nat := 0x000D0054
def R.CCE_CC_KR : Nat := 0x000D0058
def R.CCE_CC_ULIM : Nat := 0x000D005C
def R.CCE_IDC_LIM : Nat := 0x000D0060
def R.CCE_IDC_ZERO : Nat := 0x000D0064
def R.CCE_DCV_VSET : Nat := 0x000D0080
def R.CCE_DCV_PSET : Nat := 0x000D0084
def R.CCE_DCV_DROOP : Nat := 0x000D0088
def R.CCE_DCV_KP : Nat := 0x000D008C
def R.CCE_DCV_KI : Nat := 0x000D0090
def R.CCE_DCV_TRIM : Nat := 0x000D0094
def R.CCE_DCV_PLIM : Nat := 0x000D0098
def R.CCE_DCF_ILIM : Nat := 0x000D00A0
def R.CCE_DCF_IRES : Nat := 0x000D00A4
def R.CCE_DCF_VRES : Nat := 0x000D00A8
def R.CCE_DCF_TIMING : Nat := 0x000D00AC
def R.CCE_ARM_IBLK : Nat := 0x000D00B0
def R.CCE_EPS_ARMn (n : Nat) : Nat := 0x000D0300 + 0x4 * n
def R.CCE_EPS_SUM : Nat := 0x000D0318
def R.CCE_PW : Nat := 0x000D031C
def R.CCE_VDC : Nat := 0x000D0320
def R.CCE_IDC : Nat := 0x000D0324
def R.CCE_IDC_REF : Nat := 0x000D0328
def R.CCE_PREF : Nat := 0x000D032C
def R.CCE_VARM_REFn (n : Nat) : Nat := 0x000D0340 + 0x4 * n
def R.CCE_ICIRCj (j : Nat) : Nat := 0x000D0360 + 0x4 * j
def R.CCE_IARMn (n : Nat) : Nat := 0x000D0370 + 0x4 * n
def R.CCE_PRC_CTRL : Nat := 0x000D0400
def R.CCE_PRC_VCELL : Nat := 0x000D0404
def R.CCE_PRC_RATE : Nat := 0x000D0408
def R.CCE_PRC_TIMEOUT : Nat := 0x000D040C
def R.CCE_PRC_STATUS : Nat := 0x000D0410

-- LPE
def R.LPE_SAT_LO : Nat := 0x000E0010
def R.LPE_SAT_HI : Nat := 0x000E0014
def R.LPE_MAN_LO : Nat := 0x000E0018
def R.LPE_MAN_HI : Nat := 0x000E001C
def R.LPE_OSC_LO : Nat := 0x000E0020
def R.LPE_OSC_HI : Nat := 0x000E0024
def R.LPE_PIn_CFG (n : Nat) : Nat := 0x000E0100 + 0x10 * n
def R.LPE_PIn_FREQ (n : Nat) : Nat := 0x000E0104 + 0x10 * n
def R.LPE_PIn_DUTY (n : Nat) : Nat := 0x000E0108 + 0x10 * n
def R.LPE_PIn_STATUS (n : Nat) : Nat := 0x000E010C + 0x10 * n
def R.LPE_SLOTn_CTRL (n : Nat) : Nat := 0x000E1000 + 0x80 * n
def R.LPE_SLOTn_SRC (n : Nat) : Nat := 0x000E1004 + 0x80 * n
def R.LPE_SLOTn_SP_CONST (n : Nat) : Nat := 0x000E1008 + 0x80 * n
def R.LPE_SLOTn_SP_GAIN (n : Nat) : Nat := 0x000E100C + 0x80 * n
def R.LPE_SLOTn_SP_OFS (n : Nat) : Nat := 0x000E1010 + 0x80 * n
def R.LPE_SLOTn_PV_GAIN (n : Nat) : Nat := 0x000E1014 + 0x80 * n
def R.LPE_SLOTn_PV_OFS (n : Nat) : Nat := 0x000E1018 + 0x80 * n
def R.LPE_SLOTn_MAN (n : Nat) : Nat := 0x000E101C + 0x80 * n
def R.LPE_SLOTn_MAN_SLEW (n : Nat) : Nat := 0x000E1020 + 0x80 * n
def R.LPE_SLOTn_OSC_AMP (n : Nat) : Nat := 0x000E1024 + 0x80 * n
def R.LPE_SLOTn_OSC_CFG (n : Nat) : Nat := 0x000E1028 + 0x80 * n
def R.LPE_SLOTn_RMAX (n : Nat) : Nat := 0x000E102C + 0x80 * n
def R.LPE_SLOTn_KP_A (n : Nat) : Nat := 0x000E1030 + 0x80 * n
def R.LPE_SLOTn_KI_A (n : Nat) : Nat := 0x000E1034 + 0x80 * n
def R.LPE_SLOTn_KD_A (n : Nat) : Nat := 0x000E1038 + 0x80 * n
def R.LPE_SLOTn_TF_A (n : Nat) : Nat := 0x000E103C + 0x80 * n
def R.LPE_SLOTn_B_A (n : Nat) : Nat := 0x000E1040 + 0x80 * n
def R.LPE_SLOTn_TT_A (n : Nat) : Nat := 0x000E1044 + 0x80 * n
def R.LPE_SLOTn_UMIN_A (n : Nat) : Nat := 0x000E1048 + 0x80 * n
def R.LPE_SLOTn_UMAX_A (n : Nat) : Nat := 0x000E104C + 0x80 * n
def R.LPE_SLOTn_KP_B (n : Nat) : Nat := 0x000E1050 + 0x80 * n
def R.LPE_SLOTn_KI_B (n : Nat) : Nat := 0x000E1054 + 0x80 * n
def R.LPE_SLOTn_KD_B (n : Nat) : Nat := 0x000E1058 + 0x80 * n
def R.LPE_SLOTn_TF_B (n : Nat) : Nat := 0x000E105C + 0x80 * n
def R.LPE_SLOTn_B_B (n : Nat) : Nat := 0x000E1060 + 0x80 * n
def R.LPE_SLOTn_TT_B (n : Nat) : Nat := 0x000E1064 + 0x80 * n
def R.LPE_SLOTn_UMIN_B (n : Nat) : Nat := 0x000E1068 + 0x80 * n
def R.LPE_SLOTn_UMAX_B (n : Nat) : Nat := 0x000E106C + 0x80 * n
def R.LPE_SLOTn_OUT (n : Nat) : Nat := 0x000E1070 + 0x80 * n
def R.LPE_SLOTn_STAT (n : Nat) : Nat := 0x000E1074 + 0x80 * n
def R.LPE_SLOTn_ERR (n : Nat) : Nat := 0x000E1078 + 0x80 * n
def R.LPE_SLOTn_INT (n : Nat) : Nat := 0x000E107C + 0x80 * n

-- RAE
def R.RAE_CTRL : Nat := 0x000F0000
def R.RAE_STATUS : Nat := 0x000F0004
def R.RAE_FIRE_CNTn (n : Nat) : Nat := 0x000F0010 + 0x4 * n
def R.RAE_SEL_CNTn (n : Nat) : Nat := 0x000F0020 + 0x4 * n
def R.RAE_LAST_EPOCH_LO : Nat := 0x000F0030
def R.RAE_LAST_EPOCH_HI : Nat := 0x000F0034
def R.RAE_C0_VDIP : Nat := 0x000F0100
def R.RAE_C0_VNEG : Nat := 0x000F0104
def R.RAE_C1_VUV : Nat := 0x000F0110
def R.RAE_C1_VPOLE : Nat := 0x000F0114
def R.RAE_C1_IOC : Nat := 0x000F0118
def R.RAE_C1_DIDT : Nat := 0x000F011C
def R.RAE_C2_CFG : Nat := 0x000F0120
def R.RAE_C3_CFG : Nat := 0x000F0130

-- MBE
def R.MBE_CTRL : Nat := 0x00100000
def R.MBE_STATUS : Nat := 0x00100004
def R.MBE_BAND : Nat := 0x00100010
def R.MBE_IDEAD : Nat := 0x00100014
def R.MBE_VLIM : Nat := 0x00100018
def R.MBE_RED_CFG : Nat := 0x0010001C
def R.MBE_ARMn_CFG (n : Nat) : Nat := 0x00100100 + 0x10 * n
def R.MBE_ARMn_NODES (n : Nat) : Nat := 0x00100200 + 0x20 * n
def R.MBE_ARMn_HEALTH (n : Nat) : Nat := 0x00100204 + 0x20 * n
def R.MBE_ARMn_RED (n : Nat) : Nat := 0x00100208 + 0x20 * n
def R.MBE_ARMn_INS (n : Nat) : Nat := 0x0010020C + 0x20 * n
def R.MBE_ARMn_PWM (n : Nat) : Nat := 0x00100210 + 0x20 * n
def R.MBE_ARMn_SW (n : Nat) : Nat := 0x00100214 + 0x20 * n
def R.MBE_ARMn_VMEAN (n : Nat) : Nat := 0x00100218 + 0x20 * n
def R.MBE_ARMn_SW_TOTAL (n : Nat) : Nat := 0x0010021C + 0x20 * n

-- IKL
def R.IKL_CTRL : Nat := 0x00110000
def R.IKL_LANE_EN : Nat := 0x00110004
def R.IKL_SCAN : Nat := 0x00110008
def R.IKL_STATUS : Nat := 0x00110010
def R.IKL_COUNTS : Nat := 0x00110014
def R.IKL_BUDGET : Nat := 0x00110018
def R.IKL_MARGIN : Nat := 0x0011001C
def R.IKL_DISC : Nat := 0x00110020
def R.IKL_DISC_STATUS : Nat := 0x00110024
def R.IKL_NODE_CMD : Nat := 0x00110028
def R.IKL_OVF_COUNT : Nat := 0x0011002C
def R.IKL_OVF_CLEAR : Nat := 0x00110030
def R.IKL_FLT_MAP_LO : Nat := 0x00110040
def R.IKL_FLT_MAP_HI : Nat := 0x00110044
def R.IKL_FLT_STICKY_LO : Nat := 0x00110048
def R.IKL_FLT_STICKY_HI : Nat := 0x0011004C
def R.IKL_FLT_EVT_EN : Nat := 0x00110050
def R.IKL_MGMT_HDR : Nat := 0x00110060
def R.IKL_MGMT_TARGET : Nat := 0x00110064
def R.IKL_MGMT_GO : Nat := 0x00110068
def R.IKL_MGMT_STATUS : Nat := 0x0011006C
def R.IKL_MGMT_DATAw (w : Nat) : Nat := 0x00110070 + 0x4 * w
def R.IKL_MGMT_RESPw (w : Nat) : Nat := 0x001100B0 + 0x4 * w
def R.IKL_LANEn_NODES (n : Nat) : Nat := 0x00110100 + 0x20 * n
def R.IKL_LANEn_RSTART (n : Nat) : Nat := 0x00110104 + 0x20 * n
def R.IKL_LANEn_CUTOFF (n : Nat) : Nat := 0x00110108 + 0x20 * n
def R.IKL_LANEn_DELIV (n : Nat) : Nat := 0x0011010C + 0x20 * n
def R.IKL_LANEn_ERR (n : Nat) : Nat := 0x00110110 + 0x20 * n
def R.IKL_LANEn_MISS (n : Nat) : Nat := 0x00110114 + 0x20 * n
def R.IKL_LANEn_DEPTH (n : Nat) : Nat := 0x00110118 + 0x20 * n

-- RDN
def R.RDN_CFG : Nat := 0x00120000
def R.RDN_MIR_EN : Nat := 0x00120004
def R.RDN_JOIN : Nat := 0x00120008
def R.RDN_HOLD : Nat := 0x0012000C
def R.RDN_GRADE_CFG : Nat := 0x00120010
def R.RDN_STATUS : Nat := 0x00120100
def R.RDN_CLAIM : Nat := 0x00120104
def R.RDN_DEDUCT : Nat := 0x00120108
def R.RDN_ESC_AGE : Nat := 0x0012010C
def R.RDN_ESC_MARGIN : Nat := 0x00120110
def R.RDN_ESC_SENT : Nat := 0x00120114
def R.RDN_ESC_USED : Nat := 0x00120118
def R.RDN_ESC_TORN : Nat := 0x0012011C
def R.RDN_ESC_LATE : Nat := 0x00120120
def R.RDN_REALIGN : Nat := 0x00120124
def R.RDN_FAILOVER : Nat := 0x00120128
def R.RDN_ESC_EPOCH_LO : Nat := 0x00120130
def R.RDN_ESC_EPOCH_HI : Nat := 0x00120134

-- DDP
def R.DDP_STATUS : Nat := 0x00130004
def R.DDP_TRIP_STICKY : Nat := 0x00130008
def R.DDP_CMD : Nat := 0x0013000C
def R.DDP_TEST_CFG : Nat := 0x00130010
def R.DDP_HOST : Nat := 0x00130014
def R.DDP_PAIRn_CFG (n : Nat) : Nat := 0x00130100 + 0x10 * n
def R.DDP_PAIRn_STAT (n : Nat) : Nat := 0x00130104 + 0x10 * n
def R.DDP_PAIRn_TRES (n : Nat) : Nat := 0x00130108 + 0x10 * n
def R.DDP_PAIRn_TRIP_NS (n : Nat) : Nat := 0x0013010C + 0x10 * n
def R.DDP_CHOP_CFG : Nat := 0x00130200
def R.DDP_CHOP_VON : Nat := 0x00130204
def R.DDP_CHOP_VOFF : Nat := 0x00130208
def R.DDP_CHOP_VFULL : Nat := 0x0013020C
def R.DDP_CHOP_TAU : Nat := 0x00130210
def R.DDP_CHOP_HMAX : Nat := 0x00130214
def R.DDP_CHOP_STATUS : Nat := 0x00130220
def R.DDP_CHOP_DUTY : Nat := 0x00130224
def R.DDP_CHOP_HEAT : Nat := 0x00130228
def R.DDP_CHOP_ON_CNT : Nat := 0x0013022C

-- REC
def R.REC_CFG : Nat := 0x00140000
def R.REC_SEG_CFG : Nat := 0x00140004
def R.REC_PRE : Nat := 0x00140008
def R.REC_POST : Nat := 0x0014000C
def R.REC_POST_APPLIED : Nat := 0x00140010
def R.REC_CAP : Nat := 0x00140014
def R.REC_GEOM : Nat := 0x00140018
def R.REC_STATUS : Nat := 0x00140020
def R.REC_COUNTS : Nat := 0x00140024
def R.REC_SEGSEQ : Nat := 0x00140028
def R.REC_CMD : Nat := 0x00140030
def R.REC_WIN_BASE : Nat := 0x00140034
def R.REC_TRIG_EVT : Nat := 0x00140040
def R.REC_CHc_CFG (c : Nat) : Nat := 0x00140100 + 0x4 * c
def R.REC_TRIGt_CFG (t : Nat) : Nat := 0x00140200 + 0x10 * t
def R.REC_TRIGt_A (t : Nat) : Nat := 0x00140204 + 0x10 * t
def R.REC_TRIGt_B (t : Nat) : Nat := 0x00140208 + 0x10 * t

-- TLY
def R.TLY_CFG : Nat := 0x00150000
def R.TLY_STATUS : Nat := 0x00150004
def R.TLY_JOBj_CFG (j : Nat) : Nat := 0x00150100 + 0x40 * j
def R.TLY_JOBj_START (j : Nat) : Nat := 0x00150104 + 0x40 * j
def R.TLY_JOBj_LEN (j : Nat) : Nat := 0x00150108 + 0x40 * j
def R.TLY_JOBj_EXP_LO (j : Nat) : Nat := 0x0015010C + 0x40 * j
def R.TLY_JOBj_EXP_HI (j : Nat) : Nat := 0x00150110 + 0x40 * j
def R.TLY_JOBj_RES_LO (j : Nat) : Nat := 0x00150114 + 0x40 * j
def R.TLY_JOBj_RES_HI (j : Nat) : Nat := 0x00150118 + 0x40 * j
def R.TLY_JOBj_STAT (j : Nat) : Nat := 0x0015011C + 0x40 * j
def R.TLY_JOBj_ECC (j : Nat) : Nat := 0x00150120 + 0x40 * j
def R.TLY_JOBj_CNT (j : Nat) : Nat := 0x00150124 + 0x40 * j
def R.TLY_JOBj_UE_ADDR (j : Nat) : Nat := 0x00150128 + 0x40 * j

-- THM
def R.THM_STATUS : Nat := 0x00160000
def R.THM_PEAK : Nat := 0x00160008
def R.THM_RMTr_CFG (r : Nat) : Nat := 0x00160010 + 0x4 * r
def R.THM_SENSn_TEMP (n : Nat) : Nat := 0x00160100 + 0x4 * n
def R.THM_SENSn_STAT (n : Nat) : Nat := 0x00160140 + 0x4 * n

-- RSV
def R.RSV_STATUS : Nat := 0x00170000
def R.RSV_COMMIT_ID : Nat := 0x00170004
def R.RSV_RESTORE : Nat := 0x00170008
def R.RSV_RECORDS : Nat := 0x0017000C
def R.RSV_CMD : Nat := 0x00170010

end Sys2Proof.Machine
end

