-- ==== Sys2Proof/Machine/RegTable.lean ====
section
/-! DEFINITION. The register map: every register of every block window (R6, R28, R70, R77 … R603), its offset, repeats,
retention class, and its fields with bits, access type, reset value, stated range and the CONFIG-only mark. -/
namespace Sys2Proof.Machine

/-- The access types of R10. -/
inductive Acc where
  | rw | ro | w1c | wo | rws | rwl
deriving DecidableEq, Repr

/-- The stated range of a field (R45, R643). `f32 lo hi` is the range of a binary32 field between two binary32 values. -/
inductive Chk where
  | any
  | rng (lo hi : Nat)
  | oneOf (vs : List Nat)
  | aligned (n : Nat)
  | f32 (lo hi : BitVec 32)
deriving DecidableEq, Repr

/-- One field of a register; `cfgOnly` marks a field that may be committed in CONFIG only. -/
structure Fld where
  hi : Nat
  lo : Nat
  acc : Acc
  reset : Nat
  chk : Chk
  cfgOnly : Bool
deriving DecidableEq, Repr

/-- One register group: offset in its block window, repeats as (count, stride), retention class (R13), fields. -/
structure RegDef where
  base : Nat
  dims : List (Nat × Nat)
  retained : Bool
  flds : List Fld
deriving DecidableEq, Repr

/-- Registers of the SYS window, part 0. -/
def regsSys0 : List RegDef := [
  ⟨0x0000, [], false, [⟨31, 16, .ro, 0x4608, .any, false⟩,
    ⟨15, 12, .ro, 0x3, .any, false⟩,
    ⟨11, 8, .ro, 0x0, .any, false⟩,
    ⟨7, 0, .ro, 0x5A, .any, false⟩]⟩,
  ⟨0x0010, [], false, [⟨31, 0, .ro, 0x0, .any, false⟩]⟩,
  ⟨0x0014, [], false, [⟨31, 0, .ro, 0x0, .any, false⟩]⟩,
  ⟨0x0020, [], false, [⟨1, 1, .wo, 0x0, .any, false⟩,
    ⟨0, 0, .wo, 0x0, .any, false⟩]⟩,
  ⟨0x0024, [], false, [⟨31, 28, .ro, 0x0, .any, false⟩,
    ⟨23, 0, .ro, 0x0, .any, false⟩]⟩,
  ⟨0x0028, [], false, [⟨31, 0, .ro, 0x0, .any, false⟩]⟩,
  ⟨0x002C, [], false, [⟨31, 0, .ro, 0x0, .any, false⟩]⟩,
  ⟨0x0030, [], false, [⟨31, 0, .ro, 0x0, .any, false⟩]⟩,
  ⟨0x0034, [], false, [⟨31, 0, .ro, 0x0, .any, false⟩]⟩,
  ⟨0x0038, [], false, [⟨1, 1, .w1c, 0x0, .any, false⟩,
    ⟨0, 0, .rw, 0x0, .any, false⟩]⟩,
  ⟨0x003C, [], false, [⟨0, 0, .ro, 0x0, .any, false⟩]⟩,
  ⟨0x0040, [], true, [⟨20, 16, .rws, 0x0, .any, false⟩,
    ⟨15, 0, .rws, 0x64, .any, false⟩]⟩,
  ⟨0x0044, [], false, [⟨31, 0, .ro, 0x0, .any, false⟩]⟩,
  ⟨0x0048, [], false, [⟨31, 31, .w1c, 0x0, .any, false⟩,
    ⟨15, 0, .ro, 0x0, .any, false⟩]⟩,
  ⟨0x0050, [], false, [⟨31, 28, .ro, 0x0, .any, false⟩,
    ⟨27, 24, .ro, 0x0, .any, false⟩,
    ⟨23, 20, .ro, 0x0, .any, false⟩,
    ⟨16, 16, .ro, 0x0, .any, false⟩,
    ⟨15, 15, .ro, 0x0, .any, false⟩,
    ⟨11, 8, .ro, 0x0, .any, false⟩,
    ⟨1, 1, .ro, 0x0, .any, false⟩,
    ⟨0, 0, .ro, 0x0, .any, false⟩]⟩,
  ⟨0x0054, [], false, [⟨3, 0, .wo, 0x0, .any, false⟩]⟩,
  ⟨0x0058, [], false, [⟨31, 28, .ro, 0x0, .any, false⟩,
    ⟨27, 27, .ro, 0x0, .any, false⟩,
    ⟨26, 26, .ro, 0x0, .any, false⟩,
    ⟨23, 20, .ro, 0x0, .any, false⟩,
    ⟨19, 16, .ro, 0x0, .any, false⟩]⟩,
  ⟨0x005C, [], false, [⟨31, 0, .ro, 0x0, .any, false⟩]⟩,
  ⟨0x0060, [], false, [⟨31, 0, .ro, 0x0, .any, false⟩]⟩,
  ⟨0x0064, [], false, [⟨31, 0, .ro, 0x0, .any, false⟩]⟩]

/-- Registers of the SYS window, part 1. -/
def regsSys1 : List RegDef := [
  ⟨0x0068, [], true, [⟨1, 1, .rws, 0x0, .any, false⟩,
    ⟨0, 0, .rws, 0x1, .any, false⟩]⟩,
  ⟨0x006C, [], false, [⟨11, 11, .ro, 0x0, .any, false⟩,
    ⟨10, 10, .ro, 0x0, .any, false⟩,
    ⟨9, 9, .ro, 0x0, .any, false⟩,
    ⟨8, 8, .ro, 0x0, .any, false⟩,
    ⟨6, 6, .ro, 0x0, .any, false⟩,
    ⟨5, 5, .ro, 0x0, .any, false⟩,
    ⟨4, 4, .ro, 0x0, .any, false⟩,
    ⟨3, 3, .ro, 0x0, .any, false⟩,
    ⟨2, 2, .ro, 0x0, .any, false⟩,
    ⟨1, 1, .ro, 0x0, .any, false⟩,
    ⟨0, 0, .ro, 0x0, .any, false⟩]⟩,
  ⟨0x0070, [], false, [⟨1, 1, .wo, 0x0, .any, false⟩,
    ⟨0, 0, .wo, 0x0, .any, false⟩]⟩,
  ⟨0x0074, [], false, [⟨31, 0, .ro, 0x0, .any, false⟩]⟩,
  ⟨0x0078, [], false, [⟨31, 0, .ro, 0x0, .any, false⟩]⟩,
  ⟨0x007C, [], false, [⟨31, 28, .ro, 0x0, .any, false⟩,
    ⟨27, 24, .ro, 0x0, .any, false⟩,
    ⟨0, 0, .ro, 0x0, .any, false⟩]⟩,
  ⟨0x0080, [], true, [⟨31, 0, .rws, 0x3F59999A, (.f32 0x3F000000 0x3F800000), false⟩]⟩,
  ⟨0x0084, [], true, [⟨31, 0, .rws, 0x3DCCCCCD, (.f32 0x3C23D70A 0x3F000000), false⟩]⟩,
  ⟨0x0088, [], true, [⟨31, 16, .rws, 0xBB8, (.rng 10 10000), false⟩,
    ⟨15, 0, .rws, 0x7D0, (.rng 10 50000), false⟩]⟩,
  ⟨0x008C, [], false, [⟨31, 31, .ro, 0x0, .any, false⟩,
    ⟨30, 30, .ro, 0x0, .any, false⟩,
    ⟨29, 29, .ro, 0x0, .any, false⟩,
    ⟨15, 0, .ro, 0x0, .any, false⟩]⟩,
  ⟨0x0090, [], true, [⟨31, 0, .rws, 0x3F800000, (.f32 0x3A83126F 0x42C80000), false⟩]⟩,
  ⟨0x0094, [], true, [⟨31, 0, .rws, 0x3F800000, (.f32 0x3A83126F 0x42C80000), false⟩]⟩,
  ⟨0x0098, [], true, [⟨31, 0, .rws, 0x3F000000, (.f32 0x3A83126F 0x42C80000), false⟩]⟩,
  ⟨0x009C, [], true, [⟨31, 0, .rws, 0x3F000000, (.f32 0x3A83126F 0x42C80000), false⟩]⟩,
  ⟨0x00A0, [], false, [⟨5, 5, .ro, 0x0, .any, false⟩,
    ⟨4, 4, .ro, 0x0, .any, false⟩,
    ⟨3, 3, .ro, 0x0, .any, false⟩,
    ⟨2, 2, .ro, 0x0, .any, false⟩,
    ⟨1, 1, .ro, 0x0, .any, false⟩,
    ⟨0, 0, .ro, 0x0, .any, false⟩]⟩]

/-- Registers of the SYS window. -/
def regsSys : List RegDef := regsSys0 ++ regsSys1

/-- Registers of the PWR window, part 0. -/
def regsPwr0 : List RegDef := [
  ⟨0x0000, [], true, [⟨4, 4, .rws, 0x1, .any, true⟩,
    ⟨3, 3, .rws, 0x1, .any, true⟩,
    ⟨2, 2, .rws, 0x1, .any, true⟩,
    ⟨1, 1, .rws, 0x1, .any, true⟩,
    ⟨0, 0, .rws, 0x1, .any, true⟩]⟩,
  ⟨0x0004, [], false, [⟨14, 1, .ro, 0x0, .any, false⟩,
    ⟨0, 0, .ro, 0x1, .any, false⟩]⟩,
  ⟨0x0008, [], false, [⟨31, 31, .ro, 0x0, .any, false⟩,
    ⟨30, 30, .ro, 0x0, .any, false⟩]⟩]

/-- Registers of the PWR window. -/
def regsPwr : List RegDef := regsPwr0

/-- Registers of the CLK window, part 0. -/
def regsClk0 : List RegDef := [
  ⟨0x0000, [], true, [⟨12, 12, .rws, 0x1, .any, false⟩,
    ⟨8, 8, .rws, 0x1, .any, false⟩,
    ⟨0, 0, .rws, 0x0, .any, true⟩]⟩,
  ⟨0x0004, [], true, [⟨31, 0, .rws, 0x1, (.rng 1 4294967295), false⟩]⟩,
  ⟨0x0010, [], false, [⟨31, 31, .ro, 0x0, .any, false⟩,
    ⟨30, 30, .ro, 0x0, .any, false⟩,
    ⟨29, 29, .ro, 0x0, .any, false⟩,
    ⟨28, 28, .ro, 0x0, .any, false⟩,
    ⟨27, 27, .ro, 0x0, .any, false⟩,
    ⟨26, 26, .ro, 0x0, .any, false⟩,
    ⟨15, 0, .ro, 0x0, .any, false⟩]⟩,
  ⟨0x0014, [], false, [⟨31, 0, .ro, 0x0, .any, false⟩]⟩,
  ⟨0x0018, [], false, [⟨31, 0, .ro, 0x0, .any, false⟩]⟩,
  ⟨0x001C, [], false, [⟨8, 0, .ro, 0x0, .any, false⟩]⟩,
  ⟨0x0020, [], false, [⟨31, 0, .ro, 0x0, .any, false⟩]⟩,
  ⟨0x0024, [], false, [⟨31, 0, .ro, 0x0, .any, false⟩]⟩,
  ⟨0x0100, [(4, 0x4)], true, [⟨31, 31, .rws, 0x0, .any, false⟩,
    ⟨30, 30, .rws, 0x0, .any, false⟩,
    ⟨29, 28, .rws, 0x0, .any, true⟩,
    ⟨11, 0, .rws, 0x18, (.rng 3 4095), false⟩]⟩]

/-- Registers of the CLK window. -/
def regsClk : List RegDef := regsClk0

/-- Registers of the TMB window, part 0. -/
def regsTmb0 : List RegDef := [
  ⟨0x0008, [], true, [⟨16, 0, .rws, 0x5DC0, (.rng 12000 120000), false⟩]⟩,
  ⟨0x0010, [], false, [⟨0, 0, .wo, 0x0, .any, false⟩]⟩,
  ⟨0x0014, [], false, [⟨31, 0, .ro, 0x0, .any, false⟩]⟩,
  ⟨0x0018, [], false, [⟨31, 0, .ro, 0x0, .any, false⟩]⟩,
  ⟨0x001C, [], false, [⟨31, 0, .ro, 0x0, .any, false⟩]⟩,
  ⟨0x0020, [], false, [⟨31, 16, .ro, 0x0, .any, false⟩]⟩,
  ⟨0x0030, [], false, [⟨31, 0, .ro, 0x0, .any, false⟩]⟩,
  ⟨0x0034, [], false, [⟨7, 0, .ro, 0x0, .any, false⟩]⟩,
  ⟨0x0040, [], false, [⟨31, 0, .rw, 0x0, .any, false⟩]⟩,
  ⟨0x0044, [], false, [⟨7, 0, .rw, 0x0, .any, false⟩]⟩,
  ⟨0x0048, [], false, [⟨31, 0, .rw, 0x0, .any, false⟩]⟩,
  ⟨0x004C, [], false, [⟨31, 0, .rw, 0x0, .any, false⟩]⟩,
  ⟨0x0050, [], false, [⟨1, 1, .wo, 0x0, .any, false⟩,
    ⟨0, 0, .wo, 0x0, .any, false⟩]⟩,
  ⟨0x0054, [], false, [⟨31, 28, .ro, 0x0, .any, false⟩]⟩,
  ⟨0x0060, [], false, [⟨31, 31, .ro, 0x0, .any, false⟩,
    ⟨30, 30, .ro, 0x0, .any, false⟩,
    ⟨15, 0, .ro, 0x0, .any, false⟩]⟩,
  ⟨0x0070, [], false, [⟨31, 28, .wo, 0x0, .any, false⟩,
    ⟨3, 0, .wo, 0x0, .any, false⟩]⟩,
  ⟨0x0100, [], true, [⟨31, 0, .rws, 0x0, .any, true⟩]⟩,
  ⟨0x0104, [], true, [⟨31, 0, .rws, 0x0, .any, true⟩]⟩,
  ⟨0x0200, [(8, 0x20)], true, [⟨4, 4, .rws, 0x0, .any, false⟩,
    ⟨1, 0, .rws, 0x0, (.rng 0 2), false⟩]⟩,
  ⟨0x0204, [(8, 0x20)], true, [⟨31, 0, .rws, 0x0, .any, false⟩]⟩]

/-- Registers of the TMB window, part 1. -/
def regsTmb1 : List RegDef := [
  ⟨0x0208, [(8, 0x20)], true, [⟨31, 0, .rws, 0x0, .any, false⟩]⟩,
  ⟨0x020C, [(8, 0x20)], true, [⟨31, 0, .rws, 0x0, (.rng 0 999999999), false⟩]⟩,
  ⟨0x0210, [(8, 0x20)], true, [⟨31, 0, .rws, 0x3B9ACA00, (.rng 1000 4000000000), false⟩]⟩,
  ⟨0x0214, [(8, 0x20)], true, [⟨31, 0, .rws, 0xF4240, (.rng 5 4294967295), false⟩]⟩,
  ⟨0x0218, [(8, 0x20)], false, [⟨31, 31, .ro, 0x0, .any, false⟩,
    ⟨15, 0, .ro, 0x0, .any, false⟩]⟩,
  ⟨0x0400, [(16, 0x20)], false, [⟨31, 0, .rw, 0x0, .any, false⟩]⟩,
  ⟨0x0404, [(16, 0x20)], false, [⟨31, 0, .rw, 0x0, .any, false⟩]⟩,
  ⟨0x0408, [(16, 0x20)], false, [⟨31, 0, .rw, 0x0, .any, false⟩]⟩,
  ⟨0x040C, [(16, 0x20)], false, [⟨31, 28, .rw, 0x0, .any, false⟩,
    ⟨23, 0, .rw, 0x0, .any, false⟩]⟩,
  ⟨0x0410, [(16, 0x20)], false, [⟨31, 0, .rw, 0x0, .any, false⟩]⟩,
  ⟨0x0414, [(16, 0x20)], false, [⟨31, 28, .ro, 0x0, .any, false⟩,
    ⟨27, 24, .ro, 0x0, .any, false⟩]⟩,
  ⟨0x0418, [(16, 0x20)], false, [⟨31, 0, .ro, 0x0, .any, false⟩]⟩]

/-- Registers of the TMB window. -/
def regsTmb : List RegDef := regsTmb0 ++ regsTmb1

/-- Registers of the PTP window, part 0. -/
def regsPtp0 : List RegDef := [
  ⟨0x0000, [], true, [⟨27, 24, .rws, 0x0, (.oneOf [0, 1, 2, 3, 4, 13, 14, 15]), false⟩,
    ⟨20, 16, .rws, 0x0, .any, false⟩,
    ⟨8, 8, .rws, 0x1, .any, false⟩,
    ⟨3, 0, .rws, 0x0, .any, false⟩]⟩,
  ⟨0x0008, [], true, [⟨31, 0, .rws, 0x0, .any, false⟩]⟩,
  ⟨0x000C, [], true, [⟨31, 0, .rws, 0x0, .any, false⟩]⟩,
  ⟨0x0010, [], true, [⟨31, 16, .rws, 0x32, (.rng 1 50), false⟩,
    ⟨4, 4, .rws, 0x1, .any, false⟩,
    ⟨0, 0, .rws, 0x0, .any, false⟩]⟩,
  ⟨0x0014, [], false, [⟨31, 31, .ro, 0x0, .any, false⟩,
    ⟨30, 30, .ro, 0x0, .any, false⟩,
    ⟨29, 29, .w1c, 0x0, .any, false⟩,
    ⟨15, 0, .ro, 0x0, .any, false⟩]⟩,
  ⟨0x0018, [], false, [⟨31, 0, .ro, 0x0, .any, false⟩]⟩,
  ⟨0x001C, [], true, [⟨31, 0, .rws, 0xC8, (.rng 1 100000), false⟩]⟩,
  ⟨0x0100, [(2, 0x40)], true, [⟨31, 24, .rws, 0x0, .any, false⟩,
    ⟨17, 16, .rws, 0x0, .any, false⟩,
    ⟨0, 0, .rws, 0x0, .any, false⟩]⟩,
  ⟨0x0104, [(2, 0x40)], true, [⟨31, 0, .rws, 0x64, (.rng 10 100000), false⟩]⟩,
  ⟨0x0108, [(2, 0x40)], true, [⟨31, 0, .rws, 0x3E8, (.rng 10 1000000), false⟩]⟩,
  ⟨0x010C, [(2, 0x40)], true, [⟨31, 0, .rws, 0xBB8, (.rng 10 60000), false⟩]⟩,
  ⟨0x0110, [(2, 0x40)], false, [⟨1, 1, .wo, 0x0, .any, false⟩,
    ⟨0, 0, .wo, 0x0, .any, false⟩]⟩,
  ⟨0x0114, [(2, 0x40)], false, [⟨31, 28, .ro, 0x0, .any, false⟩,
    ⟨27, 27, .ro, 0x0, .any, false⟩,
    ⟨26, 26, .ro, 0x0, .any, false⟩,
    ⟨15, 0, .ro, 0x0, .any, false⟩]⟩,
  ⟨0x0118, [(2, 0x40)], false, [⟨31, 0, .ro, 0x0, .any, false⟩]⟩,
  ⟨0x011C, [(2, 0x40)], false, [⟨31, 0, .ro, 0x0, .any, false⟩]⟩,
  ⟨0x0120, [(2, 0x40)], false, [⟨31, 0, .ro, 0x0, .any, false⟩]⟩,
  ⟨0x0124, [(2, 0x40)], false, [⟨31, 0, .ro, 0x0, .any, false⟩]⟩]

/-- Registers of the PTP window. -/
def regsPtp : List RegDef := regsPtp0

/-- Registers of the PCI window, part 0. -/
def regsPci0 : List RegDef := [
  ⟨0x0000, [], false, [⟨31, 28, .ro, 0x0, .any, false⟩,
    ⟨27, 24, .ro, 0x0, .any, false⟩,
    ⟨16, 16, .ro, 0x0, .any, false⟩,
    ⟨15, 0, .ro, 0x0, .any, false⟩]⟩,
  ⟨0x0010, [], true, [⟨31, 16, .rws, 0x40, (.rng 1 256), false⟩,
    ⟨8, 8, .rws, 0x1, .any, false⟩,
    ⟨4, 0, .rws, 0x0, .any, false⟩]⟩,
  ⟨0x0014, [], false, [⟨31, 0, .ro, 0x0, .any, false⟩]⟩,
  ⟨0x0020, [], true, [⟨31, 31, .rws, 0x0, .any, false⟩,
    ⟨28, 24, .rws, 0x0, .any, false⟩,
    ⟨23, 23, .rws, 0x0, .any, false⟩,
    ⟨20, 16, .rws, 0x0, .any, false⟩,
    ⟨15, 15, .rws, 0x0, .any, false⟩,
    ⟨12, 8, .rws, 0x0, .any, false⟩,
    ⟨7, 7, .rws, 0x0, .any, false⟩,
    ⟨4, 0, .rws, 0x0, .any, false⟩]⟩,
  ⟨0x0024, [], false, [⟨31, 16, .ro, 0x0, .any, false⟩,
    ⟨15, 0, .ro, 0x0, .any, false⟩]⟩,
  ⟨0x0040, [(4, 0x8)], true, [⟨31, 0, .rws, 0x0, .any, false⟩]⟩,
  ⟨0x0044, [(4, 0x8)], true, [⟨15, 0, .rws, 0x0, .any, false⟩]⟩,
  ⟨0x0080, [(15, 0x4)], true, [⟨31, 31, .rws, 0x0, .any, false⟩,
    ⟨23, 0, .rws, 0x0, .any, false⟩]⟩,
  ⟨0x1000, [(32, 0x40)], false, [⟨31, 31, .rws, 0x0, .any, false⟩,
    ⟨29, 28, .rws, 0x3, .any, false⟩,
    ⟨21, 16, .rws, 0x0, .any, false⟩,
    ⟨11, 8, .rws, 0x4, (.rng 4 12), false⟩,
    ⟨3, 0, .rws, 0x4, (.rng 4 12), false⟩]⟩,
  ⟨0x1004, [(32, 0x40)], false, [⟨31, 0, .rws, 0x0, (.aligned 4096), false⟩]⟩,
  ⟨0x1008, [(32, 0x40)], false, [⟨31, 0, .rws, 0x0, .any, false⟩]⟩,
  ⟨0x100C, [(32, 0x40)], false, [⟨31, 0, .rws, 0x0, (.aligned 4096), false⟩]⟩,
  ⟨0x1010, [(32, 0x40)], false, [⟨31, 0, .rws, 0x0, .any, false⟩]⟩,
  ⟨0x1014, [(32, 0x40)], false, [⟨31, 16, .rws, 0x0, (.rng 0 10000), false⟩,
    ⟨7, 0, .rws, 0x1, (.rng 1 255), false⟩]⟩,
  ⟨0x1020, [(32, 0x40)], false, [⟨31, 28, .ro, 0x0, .any, false⟩,
    ⟨27, 24, .ro, 0x0, .any, false⟩,
    ⟨23, 12, .ro, 0x0, .any, false⟩,
    ⟨11, 0, .ro, 0x0, .any, false⟩]⟩,
  ⟨0x1024, [(32, 0x40)], false, [⟨31, 0, .ro, 0x0, .any, false⟩]⟩]

/-- Registers of the PCI window. -/
def regsPci : List RegDef := regsPci0

/-- The SUP window holds no registers (R606). -/
def regsSup : List RegDef := []

/-- Registers of the VLT window, part 0. -/
def regsVlt0 : List RegDef := [
  ⟨0x0000, [], false, [⟨31, 28, .ro, 0x0, .any, false⟩,
    ⟨27, 27, .ro, 0x0, .any, false⟩,
    ⟨26, 26, .ro, 0x0, .any, false⟩,
    ⟨25, 25, .ro, 0x0, .any, false⟩,
    ⟨24, 24, .ro, 0x0, .any, false⟩,
    ⟨23, 22, .ro, 0x0, .any, false⟩,
    ⟨1, 0, .ro, 0x0, .any, false⟩]⟩,
  ⟨0x0004, [], false, [⟨31, 28, .ro, 0x0, .any, false⟩,
    ⟨27, 24, .ro, 0x0, .any, false⟩,
    ⟨15, 0, .ro, 0x0, .any, false⟩]⟩,
  ⟨0x0008, [], false, [⟨31, 0, .rw, 0x0, .any, false⟩]⟩,
  ⟨0x000C, [], false, [⟨31, 0, .rw, 0x0, .any, false⟩]⟩,
  ⟨0x0010, [], false, [⟨31, 0, .rw, 0x0, .any, false⟩]⟩,
  ⟨0x0014, [], false, [⟨31, 0, .rw, 0x0, .any, false⟩]⟩,
  ⟨0x0018, [], false, [⟨31, 0, .rw, 0x0, .any, false⟩]⟩,
  ⟨0x001C, [], false, [⟨31, 0, .rw, 0x0, .any, false⟩]⟩,
  ⟨0x0020, [], false, [⟨0, 0, .wo, 0x0, .any, false⟩]⟩,
  ⟨0x0040, [], false, [⟨31, 28, .wo, 0x0, .any, false⟩,
    ⟨27, 16, .wo, 0x0, .any, false⟩,
    ⟨3, 0, .wo, 0x0, .any, false⟩]⟩,
  ⟨0x0044, [], false, [⟨31, 28, .ro, 0x0, .any, false⟩,
    ⟨27, 27, .ro, 0x0, .any, false⟩,
    ⟨19, 16, .ro, 0x0, .any, false⟩]⟩,
  ⟨0x0100, [(16, 0x4)], false, [⟨31, 0, .ro, 0x0, .any, false⟩]⟩,
  ⟨0x0140, [(16, 0x4)], false, [⟨31, 0, .ro, 0x0, .any, false⟩]⟩,
  ⟨0x0180, [(16, 0x4)], false, [⟨31, 0, .ro, 0x0, .any, false⟩]⟩,
  ⟨0x01C0, [(16, 0x4)], false, [⟨31, 0, .ro, 0x0, .any, false⟩]⟩,
  ⟨0x0200, [(16, 0x4)], false, [⟨31, 0, .ro, 0x0, .any, false⟩]⟩,
  ⟨0x0300, [(33, 0x4)], false, [⟨31, 0, .ro, 0x0, .any, false⟩]⟩,
  ⟨0x0800, [(512, 0x4)], false, [⟨31, 0, .rw, 0x0, .any, false⟩]⟩]

/-- Registers of the VLT window. -/
def regsVlt : List RegDef := regsVlt0

/-- Registers of the APU window, part 0. -/
def regsApu0 : List RegDef := [
  ⟨0x0000, [], true, [⟨1, 0, .rws, 0x0, .any, false⟩]⟩,
  ⟨0x0004, [], true, [⟨5, 4, .rws, 0x3, .any, false⟩,
    ⟨1, 0, .rws, 0x1, .any, false⟩]⟩,
  ⟨0x0010, [], false, [⟨23, 0, .ro, 0x0, .any, false⟩]⟩,
  ⟨0x0014, [], false, [⟨31, 28, .ro, 0x0, .any, false⟩,
    ⟨27, 26, .ro, 0x0, .any, false⟩,
    ⟨25, 25, .ro, 0x0, .any, false⟩,
    ⟨24, 24, .ro, 0x0, .any, false⟩,
    ⟨20, 16, .ro, 0x0, .any, false⟩]⟩,
  ⟨0x0018, [], false, [⟨31, 0, .ro, 0x0, .any, false⟩]⟩,
  ⟨0x0100, [(64, 0x10)], true, [⟨23, 2, .rws, 0x0, .any, false⟩]⟩,
  ⟨0x0104, [(64, 0x10)], true, [⟨24, 2, .rws, 0x0, .any, false⟩]⟩,
  ⟨0x0108, [(64, 0x10)], true, [⟨31, 31, .rws, 0x0, .any, false⟩,
    ⟨5, 4, .rws, 0x3, .any, false⟩,
    ⟨1, 0, .rws, 0x0, .any, false⟩]⟩]

/-- Registers of the APU window. -/
def regsApu : List RegDef := regsApu0

/-- Registers of the ADC window, part 0. -/
def regsAdc0 : List RegDef := [
  ⟨0x0000, [], true, [⟨8, 8, .rws, 0x0, .any, true⟩,
    ⟨3, 0, .rws, 0xF, .any, false⟩]⟩,
  ⟨0x0004, [], false, [⟨11, 8, .w1c, 0x0, .any, false⟩,
    ⟨7, 4, .ro, 0x0, .any, false⟩,
    ⟨3, 0, .ro, 0x0, .any, false⟩]⟩,
  ⟨0x0020, [(3, 0x4)], true, [⟨31, 0, .rws, 0x0, .any, false⟩]⟩,
  ⟨0x0100, [(4, 0x100)], true, [⟨28, 24, .rws, 0x0, (.rng 0 17), false⟩,
    ⟨17, 16, .rws, 0x0, .any, false⟩,
    ⟨11, 8, .rws, 0x0, .any, false⟩,
    ⟨0, 0, .rws, 0x0, .any, false⟩]⟩,
  ⟨0x0110, [(16, 4)], true, [⟨25, 24, .rws, 0x1, (.rng 1 3), false⟩,
    ⟨20, 16, .rws, 0x1, (.rng 1 16), false⟩,
    ⟨15, 8, .rws, 0x6, (.rng 6 200), false⟩,
    ⟨5, 0, .rws, 0x0, (.rng 0 11), false⟩]⟩,
  ⟨0x0210, [(16, 4)], true, [⟨25, 24, .rws, 0x1, (.rng 1 3), false⟩,
    ⟨20, 16, .rws, 0x1, (.rng 1 16), false⟩,
    ⟨15, 8, .rws, 0x6, (.rng 6 200), false⟩,
    ⟨5, 0, .rws, 0xC, (.rng 12 23), false⟩]⟩,
  ⟨0x0310, [(16, 4)], true, [⟨25, 24, .rws, 0x1, (.rng 1 3), false⟩,
    ⟨20, 16, .rws, 0x1, (.rng 1 16), false⟩,
    ⟨15, 8, .rws, 0x6, (.rng 6 200), false⟩,
    ⟨5, 0, .rws, 0x18, (.rng 24 35), false⟩]⟩,
  ⟨0x0410, [(16, 4)], true, [⟨25, 24, .rws, 0x1, (.rng 1 3), false⟩,
    ⟨20, 16, .rws, 0x1, (.rng 1 16), false⟩,
    ⟨15, 8, .rws, 0x6, (.rng 6 200), false⟩,
    ⟨5, 0, .rws, 0x24, (.rng 36 47), false⟩]⟩,
  ⟨0x0150, [(4, 4)], true, [⟨25, 24, .rws, 0x1, .any, false⟩,
    ⟨20, 16, .ro, 0x1, .any, false⟩,
    ⟨15, 8, .rws, 0x6, (.rng 6 200), false⟩,
    ⟨5, 0, .rws, 0x0, (.rng 0 11), false⟩]⟩,
  ⟨0x0250, [(4, 4)], true, [⟨25, 24, .rws, 0x1, .any, false⟩,
    ⟨20, 16, .ro, 0x1, .any, false⟩,
    ⟨15, 8, .rws, 0x6, (.rng 6 200), false⟩,
    ⟨5, 0, .rws, 0xC, (.rng 12 23), false⟩]⟩,
  ⟨0x0350, [(4, 4)], true, [⟨25, 24, .rws, 0x1, .any, false⟩,
    ⟨20, 16, .ro, 0x1, .any, false⟩,
    ⟨15, 8, .rws, 0x6, (.rng 6 200), false⟩,
    ⟨5, 0, .rws, 0x18, (.rng 24 35), false⟩]⟩,
  ⟨0x0450, [(4, 4)], true, [⟨25, 24, .rws, 0x1, .any, false⟩,
    ⟨20, 16, .ro, 0x1, .any, false⟩,
    ⟨15, 8, .rws, 0x6, (.rng 6 200), false⟩,
    ⟨5, 0, .rws, 0x24, (.rng 36 47), false⟩]⟩,
  ⟨0x0160, [(4, 0x100)], false, [⟨31, 16, .ro, 0x0, .any, false⟩,
    ⟨15, 8, .ro, 0x0, .any, false⟩,
    ⟨7, 0, .ro, 0x0, .any, false⟩]⟩,
  ⟨0x0164, [(4, 0x100)], false, [⟨31, 0, .ro, 0x0, .any, false⟩]⟩,
  ⟨0x0168, [(4, 0x100)], false, [⟨0, 0, .wo, 0x0, .any, false⟩]⟩,
  ⟨0x1000, [(4, 0x40), (16, 0x4)], false, [⟨31, 0, .ro, 0x0, .any, false⟩]⟩,
  ⟨0x1100, [(4, 0x10), (4, 0x4)], false, [⟨31, 0, .ro, 0x0, .any, false⟩]⟩,
  ⟨0x1140, [(4, 0x10)], false, [⟨31, 0, .ro, 0x0, .any, false⟩]⟩,
  ⟨0x1144, [(4, 0x10)], false, [⟨31, 0, .ro, 0x0, .any, false⟩]⟩,
  ⟨0x1148, [(4, 0x10)], false, [⟨31, 0, .ro, 0x0, .any, false⟩]⟩]

/-- Registers of the ADC window. -/
def regsAdc : List RegDef := regsAdc0

/-- Registers of the SVI window, part 0. -/
def regsSvi0 : List RegDef := [
  ⟨0x0000, [], true, [⟨15, 0, .rws, 0x0, .any, false⟩]⟩,
  ⟨0x0004, [], false, [⟨15, 0, .ro, 0x0, .any, false⟩]⟩,
  ⟨0x0100, [(16, 0x80)], true, [⟨31, 28, .rws, 0x0, .any, false⟩,
    ⟨27, 24, .rws, 0x8, (.rng 1 8), false⟩,
    ⟨23, 16, .rws, 0xF0, .any, false⟩,
    ⟨6, 0, .rws, 0x0, (.rng 1 64), false⟩]⟩,
  ⟨0x0104, [(16, 0x80)], true, [⟨15, 0, .rws, 0x4000, .any, false⟩]⟩,
  ⟨0x0110, [(16, 0x80)], true, [⟨31, 28, .rws, 0x3, (.rng 1 15), false⟩,
    ⟨24, 24, .rws, 0x1, .any, false⟩,
    ⟨16, 0, .rws, 0x12C0, (.rng 1000 96000), false⟩]⟩,
  ⟨0x0120, [(16, 0x80), (16, 0x4)], true, [⟨31, 0, .rws, 0x0, .any, false⟩]⟩,
  ⟨0x0160, [(16, 0x80)], false, [⟨31, 16, .ro, 0x0, .any, false⟩,
    ⟨15, 14, .ro, 0x0, .any, false⟩,
    ⟨7, 0, .ro, 0x0, .any, false⟩]⟩,
  ⟨0x0164, [(16, 0x80)], false, [⟨31, 0, .ro, 0x0, .any, false⟩]⟩,
  ⟨0x0168, [(16, 0x80)], false, [⟨31, 0, .ro, 0x0, .any, false⟩]⟩,
  ⟨0x016C, [(16, 0x80)], false, [⟨31, 0, .ro, 0x0, .any, false⟩]⟩,
  ⟨0x0170, [(16, 0x80)], false, [⟨31, 0, .ro, 0x0, .any, false⟩]⟩,
  ⟨0x1000, [(16, 0x20), (8, 0x4)], false, [⟨31, 0, .ro, 0x0, .any, false⟩]⟩]

/-- Registers of the SVI window. -/
def regsSvi : List RegDef := regsSvi0

/-- Registers of the MCD window, part 0. -/
def regsMcd0 : List RegDef := [
  ⟨0x0000, [], true, [⟨31, 0, .rws, 0x447A0000, (.f32 0x3F800000 0x469C4000), true⟩]⟩,
  ⟨0x0004, [], true, [⟨31, 0, .rws, 0x43C80000, (.f32 0x3F800000 0x44BB8000), true⟩]⟩,
  ⟨0x0008, [], true, [⟨31, 0, .rws, 0x44480000, (.f32 0x3F800000 0x44FA0000), true⟩]⟩,
  ⟨0x000C, [], true, [⟨31, 0, .rws, 0x42480000, (.f32 0x42340000 0x42820000), true⟩]⟩,
  ⟨0x0010, [], true, [⟨8, 8, .rws, 0x0, .any, false⟩,
    ⟨3, 1, .rws, 0x0, .any, false⟩]⟩,
  ⟨0x0014, [], true, [⟨31, 0, .rws, 0x42480000, (.f32 0x00000000 0x447A0000), false⟩]⟩,
  ⟨0x0018, [], true, [⟨31, 0, .rws, 0x3DCCCCCD, (.f32 0x3C23D70A 0x3F000000), false⟩]⟩,
  ⟨0x001C, [], true, [⟨31, 16, .rws, 0x64, (.rng 1 1000), false⟩,
    ⟨15, 0, .rws, 0x3, (.rng 1 1000), false⟩]⟩,
  ⟨0x0020, [], false, [⟨31, 26, .ro, 0x0, .any, false⟩,
    ⟨23, 20, .ro, 0x0, .any, false⟩]⟩,
  ⟨0x0100, [(24, 0x10)], true, [⟨31, 16, .rws, 0x0, .any, false⟩,
    ⟨15, 0, .rws, 0x0, .any, false⟩]⟩,
  ⟨0x0104, [(24, 0x10)], true, [⟨31, 0, .rws, 0x3F800000, (.f32 0xCE6E6B28 0x4E6E6B28), false⟩]⟩,
  ⟨0x0108, [(24, 0x10)], true, [⟨31, 0, .rws, 0x0, (.f32 0xCE6E6B28 0x4E6E6B28), false⟩]⟩,
  ⟨0x010C, [(24, 0x10)], false, [⟨31, 31, .ro, 0x0, .any, false⟩,
    ⟨30, 30, .ro, 0x0, .any, false⟩,
    ⟨29, 29, .ro, 0x0, .any, false⟩,
    ⟨15, 0, .ro, 0x0, .any, false⟩]⟩,
  ⟨0x0400, [(88, 0x4)], false, [⟨31, 0, .ro, 0x0, .any, false⟩]⟩]

/-- Registers of the MCD window. -/
def regsMcd : List RegDef := regsMcd0

/-- Registers of the GFE window, part 0. -/
def regsGfe0 : List RegDef := [
  ⟨0x0000, [], true, [⟨17, 16, .rws, 0x1, (.rng 0 1), false⟩,
    ⟨13, 12, .rws, 0x0, (.rng 0 2), false⟩,
    ⟨8, 8, .rws, 0x1, .any, false⟩,
    ⟨5, 5, .rws, 0x1, .any, false⟩,
    ⟨4, 4, .rws, 0x1, .any, false⟩,
    ⟨0, 0, .rws, 0x1, .any, false⟩]⟩,
  ⟨0x0004, [], false, [⟨31, 31, .ro, 0x0, .any, false⟩,
    ⟨30, 30, .ro, 0x0, .any, false⟩,
    ⟨29, 29, .ro, 0x0, .any, false⟩,
    ⟨28, 28, .ro, 0x0, .any, false⟩,
    ⟨27, 27, .ro, 0x0, .any, false⟩,
    ⟨23, 23, .ro, 0x0, .any, false⟩,
    ⟨22, 22, .ro, 0x0, .any, false⟩,
    ⟨21, 21, .ro, 0x0, .any, false⟩,
    ⟨20, 20, .ro, 0x0, .any, false⟩,
    ⟨8, 8, .ro, 0x0, .any, false⟩,
    ⟨3, 0, .ro, 0x0, .any, false⟩]⟩,
  ⟨0x0010, [], true, [⟨31, 0, .rws, 0x40A00000, (.f32 0x3E4CCCCD 0x41F00000), false⟩]⟩,
  ⟨0x0014, [], true, [⟨31, 0, .rws, 0x42C80000, (.f32 0x00000000 0x447A0000), false⟩]⟩,
  ⟨0x0018, [], true, [⟨31, 0, .rws, 0x43FA0000, (.f32 0x00000000 0x459C4000), false⟩]⟩,
  ⟨0x001C, [], true, [⟨31, 0, .rws, 0x3D23D70A, (.f32 0x3BA3D70A 0x3F000000), false⟩]⟩,
  ⟨0x0020, [], true, [⟨31, 0, .rws, 0x3D4CCCCD, (.f32 0x00000000 0x3E4CCCCD), false⟩]⟩,
  ⟨0x0024, [], true, [⟨31, 0, .rws, 0x0, (.f32 0xBF99999A 0x3F99999A), false⟩]⟩,
  ⟨0x0028, [], true, [⟨31, 0, .rws, 0x0, (.f32 0xBF99999A 0x3F99999A), false⟩]⟩,
  ⟨0x002C, [], true, [⟨31, 0, .rws, 0x3F800000, (.f32 0x3F4CCCCD 0x3F99999A), false⟩]⟩,
  ⟨0x0030, [], true, [⟨31, 0, .rws, 0x3F800000, (.f32 0x3F733333 0x3F866666), false⟩]⟩,
  ⟨0x0034, [], true, [⟨31, 0, .rws, 0x3A03126F, (.f32 0x00000000 0x3DCCCCCD), false⟩]⟩,
  ⟨0x0038, [], true, [⟨31, 0, .rws, 0x3BA3D70A, (.f32 0x00000000 0x3F800000), false⟩]⟩,
  ⟨0x003C, [], true, [⟨31, 0, .rws, 0x3D4CCCCD, (.f32 0x3BA3D70A 0x3DCCCCCD), false⟩]⟩,
  ⟨0x0040, [], true, [⟨31, 0, .rws, 0x40A00000, (.f32 0x00000000 0x42C80000), false⟩]⟩,
  ⟨0x0044, [], true, [⟨31, 0, .rws, 0x40000000, (.f32 0x00000000 0x42C80000), false⟩]⟩,
  ⟨0x0048, [], true, [⟨31, 0, .rws, 0x3F800000, (.f32 0x00000000 0x3F99999A), false⟩]⟩,
  ⟨0x004C, [], true, [⟨31, 0, .rws, 0x3DCCCCCD, (.f32 0x00000000 0x3E4CCCCD), false⟩]⟩,
  ⟨0x0060, [], true, [⟨31, 0, .rws, 0x3C23D70A, (.f32 0x00000000 0x3F000000), false⟩]⟩,
  ⟨0x0064, [], true, [⟨31, 0, .rws, 0x3DCCCCCD, (.f32 0x00000000 0x3F000000), false⟩]⟩]

/-- Registers of the GFE window, part 1. -/
def regsGfe1 : List RegDef := [
  ⟨0x0068, [], true, [⟨31, 0, .rws, 0x3E4CCCCD, (.f32 0x00000000 0x40000000), false⟩]⟩,
  ⟨0x006C, [], true, [⟨31, 0, .rws, 0x3E99999A, (.f32 0x00000000 0x40000000), false⟩]⟩,
  ⟨0x0070, [], true, [⟨31, 0, .rws, 0x3CA3D70A, (.f32 0x3A83126F 0x3F800000), false⟩]⟩,
  ⟨0x0080, [], true, [⟨31, 0, .rws, 0x3F800000, (.f32 0x00000000 0x42480000), false⟩]⟩,
  ⟨0x0084, [], true, [⟨31, 0, .rws, 0x42C80000, (.f32 0x00000000 0x461C4000), false⟩]⟩,
  ⟨0x0088, [], true, [⟨31, 0, .rws, 0x3F800000, (.f32 0x00000000 0x42480000), false⟩]⟩,
  ⟨0x008C, [], true, [⟨31, 0, .rws, 0x42C80000, (.f32 0x00000000 0x461C4000), false⟩]⟩,
  ⟨0x0090, [], true, [⟨31, 0, .rws, 0x3FC00000, (.f32 0x00000000 0x41A00000), false⟩]⟩,
  ⟨0x0094, [], true, [⟨31, 0, .rws, 0x43480000, (.f32 0x00000000 0x47C35000), false⟩]⟩,
  ⟨0x0098, [], true, [⟨31, 0, .rws, 0x3FC00000, (.f32 0x00000000 0x41A00000), false⟩]⟩,
  ⟨0x009C, [], true, [⟨31, 0, .rws, 0x43480000, (.f32 0x00000000 0x47C35000), false⟩]⟩,
  ⟨0x00A0, [], true, [⟨31, 0, .rws, 0x3D99999A, (.f32 0x3C23D70A 0x3F000000), false⟩]⟩,
  ⟨0x00A4, [], true, [⟨31, 0, .rws, 0x3B03126F, (.f32 0x00000000 0x3D4CCCCD), false⟩]⟩,
  ⟨0x00C0, [], true, [⟨31, 0, .rws, 0x3F8CCCCD, (.f32 0x3F000000 0x3FC00000), false⟩]⟩,
  ⟨0x00C4, [], true, [⟨31, 0, .rws, 0x3E99999A, (.f32 0x00000000 0x3F19999A), false⟩]⟩,
  ⟨0x00C8, [], true, [⟨31, 0, .rws, 0x40000000, (.f32 0x00000000 0x41200000), false⟩]⟩,
  ⟨0x00CC, [], true, [⟨31, 0, .rws, 0x3DCCCCCD, (.f32 0x00000000 0x3E4CCCCD), false⟩]⟩,
  ⟨0x0100, [], true, [⟨31, 16, .rws, 0xC8, (.rng 10 10000), false⟩,
    ⟨15, 8, .rws, 0xA, (.rng 1 50), false⟩,
    ⟨7, 0, .rws, 0x50, (.rng 1 100), false⟩]⟩,
  ⟨0x0104, [], false, [⟨31, 31, .ro, 0x0, .any, false⟩,
    ⟨30, 30, .ro, 0x0, .any, false⟩,
    ⟨29, 29, .ro, 0x0, .any, false⟩]⟩,
  ⟨0x0108, [], false, [⟨31, 0, .ro, 0x0, .any, false⟩]⟩]

/-- Registers of the GFE window, part 2. -/
def regsGfe2 : List RegDef := [
  ⟨0x0140, [], false, [⟨0, 0, .rws, 0x0, .any, false⟩]⟩,
  ⟨0x0144, [], true, [⟨27, 24, .rws, 0x0, (.rng 0 11), false⟩,
    ⟨17, 16, .rws, 0x0, .any, false⟩,
    ⟨15, 0, .rws, 0x64, (.rng 1 10000), false⟩]⟩,
  ⟨0x0148, [], true, [⟨31, 16, .rws, 0x38E, (.rng 1 8192), false⟩,
    ⟨15, 8, .rws, 0x64, (.rng 1 255), false⟩,
    ⟨7, 0, .rws, 0xA, (.rng 1 40), false⟩]⟩,
  ⟨0x014C, [], true, [⟨31, 0, .rws, 0x3F000000, (.f32 0x3C23D70A 0x40A00000), false⟩]⟩,
  ⟨0x0150, [], true, [⟨31, 0, .rws, 0x3E4CCCCD, (.f32 0x3C23D70A 0x3F800000), false⟩]⟩,
  ⟨0x0160, [], false, [⟨31, 28, .ro, 0x0, .any, false⟩]⟩,
  ⟨0x0164, [], false, [⟨31, 0, .ro, 0x0, .any, false⟩]⟩,
  ⟨0x0168, [], false, [⟨31, 0, .ro, 0x0, .any, false⟩]⟩,
  ⟨0x016C, [], false, [⟨31, 0, .ro, 0x0, .any, false⟩]⟩,
  ⟨0x0180, [], true, [⟨31, 0, .rws, 0x43340000, (.f32 0x00000000 0x44FA0000), false⟩]⟩,
  ⟨0x0184, [], true, [⟨31, 0, .rws, 0x467A0000, (.f32 0x00000000 0x49742400), false⟩]⟩,
  ⟨0x0188, [], true, [⟨31, 0, .rws, 0x40A00000, (.f32 0x3F000000 0x41200000), false⟩]⟩,
  ⟨0x01C0, [], true, [⟨31, 0, .rws, 0x0, (.f32 0xBF99999A 0x3F99999A), false⟩]⟩,
  ⟨0x01C4, [], true, [⟨31, 0, .rws, 0x0, (.f32 0xBF99999A 0x3F99999A), false⟩]⟩,
  ⟨0x0200, [], true, [⟨15, 0, .rws, 0xE39, (.rng 0 32768), false⟩]⟩,
  ⟨0x0204, [], false, [⟨31, 0, .ro, 0x0, .any, false⟩]⟩,
  ⟨0x0300, [], false, [⟨31, 0, .ro, 0x0, .any, false⟩]⟩,
  ⟨0x0304, [], false, [⟨31, 0, .ro, 0x0, .any, false⟩]⟩,
  ⟨0x0308, [], false, [⟨31, 0, .ro, 0x0, .any, false⟩]⟩,
  ⟨0x030C, [], false, [⟨31, 0, .ro, 0x0, .any, false⟩]⟩]

/-- Registers of the GFE window, part 3. -/
def regsGfe3 : List RegDef := [
  ⟨0x0310, [], false, [⟨31, 0, .ro, 0x0, .any, false⟩]⟩,
  ⟨0x0314, [], false, [⟨31, 0, .ro, 0x0, .any, false⟩]⟩,
  ⟨0x0318, [], false, [⟨31, 0, .ro, 0x0, .any, false⟩]⟩,
  ⟨0x031C, [], false, [⟨31, 0, .ro, 0x0, .any, false⟩]⟩,
  ⟨0x0320, [], false, [⟨31, 0, .ro, 0x0, .any, false⟩]⟩,
  ⟨0x0324, [], false, [⟨31, 0, .ro, 0x0, .any, false⟩]⟩,
  ⟨0x0328, [], false, [⟨31, 0, .ro, 0x0, .any, false⟩]⟩,
  ⟨0x0330, [], false, [⟨31, 0, .ro, 0x0, .any, false⟩]⟩,
  ⟨0x0334, [], false, [⟨31, 0, .ro, 0x0, .any, false⟩]⟩,
  ⟨0x0338, [], false, [⟨31, 0, .ro, 0x0, .any, false⟩]⟩]

/-- Registers of the GFE window. -/
def regsGfe : List RegDef := regsGfe0 ++ regsGfe1 ++ regsGfe2 ++ regsGfe3

/-- Registers of the CCE window, part 0. -/
def regsCce0 : List RegDef := [
  ⟨0x0000, [], true, [⟨13, 12, .rws, 0x0, (.rng 0 1), false⟩,
    ⟨8, 8, .rws, 0x1, .any, false⟩,
    ⟨5, 5, .rws, 0x1, .any, false⟩,
    ⟨4, 4, .rws, 0x1, .any, false⟩,
    ⟨1, 1, .rws, 0x0, .any, false⟩,
    ⟨0, 0, .rws, 0x0, .any, false⟩]⟩,
  ⟨0x0004, [], false, [⟨31, 31, .ro, 0x0, .any, false⟩,
    ⟨30, 30, .ro, 0x0, .any, false⟩,
    ⟨29, 29, .ro, 0x0, .any, false⟩,
    ⟨28, 28, .ro, 0x0, .any, false⟩,
    ⟨27, 27, .ro, 0x0, .any, false⟩,
    ⟨21, 16, .ro, 0x0, .any, false⟩,
    ⟨13, 8, .ro, 0x0, .any, false⟩,
    ⟨3, 0, .ro, 0x0, .any, false⟩]⟩,
  ⟨0x0010, [], true, [⟨31, 0, .rws, 0x41200000, (.f32 0x3F000000 0x42480000), false⟩]⟩,
  ⟨0x0014, [], true, [⟨15, 0, .rws, 0x0, .any, false⟩]⟩,
  ⟨0x0018, [], true, [⟨31, 0, .rws, 0x3F733333, (.f32 0x3F4CCCCD 0x3F800000), false⟩]⟩,
  ⟨0x001C, [], true, [⟨31, 0, .rws, 0x3C23D70A, (.f32 0x00000000 0x3F800000), false⟩]⟩,
  ⟨0x0020, [], true, [⟨31, 0, .rws, 0x3F800000, (.f32 0x00000000 0x42C80000), false⟩]⟩,
  ⟨0x0024, [], true, [⟨31, 0, .rws, 0x41200000, (.f32 0x00000000 0x461C4000), false⟩]⟩,
  ⟨0x0028, [], true, [⟨31, 0, .rws, 0x3E4CCCCD, (.f32 0x00000000 0x3F800000), false⟩]⟩,
  ⟨0x0030, [], true, [⟨31, 0, .rws, 0x40A00000, (.f32 0x00000000 0x42C80000), false⟩]⟩,
  ⟨0x0034, [], true, [⟨31, 0, .rws, 0x42480000, (.f32 0x00000000 0x461C4000), false⟩]⟩,
  ⟨0x0038, [], true, [⟨31, 0, .rws, 0x40A00000, (.f32 0x00000000 0x42C80000), false⟩]⟩,
  ⟨0x003C, [], true, [⟨31, 0, .rws, 0x42480000, (.f32 0x00000000 0x461C4000), false⟩]⟩,
  ⟨0x0040, [], true, [⟨31, 0, .rws, 0x3DCCCCCD, (.f32 0x00000000 0x3F000000), false⟩]⟩,
  ⟨0x0050, [], true, [⟨31, 0, .rws, 0x3ECCCCCD, (.f32 0x00000000 0x41200000), false⟩]⟩,
  ⟨0x0054, [], true, [⟨31, 0, .rws, 0x41A00000, (.f32 0x00000000 0x47C35000), false⟩]⟩,
  ⟨0x0058, [], true, [⟨31, 0, .rws, 0x42C80000, (.f32 0x00000000 0x47C35000), false⟩]⟩,
  ⟨0x005C, [], true, [⟨31, 0, .rws, 0x3DCCCCCD, (.f32 0x00000000 0x3E99999A), false⟩]⟩,
  ⟨0x0060, [], true, [⟨31, 0, .rws, 0x3F99999A, (.f32 0x3DCCCCCD 0x3FC00000), false⟩]⟩,
  ⟨0x0064, [], true, [⟨31, 0, .rws, 0x3C23D70A, (.f32 0x3A83126F 0x3DCCCCCD), false⟩]⟩]

/-- Registers of the CCE window, part 1. -/
def regsCce1 : List RegDef := [
  ⟨0x0080, [], true, [⟨31, 0, .rws, 0x3F800000, (.f32 0x3F4CCCCD 0x3F99999A), false⟩]⟩,
  ⟨0x0084, [], true, [⟨31, 0, .rws, 0x0, (.f32 0xBF99999A 0x3F99999A), false⟩]⟩,
  ⟨0x0088, [], true, [⟨31, 0, .rws, 0x3D4CCCCD, (.f32 0x00000000 0x3E4CCCCD), false⟩]⟩,
  ⟨0x008C, [], true, [⟨31, 0, .rws, 0x40000000, (.f32 0x00000000 0x42C80000), false⟩]⟩,
  ⟨0x0090, [], true, [⟨31, 0, .rws, 0x42480000, (.f32 0x00000000 0x461C4000), false⟩]⟩,
  ⟨0x0094, [], true, [⟨31, 31, .rws, 0x0, .any, false⟩,
    ⟨29, 24, .rws, 0x0, .any, false⟩,
    ⟨15, 15, .rws, 0x0, .any, false⟩,
    ⟨13, 8, .rws, 0x0, .any, false⟩]⟩,
  ⟨0x0098, [], true, [⟨31, 0, .rws, 0x3F8CCCCD, (.f32 0x3DCCCCCD 0x3F99999A), false⟩]⟩,
  ⟨0x00A0, [], true, [⟨31, 0, .rws, 0x3DCCCCCD, (.f32 0x00000000 0x3F800000), false⟩]⟩,
  ⟨0x00A4, [], true, [⟨31, 0, .rws, 0x3D4CCCCD, (.f32 0x3C23D70A 0x3F000000), false⟩]⟩,
  ⟨0x00A8, [], true, [⟨31, 0, .rws, 0x3F4CCCCD, (.f32 0x3E99999A 0x3F800000), false⟩]⟩,
  ⟨0x00AC, [], true, [⟨31, 16, .rws, 0x3E8, (.rng 10 50000), false⟩,
    ⟨7, 0, .rws, 0x3, (.rng 1 255), false⟩]⟩,
  ⟨0x00B0, [], true, [⟨31, 0, .rws, 0x40000000, (.f32 0x3F000000 0x40A00000), false⟩]⟩,
  ⟨0x0300, [(6, 0x4)], false, [⟨31, 0, .ro, 0x0, .any, false⟩]⟩,
  ⟨0x0318, [], false, [⟨31, 0, .ro, 0x0, .any, false⟩]⟩,
  ⟨0x031C, [], false, [⟨31, 0, .ro, 0x0, .any, false⟩]⟩,
  ⟨0x0320, [], false, [⟨31, 0, .ro, 0x0, .any, false⟩]⟩,
  ⟨0x0324, [], false, [⟨31, 0, .ro, 0x0, .any, false⟩]⟩,
  ⟨0x0328, [], false, [⟨31, 0, .ro, 0x0, .any, false⟩]⟩,
  ⟨0x032C, [], false, [⟨31, 0, .ro, 0x0, .any, false⟩]⟩,
  ⟨0x0340, [(6, 0x4)], false, [⟨31, 0, .ro, 0x0, .any, false⟩]⟩]

/-- Registers of the CCE window, part 2. -/
def regsCce2 : List RegDef := [
  ⟨0x0360, [(3, 0x4)], false, [⟨31, 0, .ro, 0x0, .any, false⟩]⟩,
  ⟨0x0370, [(6, 0x4)], false, [⟨31, 0, .ro, 0x0, .any, false⟩]⟩,
  ⟨0x0400, [], true, [⟨29, 28, .rws, 0x0, (.rng 0 1), false⟩,
    ⟨25, 16, .rws, 0x0, (.rng 0 768), false⟩,
    ⟨7, 0, .rws, 0x14, (.rng 5 100), false⟩]⟩,
  ⟨0x0404, [], true, [⟨15, 0, .rws, 0x0, .any, false⟩]⟩,
  ⟨0x0408, [], true, [⟨15, 0, .rws, 0x64, (.rng 1 2000), false⟩]⟩,
  ⟨0x040C, [], true, [⟨15, 0, .rws, 0x78, (.rng 1 3600), false⟩]⟩,
  ⟨0x0410, [], false, [⟨31, 28, .ro, 0x0, .any, false⟩,
    ⟨15, 0, .ro, 0x0, .any, false⟩]⟩]

/-- Registers of the CCE window. -/
def regsCce : List RegDef := regsCce0 ++ regsCce1 ++ regsCce2

/-- Registers of the LPE window, part 0. -/
def regsLpe0 : List RegDef := [
  ⟨0x0010, [], false, [⟨31, 0, .ro, 0x0, .any, false⟩]⟩,
  ⟨0x0014, [], false, [⟨31, 0, .ro, 0x0, .any, false⟩]⟩,
  ⟨0x0018, [], false, [⟨31, 0, .ro, 0x0, .any, false⟩]⟩,
  ⟨0x001C, [], false, [⟨31, 0, .ro, 0x0, .any, false⟩]⟩,
  ⟨0x0020, [], false, [⟨31, 0, .w1c, 0x0, .any, false⟩]⟩,
  ⟨0x0024, [], false, [⟨31, 0, .w1c, 0x0, .any, false⟩]⟩,
  ⟨0x0100, [(8, 0x10)], true, [⟨31, 16, .rws, 0x3E8, (.rng 1 10000), false⟩,
    ⟨1, 1, .rws, 0x0, .any, false⟩,
    ⟨0, 0, .rws, 0x0, .any, false⟩]⟩,
  ⟨0x0104, [(8, 0x10)], false, [⟨31, 0, .ro, 0x0, .any, false⟩]⟩,
  ⟨0x0108, [(8, 0x10)], false, [⟨31, 0, .ro, 0x0, .any, false⟩]⟩,
  ⟨0x010C, [(8, 0x10)], false, [⟨31, 31, .ro, 0x0, .any, false⟩,
    ⟨30, 30, .ro, 0x0, .any, false⟩]⟩,
  ⟨0x1000, [(64, 0x80)], true, [⟨31, 31, .rws, 0x0, .any, false⟩,
    ⟨30, 30, .rws, 0x0, .any, false⟩,
    ⟨29, 29, .rws, 0x0, .any, false⟩,
    ⟨28, 28, .rws, 0x0, .any, false⟩,
    ⟨27, 27, .rws, 0x0, .any, false⟩,
    ⟨26, 25, .rws, 0x0, (.rng 0 2), false⟩,
    ⟨24, 24, .rws, 0x0, .any, false⟩,
    ⟨9, 0, .rws, 0x1, (.rng 1 1023), false⟩]⟩,
  ⟨0x1004, [(64, 0x80)], true, [⟨31, 16, .rws, 0x0, .any, false⟩,
    ⟨15, 0, .rws, 0x0, .any, false⟩]⟩,
  ⟨0x1008, [(64, 0x80)], true, [⟨31, 0, .rws, 0x0, (.f32 0xFF7FFFFF 0x7F7FFFFF), false⟩]⟩,
  ⟨0x100C, [(64, 0x80)], true, [⟨31, 0, .rws, 0x3F800000, (.f32 0xC9742400 0x49742400), false⟩]⟩,
  ⟨0x1010, [(64, 0x80)], true, [⟨31, 0, .rws, 0x0, (.f32 0xC9742400 0x49742400), false⟩]⟩,
  ⟨0x1014, [(64, 0x80)], true, [⟨31, 0, .rws, 0x3F800000, (.f32 0xC9742400 0x49742400), false⟩]⟩,
  ⟨0x1018, [(64, 0x80)], true, [⟨31, 0, .rws, 0x0, (.f32 0xC9742400 0x49742400), false⟩]⟩,
  ⟨0x101C, [(64, 0x80)], true, [⟨31, 0, .rws, 0x0, (.f32 0xFF7FFFFF 0x7F7FFFFF), false⟩]⟩,
  ⟨0x1020, [(64, 0x80)], true, [⟨31, 0, .rws, 0x0, (.f32 0x00000000 0x49742400), false⟩]⟩,
  ⟨0x1024, [(64, 0x80)], true, [⟨31, 0, .rws, 0x0, (.f32 0x00000000 0x49742400), false⟩]⟩]

/-- Registers of the LPE window, part 1. -/
def regsLpe1 : List RegDef := [
  ⟨0x1028, [(64, 0x80)], true, [⟨31, 16, .rws, 0x3E8, (.rng 2 65535), false⟩,
    ⟨7, 0, .rws, 0xA, (.rng 1 255), false⟩]⟩,
  ⟨0x102C, [(64, 0x80)], true, [⟨31, 0, .rws, 0x0, (.f32 0x00000000 0x49742400), false⟩]⟩,
  ⟨0x1030, [(64, 0x80)], true, [⟨31, 0, .rws, 0x0, (.f32 0xC61C4000 0x461C4000), false⟩]⟩,
  ⟨0x1034, [(64, 0x80)], true, [⟨31, 0, .rws, 0x0, (.f32 0xC9742400 0x49742400), false⟩]⟩,
  ⟨0x1038, [(64, 0x80)], true, [⟨31, 0, .rws, 0x0, (.f32 0xC1200000 0x41200000), false⟩]⟩,
  ⟨0x103C, [(64, 0x80)], true, [⟨31, 0, .rws, 0x0, (.f32 0x00000000 0x41200000), false⟩]⟩,
  ⟨0x1040, [(64, 0x80)], true, [⟨31, 0, .rws, 0x3F800000, (.f32 0x00000000 0x3F800000), false⟩]⟩,
  ⟨0x1044, [(64, 0x80)], true, [⟨31, 0, .rws, 0x0, (.f32 0x00000000 0x42C80000), false⟩]⟩,
  ⟨0x1048, [(64, 0x80)], true, [⟨31, 0, .rws, 0xBF800000, (.f32 0xC9742400 0x49742400), false⟩]⟩,
  ⟨0x104C, [(64, 0x80)], true, [⟨31, 0, .rws, 0x3F800000, (.f32 0xC9742400 0x49742400), false⟩]⟩,
  ⟨0x1050, [(64, 0x80)], true, [⟨31, 0, .rws, 0x0, (.f32 0xC61C4000 0x461C4000), false⟩]⟩,
  ⟨0x1054, [(64, 0x80)], true, [⟨31, 0, .rws, 0x0, (.f32 0xC9742400 0x49742400), false⟩]⟩,
  ⟨0x1058, [(64, 0x80)], true, [⟨31, 0, .rws, 0x0, (.f32 0xC1200000 0x41200000), false⟩]⟩,
  ⟨0x105C, [(64, 0x80)], true, [⟨31, 0, .rws, 0x0, (.f32 0x00000000 0x41200000), false⟩]⟩,
  ⟨0x1060, [(64, 0x80)], true, [⟨31, 0, .rws, 0x3F800000, (.f32 0x00000000 0x3F800000), false⟩]⟩,
  ⟨0x1064, [(64, 0x80)], true, [⟨31, 0, .rws, 0x0, (.f32 0x00000000 0x42C80000), false⟩]⟩,
  ⟨0x1068, [(64, 0x80)], true, [⟨31, 0, .rws, 0xBF800000, (.f32 0xC9742400 0x49742400), false⟩]⟩,
  ⟨0x106C, [(64, 0x80)], true, [⟨31, 0, .rws, 0x3F800000, (.f32 0xC9742400 0x49742400), false⟩]⟩,
  ⟨0x1070, [(64, 0x80)], false, [⟨31, 0, .ro, 0x0, .any, false⟩]⟩,
  ⟨0x1074, [(64, 0x80)], false, [⟨31, 31, .ro, 0x0, .any, false⟩,
    ⟨30, 30, .ro, 0x0, .any, false⟩,
    ⟨29, 29, .ro, 0x0, .any, false⟩,
    ⟨28, 28, .w1c, 0x0, .any, false⟩,
    ⟨27, 27, .w1c, 0x0, .any, false⟩,
    ⟨26, 26, .w1c, 0x0, .any, false⟩,
    ⟨25, 25, .ro, 0x0, .any, false⟩,
    ⟨24, 24, .ro, 0x0, .any, false⟩,
    ⟨7, 0, .ro, 0x0, .any, false⟩]⟩]

/-- Registers of the LPE window, part 2. -/
def regsLpe2 : List RegDef := [
  ⟨0x1078, [(64, 0x80)], false, [⟨31, 0, .ro, 0x0, .any, false⟩]⟩,
  ⟨0x107C, [(64, 0x80)], false, [⟨31, 0, .ro, 0x0, .any, false⟩]⟩]

/-- Registers of the LPE window. -/
def regsLpe : List RegDef := regsLpe0 ++ regsLpe1 ++ regsLpe2

/-- Registers of the RAE window, part 0. -/
def regsRae0 : List RegDef := [
  ⟨0x0000, [], true, [⟨9, 9, .rws, 0x0, .any, false⟩,
    ⟨8, 8, .rws, 0x0, .any, false⟩,
    ⟨3, 0, .rws, 0x3, .any, false⟩]⟩,
  ⟨0x0004, [], false, [⟨31, 31, .ro, 0x0, .any, false⟩,
    ⟨30, 28, .ro, 0x0, .any, false⟩,
    ⟨27, 24, .ro, 0x0, .any, false⟩,
    ⟨23, 20, .ro, 0x0, .any, false⟩,
    ⟨19, 16, .ro, 0x0, .any, false⟩,
    ⟨10, 8, .ro, 0x0, .any, false⟩]⟩,
  ⟨0x0010, [(4, 0x4)], false, [⟨31, 0, .ro, 0x0, .any, false⟩]⟩,
  ⟨0x0020, [(4, 0x4)], false, [⟨31, 0, .ro, 0x0, .any, false⟩]⟩,
  ⟨0x0030, [], false, [⟨31, 0, .ro, 0x0, .any, false⟩]⟩,
  ⟨0x0034, [], false, [⟨31, 0, .ro, 0x0, .any, false⟩]⟩,
  ⟨0x0100, [], true, [⟨31, 0, .rws, 0x3F4CCCCD, (.f32 0x3E99999A 0x3F733333), false⟩]⟩,
  ⟨0x0104, [], true, [⟨31, 0, .rws, 0x3DCCCCCD, (.f32 0x00000000 0x3F000000), false⟩]⟩,
  ⟨0x0110, [], true, [⟨31, 0, .rws, 0x3F333333, (.f32 0x3E99999A 0x3F733333), false⟩]⟩,
  ⟨0x0114, [], true, [⟨31, 0, .rws, 0x3EB33333, (.f32 0x00000000 0x3EF33333), false⟩]⟩,
  ⟨0x0118, [], true, [⟨31, 0, .rws, 0x3FC00000, (.f32 0x3F000000 0x40A00000), false⟩]⟩,
  ⟨0x011C, [], true, [⟨31, 0, .rws, 0x3F000000, (.f32 0x00000000 0x41200000), false⟩]⟩,
  ⟨0x0120, [], true, [⟨31, 16, .rws, 0x71C, (.rng 91 8192), false⟩,
    ⟨15, 0, .rws, 0xC8, .any, false⟩]⟩,
  ⟨0x0130, [], true, [⟨16, 16, .rws, 0x1, .any, false⟩,
    ⟨9, 0, .rws, 0x10, (.rng 1 768), false⟩]⟩]

/-- Registers of the RAE window. -/
def regsRae : List RegDef := regsRae0

/-- Registers of the MBE window, part 0. -/
def regsMbe0 : List RegDef := [
  ⟨0x0000, [], true, [⟨9, 8, .rws, 0x1, (.rng 0 1), false⟩,
    ⟨4, 4, .rws, 0x1, .any, false⟩,
    ⟨0, 0, .rws, 0x1, .any, false⟩]⟩,
  ⟨0x0004, [], false, [⟨29, 24, .ro, 0x0, .any, false⟩,
    ⟨21, 16, .ro, 0x0, .any, false⟩,
    ⟨13, 8, .ro, 0x0, .any, false⟩,
    ⟨5, 0, .ro, 0x0, .any, false⟩]⟩,
  ⟨0x0010, [], true, [⟨31, 24, .rws, 0x8, .any, false⟩,
    ⟨15, 0, .rws, 0x190, .any, false⟩]⟩,
  ⟨0x0014, [], true, [⟨31, 0, .rws, 0x3C23D70A, (.f32 0x00000000 0x3E4CCCCD), false⟩]⟩,
  ⟨0x0018, [], true, [⟨31, 16, .rws, 0x0, .any, false⟩,
    ⟨15, 0, .rws, 0x0, .any, false⟩]⟩,
  ⟨0x001C, [], true, [⟨9, 0, .rws, 0x8, (.rng 0 768), false⟩]⟩,
  ⟨0x0100, [(6, 0x10)], true, [⟨31, 16, .rws, 0x0, .any, false⟩,
    ⟨9, 0, .rws, 0x0, (.rng 0 768), false⟩]⟩,
  ⟨0x0200, [(6, 0x20)], false, [⟨25, 16, .ro, 0x0, .any, false⟩,
    ⟨9, 0, .ro, 0x0, .any, false⟩]⟩,
  ⟨0x0204, [(6, 0x20)], false, [⟨25, 16, .ro, 0x0, .any, false⟩,
    ⟨9, 0, .ro, 0x0, .any, false⟩]⟩,
  ⟨0x0208, [(6, 0x20)], false, [⟨25, 16, .ro, 0x0, .any, false⟩,
    ⟨15, 0, .ro, 0x0, .any, false⟩]⟩,
  ⟨0x020C, [(6, 0x20)], false, [⟨31, 31, .ro, 0x0, .any, false⟩,
    ⟨30, 30, .ro, 0x0, .any, false⟩,
    ⟨29, 29, .ro, 0x0, .any, false⟩,
    ⟨9, 0, .ro, 0x0, .any, false⟩]⟩,
  ⟨0x0210, [(6, 0x20)], false, [⟨31, 16, .ro, 0x0, .any, false⟩,
    ⟨15, 0, .ro, 0x0, .any, false⟩]⟩,
  ⟨0x0214, [(6, 0x20)], false, [⟨31, 16, .ro, 0x0, .any, false⟩,
    ⟨15, 0, .ro, 0x0, .any, false⟩]⟩,
  ⟨0x0218, [(6, 0x20)], false, [⟨31, 0, .ro, 0x0, .any, false⟩]⟩,
  ⟨0x021C, [(6, 0x20)], false, [⟨31, 0, .ro, 0x0, .any, false⟩]⟩]

/-- Registers of the MBE window. -/
def regsMbe : List RegDef := regsMbe0

/-- Registers of the IKL window, part 0. -/
def regsIkl0 : List RegDef := [
  ⟨0x0000, [], true, [⟨16, 16, .rws, 0x0, .any, false⟩,
    ⟨8, 8, .rws, 0x0, .any, false⟩,
    ⟨4, 4, .rws, 0x1, .any, false⟩]⟩,
  ⟨0x0004, [], true, [⟨11, 0, .rws, 0xFFF, .any, true⟩]⟩,
  ⟨0x0008, [], true, [⟨31, 16, .rws, 0x8, (.rng 1 64), false⟩,
    ⟨15, 0, .rws, 0x64, (.rng 1 10000), false⟩]⟩,
  ⟨0x0010, [], false, [⟨27, 16, .ro, 0x0, .any, false⟩,
    ⟨11, 0, .ro, 0x0, .any, false⟩]⟩,
  ⟨0x0014, [], false, [⟨28, 16, .ro, 0x0, .any, false⟩,
    ⟨6, 0, .ro, 0x0, .any, false⟩]⟩,
  ⟨0x0018, [], false, [⟨31, 16, .ro, 0x0, .any, false⟩,
    ⟨15, 0, .ro, 0x0, .any, false⟩]⟩,
  ⟨0x001C, [], false, [⟨31, 0, .ro, 0x0, .any, false⟩]⟩,
  ⟨0x0020, [], false, [⟨1, 1, .wo, 0x0, .any, false⟩,
    ⟨0, 0, .wo, 0x0, .any, false⟩]⟩,
  ⟨0x0024, [], false, [⟨31, 28, .ro, 0x0, .any, false⟩,
    ⟨12, 0, .ro, 0x0, .any, false⟩]⟩,
  ⟨0x0028, [], false, [⟨31, 28, .wo, 0x0, .any, false⟩,
    ⟨12, 0, .wo, 0x0, .any, false⟩]⟩,
  ⟨0x002C, [], false, [⟨21, 16, .ro, 0x0, .any, false⟩,
    ⟨15, 0, .ro, 0x0, .any, false⟩]⟩,
  ⟨0x0030, [], false, [⟨0, 0, .wo, 0x0, .any, false⟩]⟩,
  ⟨0x0040, [], false, [⟨31, 0, .ro, 0x0, .any, false⟩]⟩,
  ⟨0x0044, [], false, [⟨3, 0, .ro, 0x0, .any, false⟩]⟩,
  ⟨0x0048, [], false, [⟨31, 0, .w1c, 0x0, .any, false⟩]⟩,
  ⟨0x004C, [], false, [⟨3, 0, .w1c, 0x0, .any, false⟩]⟩,
  ⟨0x0050, [], true, [⟨5, 0, .rws, 0x3F, .any, false⟩]⟩,
  ⟨0x0060, [], false, [⟨31, 28, .rw, 0x0, .any, false⟩,
    ⟨27, 27, .rw, 0x0, .any, false⟩,
    ⟨26, 22, .rw, 0x0, .any, false⟩,
    ⟨21, 14, .rw, 0x0, .any, false⟩,
    ⟨13, 11, .rw, 0x0, .any, false⟩]⟩,
  ⟨0x0064, [], false, [⟨15, 0, .rw, 0x0, .any, false⟩]⟩,
  ⟨0x0068, [], false, [⟨0, 0, .wo, 0x0, .any, false⟩]⟩]

/-- Registers of the IKL window, part 1. -/
def regsIkl1 : List RegDef := [
  ⟨0x006C, [], false, [⟨31, 28, .ro, 0x0, .any, false⟩,
    ⟨27, 25, .ro, 0x0, .any, false⟩,
    ⟨12, 0, .ro, 0x0, .any, false⟩]⟩,
  ⟨0x0070, [(14, 0x4)], false, [⟨31, 0, .rw, 0x0, .any, false⟩]⟩,
  ⟨0x00B0, [(14, 0x4)], false, [⟨31, 0, .ro, 0x0, .any, false⟩]⟩,
  ⟨0x0100, [(12, 0x20)], false, [⟨31, 25, .ro, 0x0, .any, false⟩,
    ⟨24, 16, .ro, 0x0, .any, false⟩,
    ⟨8, 0, .ro, 0x0, .any, false⟩]⟩,
  ⟨0x0104, [(12, 0x20)], false, [⟨31, 16, .ro, 0x0, .any, false⟩,
    ⟨15, 0, .ro, 0x0, .any, false⟩]⟩,
  ⟨0x0108, [(12, 0x20)], false, [⟨15, 0, .ro, 0x0, .any, false⟩]⟩,
  ⟨0x010C, [(12, 0x20)], false, [⟨31, 16, .ro, 0x0, .any, false⟩,
    ⟨15, 0, .ro, 0x0, .any, false⟩]⟩,
  ⟨0x0110, [(12, 0x20)], false, [⟨31, 16, .ro, 0x0, .any, false⟩,
    ⟨15, 0, .ro, 0x0, .any, false⟩]⟩,
  ⟨0x0114, [(12, 0x20)], false, [⟨9, 0, .ro, 0x0, .any, false⟩]⟩,
  ⟨0x0118, [(12, 0x20)], false, [⟨31, 12, .ro, 0x0, .any, false⟩,
    ⟨4, 0, .ro, 0x0, .any, false⟩]⟩]

/-- Registers of the IKL window. -/
def regsIkl : List RegDef := regsIkl0 ++ regsIkl1

/-- Registers of the RDN window, part 0. -/
def regsRdn0 : List RegDef := [
  ⟨0x0000, [], true, [⟨31, 24, .rws, 0x80, (.rng 1 255), false⟩,
    ⟨23, 16, .rws, 0x30, (.rng 32 64), false⟩,
    ⟨8, 8, .rws, 0x0, .any, true⟩,
    ⟨0, 0, .rws, 0x0, .any, true⟩]⟩,
  ⟨0x0004, [], true, [⟨1, 0, .rws, 0x3, .any, true⟩]⟩,
  ⟨0x0008, [], true, [⟨31, 16, .rws, 0x7D0, (.rng 10 60000), false⟩,
    ⟨15, 0, .rws, 0x3E8, (.rng 16 65535), false⟩]⟩,
  ⟨0x000C, [], true, [⟨31, 16, .rws, 0x1F4, (.rng 0 60000), false⟩,
    ⟨7, 0, .rws, 0x10, (.rng 1 255), false⟩]⟩,
  ⟨0x0010, [], true, [⟨15, 0, .rws, 0x64, (.rng 1 10000), false⟩]⟩,
  ⟨0x0100, [], false, [⟨31, 28, .ro, 0x0, .any, false⟩,
    ⟨27, 27, .ro, 0x0, .any, false⟩,
    ⟨26, 25, .ro, 0x0, .any, false⟩,
    ⟨24, 24, .ro, 0x0, .any, false⟩,
    ⟨23, 23, .ro, 0x0, .any, false⟩,
    ⟨22, 22, .ro, 0x0, .any, false⟩,
    ⟨21, 21, .ro, 0x0, .any, false⟩,
    ⟨20, 20, .ro, 0x0, .any, false⟩,
    ⟨19, 16, .ro, 0x0, .any, false⟩,
    ⟨7, 0, .ro, 0x0, .any, false⟩]⟩,
  ⟨0x0104, [], false, [⟨31, 16, .ro, 0x0, .any, false⟩,
    ⟨15, 0, .ro, 0x0, .any, false⟩]⟩,
  ⟨0x0108, [], false, [⟨15, 12, .ro, 0x0, .any, false⟩,
    ⟨11, 6, .ro, 0x0, .any, false⟩,
    ⟨5, 5, .ro, 0x0, .any, false⟩,
    ⟨4, 4, .ro, 0x0, .any, false⟩,
    ⟨3, 3, .ro, 0x0, .any, false⟩,
    ⟨2, 2, .ro, 0x0, .any, false⟩]⟩,
  ⟨0x010C, [], false, [⟨15, 0, .ro, 0x0, .any, false⟩]⟩,
  ⟨0x0110, [], false, [⟨31, 0, .ro, 0x0, .any, false⟩]⟩,
  ⟨0x0114, [], false, [⟨31, 0, .ro, 0x0, .any, false⟩]⟩,
  ⟨0x0118, [], false, [⟨31, 0, .ro, 0x0, .any, false⟩]⟩,
  ⟨0x011C, [], false, [⟨31, 0, .ro, 0x0, .any, false⟩]⟩,
  ⟨0x0120, [], false, [⟨31, 0, .ro, 0x0, .any, false⟩]⟩,
  ⟨0x0124, [], false, [⟨31, 0, .ro, 0x0, .any, false⟩]⟩,
  ⟨0x0128, [], false, [⟨31, 0, .ro, 0x0, .any, false⟩]⟩,
  ⟨0x0130, [], false, [⟨31, 0, .ro, 0x0, .any, false⟩]⟩,
  ⟨0x0134, [], false, [⟨31, 0, .ro, 0x0, .any, false⟩]⟩]

/-- Registers of the RDN window. -/
def regsRdn : List RegDef := regsRdn0

/-- Registers of the DDP window, part 0. -/
def regsDdp0 : List RegDef := [
  ⟨0x0004, [], false, [⟨31, 31, .ro, 0x0, .any, false⟩,
    ⟨30, 30, .ro, 0x0, .any, false⟩,
    ⟨27, 16, .ro, 0x0, .any, false⟩,
    ⟨11, 0, .ro, 0x0, .any, false⟩]⟩,
  ⟨0x0008, [], false, [⟨11, 0, .w1c, 0x0, .any, false⟩]⟩,
  ⟨0x000C, [], false, [⟨31, 28, .wo, 0x0, .any, false⟩,
    ⟨11, 0, .wo, 0x0, .any, false⟩]⟩,
  ⟨0x0010, [], true, [⟨31, 16, .rws, 0x1388, (.rng 100 7500), false⟩,
    ⟨15, 0, .rws, 0x32, (.rng 10 1000), false⟩]⟩,
  ⟨0x0014, [], false, [⟨27, 16, .rws, 0x0, .any, false⟩,
    ⟨11, 0, .rws, 0x0, .any, false⟩]⟩,
  ⟨0x0100, [(12, 0x10)], true, [⟨31, 30, .rwl, 0x1, .any, false⟩,
    ⟨29, 28, .rws, 0x0, (.rng 0 2), false⟩,
    ⟨27, 27, .rws, 0x1, .any, false⟩,
    ⟨26, 26, .rws, 0x0, .any, false⟩,
    ⟨25, 25, .rws, 0x0, .any, false⟩,
    ⟨24, 24, .rws, 0x0, .any, false⟩,
    ⟨23, 20, .rws, 0x0, (.oneOf [0, 1, 2, 4, 5, 6, 7, 8, 9, 10, 11]), false⟩,
    ⟨19, 16, .rws, 0x0, (.oneOf [0, 1, 2, 4, 5, 6, 7, 8, 9, 10, 11]), false⟩,
    ⟨15, 12, .rws, 0x4, (.rng 1 15), false⟩,
    ⟨11, 6, .rws, 0x14, (.rng 1 63), false⟩]⟩,
  ⟨0x0104, [(12, 0x10)], false, [⟨31, 28, .ro, 0x0, .any, false⟩,
    ⟨27, 27, .ro, 0x0, .any, false⟩,
    ⟨26, 26, .ro, 0x0, .any, false⟩,
    ⟨25, 25, .ro, 0x0, .any, false⟩,
    ⟨24, 24, .ro, 0x0, .any, false⟩,
    ⟨23, 23, .ro, 0x0, .any, false⟩,
    ⟨22, 22, .ro, 0x0, .any, false⟩,
    ⟨21, 21, .ro, 0x0, .any, false⟩,
    ⟨19, 18, .ro, 0x0, .any, false⟩,
    ⟨17, 16, .ro, 0x0, .any, false⟩,
    ⟨15, 0, .ro, 0x0, .any, false⟩]⟩,
  ⟨0x0108, [(12, 0x10)], false, [⟨31, 16, .ro, 0x0, .any, false⟩,
    ⟨15, 0, .ro, 0x0, .any, false⟩]⟩,
  ⟨0x010C, [(12, 0x10)], false, [⟨31, 0, .ro, 0x0, .any, false⟩]⟩,
  ⟨0x0200, [], true, [⟨1, 1, .rws, 0x0, .any, false⟩,
    ⟨0, 0, .rws, 0x0, .any, false⟩]⟩,
  ⟨0x0204, [], true, [⟨31, 0, .rws, 0x3F8CCCCD, (.f32 0x3F666666 0x3FC00000), false⟩]⟩,
  ⟨0x0208, [], true, [⟨31, 0, .rws, 0x3F866666, (.f32 0x3F666666 0x3FC00000), false⟩]⟩,
  ⟨0x020C, [], true, [⟨31, 0, .rws, 0x3F99999A, (.f32 0x3F666666 0x3FCCCCCD), false⟩]⟩,
  ⟨0x0210, [], true, [⟨31, 0, .rws, 0x40000000, (.f32 0x3DCCCCCD 0x447A0000), false⟩]⟩,
  ⟨0x0214, [], true, [⟨31, 0, .rws, 0x3F000000, (.f32 0x3A83126F 0x42C80000), false⟩]⟩,
  ⟨0x0220, [], false, [⟨31, 31, .ro, 0x0, .any, false⟩,
    ⟨30, 30, .ro, 0x0, .any, false⟩,
    ⟨29, 29, .ro, 0x0, .any, false⟩]⟩,
  ⟨0x0224, [], false, [⟨31, 0, .ro, 0x0, .any, false⟩]⟩,
  ⟨0x0228, [], false, [⟨31, 0, .ro, 0x0, .any, false⟩]⟩,
  ⟨0x022C, [], false, [⟨31, 0, .ro, 0x0, .any, false⟩]⟩]

/-- Registers of the DDP window. -/
def regsDdp : List RegDef := regsDdp0

/-- Registers of the REC window, part 0. -/
def regsRec0 : List RegDef := [
  ⟨0x0000, [], true, [⟨31, 16, .rws, 0x1, (.rng 1 65535), false⟩,
    ⟨7, 7, .rws, 0x0, .any, false⟩,
    ⟨6, 0, .rws, 0x1, (.rng 1 64), false⟩]⟩,
  ⟨0x0004, [], true, [⟨3, 0, .rws, 0x8, (.rng 0 12), false⟩]⟩,
  ⟨0x0008, [], true, [⟨31, 0, .rws, 0x64, .any, false⟩]⟩,
  ⟨0x000C, [], true, [⟨31, 0, .rws, 0x64, (.rng 1 4294967295), false⟩]⟩,
  ⟨0x0010, [], false, [⟨31, 0, .ro, 0x0, .any, false⟩]⟩,
  ⟨0x0014, [], false, [⟨31, 0, .ro, 0x0, .any, false⟩]⟩,
  ⟨0x0018, [], false, [⟨7, 0, .ro, 0x0, .any, false⟩]⟩,
  ⟨0x0020, [], false, [⟨31, 28, .ro, 0x0, .any, false⟩,
    ⟨27, 27, .ro, 0x0, .any, false⟩,
    ⟨12, 0, .ro, 0x0, .any, false⟩]⟩,
  ⟨0x0024, [], false, [⟨31, 16, .ro, 0x0, .any, false⟩,
    ⟨15, 0, .ro, 0x0, .any, false⟩]⟩,
  ⟨0x0028, [], false, [⟨31, 0, .ro, 0x0, .any, false⟩]⟩,
  ⟨0x0030, [], false, [⟨31, 28, .wo, 0x0, .any, false⟩,
    ⟨12, 0, .wo, 0x0, .any, false⟩]⟩,
  ⟨0x0034, [], false, [⟨27, 22, .rw, 0x0, .any, false⟩]⟩,
  ⟨0x0040, [], true, [⟨18, 16, .rws, 0x0, .any, false⟩,
    ⟨9, 0, .rws, 0x1, .any, false⟩]⟩,
  ⟨0x0100, [(64, 0x4)], true, [⟨31, 16, .rws, 0x0, .any, false⟩,
    ⟨2, 0, .rws, 0x0, (.rng 0 4), false⟩]⟩,
  ⟨0x0200, [(8, 0x10)], true, [⟨31, 31, .rws, 0x0, .any, false⟩,
    ⟨30, 28, .rws, 0x0, (.rng 0 3), false⟩,
    ⟨5, 0, .rws, 0x0, .any, false⟩]⟩,
  ⟨0x0204, [(8, 0x10)], true, [⟨31, 0, .rws, 0x0, (.f32 0xFF7FFFFF 0x7F7FFFFF), false⟩]⟩,
  ⟨0x0208, [(8, 0x10)], true, [⟨31, 0, .rws, 0x0, (.f32 0xFF7FFFFF 0x7F7FFFFF), false⟩]⟩]

/-- Registers of the REC window. -/
def regsRec : List RegDef := regsRec0

/-- Registers of the TLY window, part 0. -/
def regsTly0 : List RegDef := [
  ⟨0x0000, [], true, [⟨3, 0, .rws, 0x2, (.rng 1 15), false⟩]⟩,
  ⟨0x0004, [], false, [⟨15, 8, .ro, 0x0, .any, false⟩,
    ⟨7, 0, .ro, 0x0, .any, false⟩]⟩,
  ⟨0x0100, [(8, 0x40)], true, [⟨31, 31, .rws, 0x0, .any, false⟩,
    ⟨30, 30, .rws, 0x0, .any, false⟩,
    ⟨29, 28, .rws, 0x0, (.rng 0 1), false⟩,
    ⟨27, 24, .rws, 0x0, (.rng 0 4), false⟩,
    ⟨22, 22, .rws, 0x0, .any, false⟩,
    ⟨21, 20, .rws, 0x1, .any, false⟩,
    ⟨15, 0, .rws, 0x0, .any, false⟩]⟩,
  ⟨0x0104, [(8, 0x40)], true, [⟨31, 0, .rws, 0x0, .any, false⟩]⟩,
  ⟨0x0108, [(8, 0x40)], true, [⟨31, 0, .rws, 0x4, .any, false⟩]⟩,
  ⟨0x010C, [(8, 0x40)], true, [⟨31, 0, .rws, 0x0, .any, false⟩]⟩,
  ⟨0x0110, [(8, 0x40)], true, [⟨31, 0, .rws, 0x0, .any, false⟩]⟩,
  ⟨0x0114, [(8, 0x40)], false, [⟨31, 0, .ro, 0x0, .any, false⟩]⟩,
  ⟨0x0118, [(8, 0x40)], false, [⟨31, 0, .ro, 0x0, .any, false⟩]⟩,
  ⟨0x011C, [(8, 0x40)], false, [⟨31, 28, .ro, 0x0, .any, false⟩,
    ⟨27, 27, .w1c, 0x0, .any, false⟩,
    ⟨26, 26, .w1c, 0x0, .any, false⟩,
    ⟨25, 25, .ro, 0x0, .any, false⟩,
    ⟨15, 0, .ro, 0x0, .any, false⟩]⟩,
  ⟨0x0120, [(8, 0x40)], false, [⟨31, 16, .ro, 0x0, .any, false⟩,
    ⟨15, 0, .ro, 0x0, .any, false⟩]⟩,
  ⟨0x0124, [(8, 0x40)], false, [⟨31, 16, .ro, 0x0, .any, false⟩,
    ⟨15, 0, .ro, 0x0, .any, false⟩]⟩,
  ⟨0x0128, [(8, 0x40)], false, [⟨31, 0, .ro, 0x0, .any, false⟩]⟩]

/-- Registers of the TLY window. -/
def regsTly : List RegDef := regsTly0

/-- Registers of the THM window, part 0. -/
def regsThm0 : List RegDef := [
  ⟨0x0000, [], false, [⟨31, 31, .ro, 0x0, .any, false⟩,
    ⟨30, 30, .ro, 0x0, .any, false⟩,
    ⟨29, 29, .ro, 0x0, .any, false⟩,
    ⟨28, 28, .ro, 0x0, .any, false⟩,
    ⟨11, 0, .ro, 0x0, .any, false⟩]⟩,
  ⟨0x0008, [], false, [⟨31, 0, .ro, 0x0, .any, false⟩]⟩,
  ⟨0x0010, [(4, 0x4)], true, [⟨31, 24, .rws, 0x7D, (.rng 60 125), false⟩,
    ⟨23, 16, .rws, 0x73, (.rng 60 125), false⟩,
    ⟨15, 8, .rws, 0x69, (.rng 60 125), false⟩,
    ⟨0, 0, .rws, 0x0, .any, true⟩]⟩,
  ⟨0x0100, [(12, 0x4)], false, [⟨31, 0, .ro, 0x0, .any, false⟩]⟩,
  ⟨0x0140, [(12, 0x4)], false, [⟨31, 28, .ro, 0x0, .any, false⟩,
    ⟨27, 26, .ro, 0x0, .any, false⟩]⟩]

/-- Registers of the THM window. -/
def regsThm : List RegDef := regsThm0

/-- Registers of the RSV window, part 0. -/
def regsRsv0 : List RegDef := [
  ⟨0x0000, [], false, [⟨31, 28, .ro, 0x0, .any, false⟩,
    ⟨27, 27, .ro, 0x0, .any, false⟩,
    ⟨26, 26, .ro, 0x0, .any, false⟩,
    ⟨23, 16, .ro, 0x0, .any, false⟩,
    ⟨15, 0, .ro, 0x0, .any, false⟩]⟩,
  ⟨0x0004, [], false, [⟨31, 0, .ro, 0x0, .any, false⟩]⟩,
  ⟨0x0008, [], false, [⟨31, 16, .ro, 0x0, .any, false⟩,
    ⟨15, 8, .ro, 0x0, .any, false⟩,
    ⟨7, 0, .ro, 0x0, .any, false⟩]⟩,
  ⟨0x000C, [], false, [⟨31, 0, .ro, 0x0, .any, false⟩]⟩,
  ⟨0x0010, [], false, [⟨31, 28, .wo, 0x0, .any, false⟩]⟩]

/-- Registers of the RSV window. -/
def regsRsv : List RegDef := regsRsv0

/-- The register list of the block with index `i`; the block base is `i * 0x10000` (R606, block map). -/
def blockRegs : Nat → List RegDef
  | 0 => regsSys
  | 1 => regsPwr
  | 2 => regsClk
  | 3 => regsTmb
  | 4 => regsPtp
  | 5 => regsPci
  | 6 => regsSup
  | 7 => regsVlt
  | 8 => regsApu
  | 9 => regsAdc
  | 10 => regsSvi
  | 11 => regsMcd
  | 12 => regsGfe
  | 13 => regsCce
  | 14 => regsLpe
  | 15 => regsRae
  | 16 => regsMbe
  | 17 => regsIkl
  | 18 => regsRdn
  | 19 => regsDdp
  | 20 => regsRec
  | 21 => regsTly
  | 22 => regsThm
  | 23 => regsRsv
  | _ => []

end Sys2Proof.Machine
end

