-- ==== Sys2Proof/Machine/Sparse.lean ====
section
/-! DEFINITION. Sparse tables keyed by a number: a list of (key, value) pairs in ONE canonical form (keys strictly rising, no entry equal
to what an unlisted key reads as). The register banks, the node tables and the recorder memory are such tables. -/
namespace Sys2Proof.Machine

/-- What key `k` holds; an unlisted key holds `dflt k`. -/
def spGet {α : Type} (dflt : Nat → α) : List (Nat × α) → Nat → α
  | [], k => dflt k
  | (j, v) :: m, k => if j = k then v else spGet dflt m k

/-- Write `v` at key `k`, keeping the canonical form. -/
def spPut {α : Type} [DecidableEq α] (dflt : Nat → α) (k : Nat) (v : α) : List (Nat × α) → List (Nat × α)
  | [] => if v = dflt k then [] else [(k, v)]
  | (j, w) :: m =>
    if k < j then (if v = dflt k then (j, w) :: m else (k, v) :: (j, w) :: m)
    else if k = j then (if v = dflt k then m else (k, v) :: m)
    else (j, w) :: spPut dflt k v m

/-- Every key of `m` is above `k`. -/
def spAbove {α : Type} (k : Nat) : List (Nat × α) → Bool
  | [] => true
  | (j, _) :: _ => decide (k < j)

/-- The canonical form. -/
def spWf {α : Type} [DecidableEq α] (dflt : Nat → α) : List (Nat × α) → Bool
  | [] => true
  | (j, v) :: m => decide (v ≠ dflt j) && spAbove j m && spWf dflt m

end Sys2Proof.Machine
end

