-- ==== Sys2Proof/Machine/State.lean ====
section
/-! DEFINITION. The machine's state: every register bank, counter, queue, buffer, mode, timer and pin of the block, as plain data. -/
namespace Sys2Proof.Machine

/-- The reasons a command faults. -/
inductive Fault where
  /-- Raised by a BAR0 command whose offset lies outside the 16 MiB of BAR0 (R507), an address the spec says does not exist. Safe. -/
  | outsideBar0
  /-- Raised by a BAR2 command whose offset or queue number lies outside BAR2 (R510). Safe. -/
  | outsideBar2
deriving DecidableEq, Repr

/-- The reasons a command is refused. -/
inductive Refusal where
  /-- Raised only by an arm of `exec` whose command has no meaning yet. Safe. -/
  | notModelled (mnemonic : String)
deriving DecidableEq, Repr

/-- The twelve operating modes (R71). -/
inductive Mode where
  | boot | config | standby | precharge | blackstart | gfIsland | gfGrid | gfl | dcv | statcom | frt | service
deriving DecidableEq, Repr

/-- The completion slot a fetched request holds (R517, R530): its queue, the queue's running period, TAG and OPCODE. -/
structure CompRef where
  q : Nat
  gen : Nat
  tag : Nat
  opcode : Nat
deriving DecidableEq, Repr

/-- Where a request came from, and so where its outcome goes. -/
inductive Origin where
  | bar0
  | desc (c : CompRef)
  | entry (e : Nat)
deriving DecidableEq, Repr

/-- A pending commit or abandon request (R41–R50), in order of receipt; `stamp` is its arrival stamp (R65). -/
structure CommitReq where
  abandon : Bool
  expectGen : Option Word
  origin : Origin
  stamp : Nat
deriving DecidableEq, Repr

/-- A pending immediate mode request (R78–R81). -/
structure ModeReq where
  target : Nat
  origin : Origin
  stamp : Nat
deriving DecidableEq, Repr

/-- A pending time adjustment (R426, R427). -/
structure AdjReq where
  step : Bool
  amount : Int
  origin : Origin
  stamp : Nat
  joint : Bool := false
deriving DecidableEq, Repr

/-- An event waiting to be written as an event record (R68, R532). -/
structure Ev where
  stamp : Nat
  epoch : Nat
  subsys : Nat
  inst : Nat
  ref : Nat
  mask : Nat
  data : List Word
deriving DecidableEq, Repr

/-- A cause of a protective block that waits for its boundary (R128): its bit of `SYS_TRIP_CAUSE`, the epoch it arose in, its stamp. -/
structure Raised where
  bit : Nat
  epoch : Nat
  stamp : Nat
deriving DecidableEq, Repr

/-- The registers and hidden state of the safety island (R34, R70, R77, R95, R127, R130). `modeReqs` holds the immediate request of the epoch, and one received
at the tick of the boundary itself (R65); `tripClears` are the clear requests of R131 and `tripRefs` the TRIP descriptors with their stamps, `tripDone` the
descriptors the boundary has served. -/
structure Sys where
  mode : Mode := .boot
  prev : Mode := .boot
  ret : Mode := .boot
  modeReqs : List ModeReq := []
  mrResult : Nat := 0
  mrLate : Bool := false
  mrClamped : Bool := false
  mrTarget : Nat := 0
  mrSource : Nat := 0
  modeLateNs : Nat := 0
  modeEpoch : Nat := 0
  commitReqs : List CommitReq := []
  commitResult : Nat := 0
  faultAddr : Nat := 0
  commitEpoch : Nat := 0
  commitLateNs : Nat := 0
  stageGen : Word := 0
  dirty : Bool := false
  holdStart : Option Nat := none
  digestDrop : Nat := 0
  digestLost : Nat := 0
  overruns : Nat := 0
  overrunRun : Nat := 0
  /-- An engine has met an uncorrectable error in its reads in this epoch (R571). -/
  engineErr : Bool := false
  tripCause : Nat := 0
  tripEpoch : Nat := 0
  tripClears : List (Nat × Option CompRef) := []
  tripRefs : List (Nat × CompRef) := []
  tripDone : List CompRef := []
  raised : List Raised := []
  charged : Bool := false
  deadBus : Bool := false
  hoAngle : Word := 0
deriving DecidableEq, Repr

/-- Fault ride-through, black-start and hand-over bookkeeping of the modes chapter (R101–R127). -/
structure Frt where
  entries : Nat := 0
  causeDc : Bool := false
  causeAc : Bool := false
  count : Nat := 0
  entryTime : Nat := 0
  exitDue : Bool := false
  timeout : Bool := false
  bsSeen : Bool := false
deriving DecidableEq, Repr

/-- The boot sequence (R92–R97, R549–R552) and the reset cause (R584). `causeNext` gathers the causes since the end of the last BOOT, `cause` is what the
register shows. -/
structure Boot where
  step : Nat := 0
  start : Nat := 0
  selfTestGood : Bool := false
  selfTestOk : Bool := false
  flashGood : Bool := false
  flash : List Nat := []
  flashTried : Bool := false
  waitHost : Bool := false
  source : Nat := 0
  restore : Nat := 0
  cause : Nat := 1
  causeNext : Nat := 1
deriving DecidableEq, Repr

/-- The Terord engine state of R140, with the ramped references of R115 and R111; `vl` and `cl` hold the integrators d+, q+, d−, q−. The
angle accumulators hold the angle at the next SYNC. -/
structure GfeSt where
  dw : Word := 0
  theta : Dword := 0
  pll : Dword := 0
  pllInt : Word := 0
  pe : Word := 0
  qe : Word := 0
  dpRest : Word := 0
  dvRest : Word := 0
  restOut : Bool := false
  rsState : Nat := 0
  rsHold : Nat := 0
  ebs : Word := 0
  bsRun : Bool := false
  rampDone : Bool := false
  rampHeld : Bool := false
  xtr : Word := 0
  vl : List Word := [0, 0, 0, 0]
  cl : List Word := [0, 0, 0, 0]
  refP : Word := 0
  refQ : Word := 0
  refV : Word := 0
  rampP : Bool := false
  rampQ : Bool := false
  rampV : Bool := false
deriving DecidableEq, Repr

/-- What the Terord engine produced in its last step: the read-back values of R179 and what a hand-over carries on (R113, R118). `iLim` and `u` are
αβ phasor pairs (positive, then negative sequence): limited current references at the frame angle of their epoch and converter voltage at the
output angle; `adv` is the angle advance of the output per period in binary32 radians. -/
structure GfeOut where
  thetaK : Dword := 0
  pllK : Dword := 0
  freq : Word := 0
  pllFreq : Word := 0
  dwPll : Word := 0
  pm : Word := 0
  emf : Word := 0
  pavail : Word := 0
  irefA : Word := 0
  irefR : Word := 0
  irefN : Word := 0
  dang : Word := 0
  df : Word := 0
  dv : Word := 0
  wSync : Word := 0
  limit : Bool := false
  limitNeg : Bool := false
  freqClamp : Bool := false
  pmClamp : Bool := false
  restFSat : Bool := false
  restVSat : Bool := false
  vlSat : Bool := false
  clHold : Bool := false
  frtPrio : Bool := false
  law : Nat := 0
  thetaOut : Word := 0
  iLim : List Word := [0, 0, 0, 0]
  u : List Word := [0, 0, 0, 0]
  adv : Word := 0
  vabc : List Word := [0, 0, 0]
deriving DecidableEq, Repr

/-- The converter control engine state (R188–R204). `preset` is 1 for a pending deblock preset (R106), 2 for a pending hand-over preset (R113); while
`dcvEntry` is set, `intDcv` holds the active power that R192 asks the first P_dcv to equal. The 13 ratios of `hist` and `filt` are ε_Σ, ε_j (3), ε_Δ,j (3), ε of arms 0–5; `hist` holds the
epochs of the one-cycle mean, newest first. -/
structure CceSt where
  hist : List (List Word) := []
  histN : Nat := 0
  wfilt : Bool := false
  filt : List Word := []
  intW : Word := 0
  intDcv : Word := 0
  intH : List Word := [0, 0, 0]
  intV : List Word := [0, 0, 0]
  ccI : List Word := [0, 0, 0]
  ccX1 : List Word := [0, 0, 0]
  ccX2 : List Word := [0, 0, 0]
  refVdc : Word := 0
  rampVdc : Bool := false
  refIdc : Word := 0
  rampIdc : Bool := false
  armLim : Nat := 0
  clampRun : Nat := 0
  tblk : Bool := false
  tblkRun : Nat := 0
  dcfSeen : Bool := false
  powerRef : Word := 0
  preset : Nat := 0
  dcvEntry : Bool := false
deriving DecidableEq, Repr

/-- The read-back values and flags of the last CCE step (R208). -/
structure CceOut where
  pW : Word := 0
  vdc : Word := 0
  idc : Word := 0
  idcRef : Word := 0
  pref : Word := 0
  vArm : List Word := [0, 0, 0, 0, 0, 0]
  icirc : List Word := [0, 0, 0]
  iarm : List Word := [0, 0, 0, 0, 0, 0]
  armOc : Nat := 0
  armLim : Nat := 0
  dcf : Bool := false
  wSat : Bool := false
  balSat : Bool := false
  presetClamped : Bool := false
  law : Nat := 0
deriving DecidableEq, Repr

/-- The result of one path of the run-ahead engine, or the state of record: GFE and CCE state and read-back (R231, R241). -/
structure Path where
  g : GfeSt := {}
  go : GfeOut := {}
  c : CceSt := {}
  co : CceOut := {}
deriving DecidableEq, Repr

/-- The precharge sequencer (R98–R105) and IDC_ZERO (R205): `idcBad` is the elapsed time of the SYNC of the last epoch whose DC current was above the limit.
`means` holds the arm means of the last epochs in 50 mV units, newest first. -/
structure Prc where
  stage : Nat := 0
  entry : Nat := 0
  vref : Word := 0
  vmean : Nat := 0
  means : List (List Nat) := []
  idcBad : Option Nat := none
  idcZero : Bool := false
deriving DecidableEq, Repr

/-- One loop slot (R213–R221). `fresh` is set between the commit that enables the slot and its SYNC; `bank` is the bank in use, true for B; `tripAt` is the stamp of
an oscillation found in the evaluation of the epoch. -/
structure Slot where
  on : Bool := false
  u : Word := 0
  i : Word := 0
  d : Word := 0
  pvPrev : Word := 0
  err : Word := 0
  first : Bool := true
  changed : Bool := false
  fresh : Bool := false
  sat : Bool := false
  iSat : Bool := false
  srcInvalid : Bool := false
  bank : Bool := false
  sign : Option Bool := none
  count : Nat := 0
  reported : Bool := false
  tripAt : Option Nat := none
deriving DecidableEq, Repr

/-- One pulse input (R212). `level` is the pin; times are on the elapsed-time counter. -/
structure Pulse where
  level : Bool := false
  startAt : Option Nat := none
  midAt : Option Nat := none
  freq : Word := 0
  duty : Word := 0
  valid : Bool := false
  timedOut : Bool := false
  freqSync : Word := 0
  dutySync : Word := 0
  validSync : Bool := false
deriving DecidableEq, Repr

/-- The loop engine: the slots as they stood at SYNC k, the slots evaluated in the epoch, and the pulse inputs (R209–R222). -/
structure Lpe where
  slots : List Slot := List.replicate 64 {}
  next : List Slot := List.replicate 64 {}
  pulses : List Pulse := List.replicate 8 {}
deriving DecidableEq, Repr

/-- The run-ahead engine (R224–R247). `paths` are the results of the epoch: normal, C0, C1, C2, C3; `c3` is the arm detector C3 names, with its missing nodes. -/
structure Rae where
  paths : List (Option Path) := List.replicate 5 none
  front : Option Path := none
  sel : Nat := 0
  fired : Nat := 0
  computed : Nat := 0
  suppressed : Nat := 0
  void : Bool := false
  c3arm : Nat := 0
  c3 : Option (Nat × List Nat) := none
  selected : Bool := false
  firedBefore : Bool := false
  prevIdc : Option Word := none
  fireCnt : List Nat := [0, 0, 0, 0]
  selCnt : List Nat := [0, 0, 0, 0]
  lastEpoch : Nat := 0
deriving DecidableEq, Repr

/-- The leg codes of a command (R250, R254): base and alternative codes of legs A and B, and whether the cell is the PWM cell. -/
structure CellCmd where
  baseA : Nat := 0
  baseB : Nat := 0
  altA : Nat := 0
  altB : Nat := 0
  pwm : Bool := false
deriving DecidableEq, Repr

/-- One ledger entry (R257). `cmd` is the command for the next period, `cur` the one in effect, `prv` the one in effect in the period before. `got`
is the voltage of the accepted report of this epoch, `bad` its fault status, `cut` set once the lane's cut-off counted the node as missed. `path` is the bypass path last in effect,
`pathUsed` set once there was one; `sw` counts the state changes that have come into effect. -/
structure Cell where
  addr : Nat := 0
  lane : Nat := 0
  fb : Bool := false
  st : Nat := 1
  volt : Nat := 0
  vacc : Word := 0
  missed : Nat := 0
  due : Bool := true
  got : Option Nat := none
  bad : Bool := false
  cut : Bool := false
  cmd : CellCmd := {}
  cur : CellCmd := {}
  prv : CellCmd := {}
  pathUsed : Bool := false
  path : Bool := false
  sw : Nat := 0
deriving DecidableEq, Repr

/-- One arm of the modulation and balancing engine (R257–R284). `on`, `off` and `u` are the PWM interval for the next period; `rep` marks commands that repeat those
in effect (R272). -/
structure Arm where
  cells : List Cell := []
  complete : Bool := false
  neg : Bool := false
  dir : Bool := false
  ran : Bool := false
  nIns : Nat := 0
  pwm : Bool := false
  on : Nat := 0
  off : Nat := 0
  u : Nat := 0
  uCur : Nat := 0
  uPrv : Nat := 0
  swaps : Nat := 0
  rep : Bool := false
  swTotal : Nat := 0
  vlim : Bool := false
  swapCap : Bool := false
  redLow : Bool := false
  iPrev : Word := 0
  limited : Bool := false
deriving DecidableEq, Repr

/-- The modulation and balancing engine: the ledgers, the result of the epoch, taken over at the next boundary (R241, R272), and the ledgers as they stood at SYNC k,
which come back after an overrun (R33). -/
structure Mbe where
  arms : List Arm := List.replicate 6 {}
  next : Option (List Arm) := none
  kept : List Arm := List.replicate 6 {}
deriving DecidableEq, Repr

/-- One lane of the submodule network (R291–R319). R_start and RTT are in units of 0.125 ns; `nr0`, `nr1` and `nc` are one more than the highest
report slot of each phase and command slot ever given since the last full discovery. -/
structure Lane where
  lock : Bool := false
  rstart : Nat := 0
  nr0 : Nat := 0
  nr1 : Nat := 0
  nc : Nat := 0
  cut : Bool := false
  missed : Nat := 0
  crcErr : Nat := 0
  lockLoss : Nat := 0
  lostNow : Bool := false
deriving DecidableEq, Repr

/-- The identity a node declares (R303, R325), with the place it was found at. -/
structure Ident where
  serial : Nat
  addr : Nat
  arm : Nat
  kind : Nat
  position : Nat
  downs : Nat
  latDown : Nat
  latUp : Nat
  ts : Nat
  proto : Nat
  quantity : Nat
  exp : Nat
  mant : Nat
deriving DecidableEq, Repr

/-- One node-table entry (R342). `adm` is 0 until the epoch of EFF_SEQ, given by `eff`; `rel` is the epoch of a release, `redo` the epoch, RTT and identity of a re-admission; `value` is the last accepted
VALUE of a measurement node and `prevValue` the one it reported for the epoch before; `away` is set by a missed report. -/
structure NodeEnt where
  serial : Nat
  kind : Nat
  arm : Nat
  adm : Nat := 0
  reappeared : Bool := false
  away : Bool := false
  lane : Nat
  depth : Nat
  route : Nat
  cslot : Nat
  rslot : Nat
  rphase : Nat
  rtt : Nat
  quantity : Nat
  exp : Nat
  mant : Nat
  ddown : Nat
  send : Nat
  missedTotal : Nat := 0
  missedRun : Nat := 0
  eff : Nat
  rel : Option Nat := none
  status : Nat := 0
  value : Int := 0
  valueEpoch : Option Nat := none
  prevValue : Option Int := none
  alarm : Bool := false
  redo : Option (Nat × Nat × Ident) := none
deriving DecidableEq, Repr

/-- One overflow-table entry (R342). -/
structure OvfEnt where
  serial : Nat
  addr : Nat
  arm : Nat
  lane : Nat
  depth : Nat
  route : Nat
  reason : Nat
  epoch : Nat
deriving DecidableEq, Repr

/-- A port being probed or a node being measured by a discovery (R330): `ident` is none until IDENT is answered; `echoes` counts the ECHO responses still
to come; `own` is the address of the entry a READMIT acts on. `sent` is the epoch in which the request outstanding was sent and `tag` its TAG; `ended` is the instant its
answer had to come by. -/
structure Probe where
  lane : Nat
  depth : Nat
  route : Nat
  ident : Option Ident := none
  echoes : Nat := 0
  rtt : Nat := 0
  own : Option Nat := none
  sent : Option Nat := none
  tag : Nat := 0
  ended : Option Nat := none
deriving DecidableEq, Repr

/-- A management frame: header, data blocks and trailer (R323). -/
structure MFrame where
  amode : Bool
  depth : Nat
  target : Nat
  opcode : Nat
  tag : Nat
  data : List Dword
deriving DecidableEq, Repr

/-- The management request of software (R327). `result` is 0 none, 1 pending, 2 done, 3 no response, 4 refused, 5 busy. `frame` is the request and its lane once the
boundary has accepted it, `sent` the epoch in which it was sent, `ended` the instant a request without a response ended at. -/
structure Mgmt where
  result : Nat := 0
  pending : Bool := false
  frame : Option (Nat × MFrame) := none
  sent : Option Nat := none
  ended : Option Nat := none
  level : Nat := 0
  tag : Nat := 0
  rlen : Nat := 0
  rnode : Nat := 0
  resp : List Word := []
deriving DecidableEq, Repr

/-- What the unit sends on a lane in one piece, from the elapsed time `start` on: a SYNC block, a command frame, a management frame or an EBLK (R305); as far as it was sent
when an EBLK cut it short (R339). IDLE blocks fill the rest of the period. -/
structure LaneTx where
  lane : Nat
  start : Nat
  blocks : List Dword
deriving DecidableEq, Repr

/-- The Ikibuith network master (R291–R342). `done` holds the nodes of the running discovery that answered every echo; `refused` the serial numbers of
refused nodes; `map` the fault map of the epoch and `flash` its lanes, `clsStamp` and `clsLanes` the first stamp and lanes per class. `queue` holds the unit's own
management frames that wait for the management part of a period, with their lanes; `tag` the TAG of the next request. `tx` is what the lanes carry downstream in the
period; `mgmtPart` is set once its management part is over, `eblk` once an EBLK was sent in it. -/
structure Ikl where
  lanes : List Lane := List.replicate 12 {}
  nodes : List (Nat × NodeEnt) := []
  nextNodes : List (Nat × NodeEnt) := []
  nextLanes : List Lane := []
  dec : Bool := false
  disc : Nat := 0
  discEff : Option Nat := none
  probes : List Probe := []
  done : List Probe := []
  admitted : Nat := 0
  discNew : Nat := 0
  scanReq : Bool := false
  lastScan : Nat := 0
  refused : List Nat := []
  ovf : List OvfEnt := []
  ovfTotal : Nat := 0
  ovfClear : Bool := false
  map : Nat := 0
  flash : Nat := 0
  mapSnap : Nat := 0
  flashSnap : Nat := 0
  clsStamp : List Nat := [0, 0, 0, 0, 0, 0]
  clsLanes : List Nat := [0, 0, 0, 0, 0, 0]
  mgmt : Mgmt := {}
  tag : Nat := 0
  queue : List (Nat × MFrame) := []
  tx : List LaneTx := []
  mgmtPart : Bool := false
  eblk : Bool := false
  srcOwn : Nat := 0
  srcOther : Nat := 0
  srcOwnPrev : Nat := 0
  srcOtherPrev : Nat := 0
deriving DecidableEq, Repr

/-- A command a node holds for a sequence number (R350). -/
structure NodeCmd where
  seq : Nat
  claim : Nat
  cmd : CellCmd
  on : Nat
  off : Nat
  pb : Bool
  rep : Bool
  entryOk : Bool
deriving DecidableEq, Repr

/-- A change of a node's port that waits for its EFF_SEQ (R325, R328). -/
inductive PortChange where
  | cfg (cslot rslot rphase send tc : Nat)
  | enter
  | release
deriving DecidableEq, Repr

/-- One upstream port of a node. `resp` is the management response waiting for the next SYNC, `report` the report of the period. `line` holds the blocks the port sends in
the period by their block time, counted from the first bit of its SYNC block, with the rank of their source (R322): 0 the node's report, 1 and 2 what D0 and D1 forward, 3 the
response, 4 a fault flash; it sends IDLE at every other block time. -/
structure NodePort where
  lock : Bool := false
  admitted : Bool := false
  cslot : Nat := 0x1FF
  rslot : Nat := 0x1FF
  rphase : Nat := 0
  send : Nat := 0
  tc : Nat := 0
  changes : List (Nat × PortChange) := []
  pending : Option NodeCmd := none
  current : Option NodeCmd := none
  eblk : Bool := false
  claim : Nat := 0
  syncSeq : Option Nat := none
  syncAt : Nat := 0
  crcErr : Nat := 0
  respAt : Nat := 0
  resp : List Dword := []
  report : Option Dword := none
  line : List (Nat × Nat × Dword) := []
deriving DecidableEq, Repr

/-- A downstream port of a node (R297, R298): the side learned from the IDLE blocks received there (0 A, 1 B), and what was forwarded to it since the SYNC of that side. -/
structure DownPort where
  lock : Bool := false
  side : Option Nat := none
  tx : List Dword := []
deriving DecidableEq, Repr

/-- The wait of the clearing (R350): the port selected, the sequence number, the end of the wait, the port whose SYNC came first, the commands of the candidates of ports A
and B, and CMD_MISS as it stood. -/
structure NodeWait where
  sel : Nat
  seq : Nat
  till : Nat
  first : Nat
  cmds : List (Option NodeCmd)
  miss : Bool
deriving DecidableEq, Repr

/-- A node of the network as its duties describe it (R297–R328, R350). `legs` holds the leg codes in effect; `seq` is the period's sequence number, `syncTime` its node SYNC;
`follows` is set while a command is in effect, `src` the port it came from. `waitFor` is the wait of a clearing under way, `waited` the last one that ran out; `stat` is the
STATUS sampled in the period. -/
structure Node where
  ident : Ident
  ports : List NodePort := [{}, {}]
  down : List DownPort := [{}, {}]
  legs : CellCmd := {}
  on : Nat := 0
  off : Nat := 0
  syncTime : Nat := 0
  seq : Option Nat := none
  src : Nat := 0
  follows : Bool := false
  waitFor : Option NodeWait := none
  waited : Option NodeWait := none
  missRun : Nat := 0
  lastValid : Option Nat := none
  lost : Bool := false
  volt : Nat := 0
  value : Int := 0
  stat : Nat := 0
  fault : Bool := false
  pbClosed : Bool := false
  overvolt : Bool := false
  temp : Bool := false
  rx11 : Bool := false
  cmdMiss : Bool := false
  syncLost : Bool := false
  collide : Bool := false
  collides : Nat := 0
  lockLosses : Nat := 0
  alarm : Bool := false
  flash : Nat := 0
deriving DecidableEq, Repr

/-- A complete escrow epoch (R355–R362): the header and frame fields, the items of the engines, and the cell bits. -/
structure Escrow where
  epoch : Nat
  tc : Nat
  mode : Nat
  ret : Nat
  causeAc : Bool
  causeDc : Bool
  ramping : Bool
  digest : Nat
  origin : Nat
  frtCount : Nat
  frtSince : Nat
  gfe : List Word
  cce : List Word
  tblk : Bool
  tblkRun : Nat
  clampRun : Nat
  lpe : List Word
  lpeStat : List Nat
  arms : List Nat
  cells : List Nat
deriving DecidableEq, Repr

/-- One redundancy unit's state (R343–R369). The `p` fields are the latest valid PAIR block: claim, unit, mode, state, and the epoch whose SEQ it
carried; `pBase` is the partner's base, 0 until learned. `disc` holds the discrete items of R361 as they stood at SYNC. `sentPair` and `sentBlocks` are the PAIR block
and the escrow sent in the epoch on every enabled mirror lane. -/
structure Rdn where
  state : Nat := 0
  role : Nat := 0
  own : Nat := 0
  nextClaim : Nat := 0
  pClaim : Nat := 0
  pUnit : Nat := 0
  pMode : Nat := 0
  pState : Nat := 0
  pEpoch : Option Nat := none
  pBase : Nat := 0
  mirLock : List Bool := [false, false]
  mirErr : List Nat := [0, 0]
  linkSync : Bool := false
  timing : Bool := false
  timingNow : Bool := false
  digestBad : Bool := false
  baseEqual : Bool := false
  unitConflict : Bool := false
  esc : Option Escrow := none
  escAt : Nat := 0
  escIn : Bool := false
  escGot : Bool := false
  escTorn : Bool := false
  cutPassed : Bool := false
  age : Nat := 0
  margin : Int := 0
  sent : Nat := 0
  used : Nat := 0
  torn : Nat := 0
  late : Nat := 0
  realigns : Nat := 0
  failover : Nat := 0
  joinRun : Nat := 0
  joinAt : Option Nat := none
  staleRun : Nat := 0
  holdoffAt : Nat := 0
  c3At : Option Nat := none
  overrunAt : Option Nat := none
  disc : List Nat := []
  sentPair : Option Dword := none
  sentBlocks : List Dword := []
deriving DecidableEq, Repr

/-- One ADC core (R371–R391). `run` is the regular entry being converted and `conv` the conversions of it done; `inj` the injected entry; `trig` is set by a
trigger that takes effect at the next tick; `gbad` is set once a conversion of the entry fell under a gain change, `late` once the run belongs to an earlier epoch. `taps` holds the last conversions of each entry, newest first, for its sinc filter; `shown` the injected
results, stamp and epoch of the last sequence completed in the epoch. -/
structure AdcCore where
  run : Option Nat := none
  conv : Nat := 0
  moved : Bool := false
  gbad : Bool := false
  late : Bool := false
  res : List Word := List.replicate 16 0
  done : List Bool := List.replicate 16 false
  taps : List (List Int) := List.replicate 16 []
  filt : List Nat := List.replicate 16 0
  gain : List Nat := List.replicate 12 0
  inj : Option Nat := none
  trig : Bool := false
  startAt : Nat := 0
  injAcc : List Word := []
  injStamp : Nat := 0
  injRes : List Word := [0, 0, 0, 0]
  injSec : Nat := 0
  injNs : Nat := 0
  injEpoch : Nat := 0
  injSeqs : Nat := 0
  pd : Bool := false
  warmEnd : Option Nat := none
  ready : Bool := false
  ovrCnt : Nat := 0
  injOvr : Nat := 0
  injLost : Nat := 0
  seqEnd : Nat := 0
deriving DecidableEq, Repr

/-- The ADC subsystem. `cut` is set once the cut-off of the epoch has passed. -/
structure Adc where
  cores : List AdcCore := List.replicate 4 {}
  cut : Bool := false
deriving DecidableEq, Repr

/-- One valid sample of a stream value: whole second, sample count, samples per second and value in source units (R394, R397). -/
structure SvSample where
  sec : Nat
  cnt : Nat
  rate : Nat
  y : Int
  synch : Nat := 0
deriving DecidableEq, Repr

/-- One sampled-value stream (R392–R398). `vals` holds, per value, its valid samples of latest sample time, newest first; `seen` the sample times
received; `last` the sample of latest sample time with its smpSynch. -/
structure SvStream where
  vals : List (List SvSample) := List.replicate 8 []
  seen : List (Nat × Nat × Nat) := []
  last : Option (Nat × Nat × Nat × Nat) := none
  disc : Nat := 0
  dup : Nat := 0
  gap : Nat := 0
  age : Nat := 0
  smp3 : Nat := 0
  synch3 : Nat := 0
  out : List Word := List.replicate 8 0
  ok : Nat := 0
deriving DecidableEq, Repr

/-- One conditioning input (R400–R404). -/
structure McdIn where
  val : Word := 0
  hold : Nat := 0
  invalid : Bool := false
  alt : Bool := false
  held : Bool := false
deriving DecidableEq, Repr

/-- The quadrature filter and frequency-locked loop of one set (R405), with the histories of R407 and R408, newest first. -/
structure McdFilt where
  ya : Word := 0
  qa : Word := 0
  yb : Word := 0
  qb : Word := 0
  wf : Word := 0x3F800000
  flh : Bool := false
  sq : List (List Word) := [[], [], []]
  wfs : List Word := []
deriving DecidableEq, Repr

/-- Measurement conditioning (R400–R411): inputs, the filters of V0–V3 and I0, the 88 quantities, invalid sets (V0–V3, I0, DC) and the window lengths. -/
structure McdSt where
  ins : List McdIn := List.replicate 24 {}
  filt : List McdFilt := List.replicate 5 {}
  q : List Word := List.replicate 88 0
  inv : List Bool := List.replicate 6 false
  n : Nat := 0
  nr : Nat := 0
deriving DecidableEq, Repr

/-- Conditioning of record and the result of the epoch. -/
structure Mcd where
  st : McdSt := {}
  next : Option McdSt := none
deriving DecidableEq, Repr

/-- One clock output (R433, R434): running, its divisor, the elapsed time of a rising edge, and the elapsed time at which the last high phase before a change ends. -/
structure Cko where
  on : Bool := false
  div : Nat := 24
  rise : Nat := 0
  tail : Nat := 0
deriving DecidableEq, Repr

/-- The root clock (R413–R434). `mult` is M × 2³²; `errs` the phase errors of the last epochs in root cycles, newest first; `relock` is set while the
domains wait for the first SYNC after lock; `dither` the dither added to FRAC at the last tick. -/
structure Clk where
  lock : Bool := false
  cko : List Cko := List.replicate 4 {}
  dither : Int := 0
  fallback : Bool := false
  freeRun : Bool := false
  refOk : Bool := false
  aligned : Bool := false
  freqClamp : Bool := false
  lockLoss : Nat := 0
  mult : Nat := 0
  errs : List Int := []
  alignRun : Nat := 0
  pstep : Int := 0
  lastStep : Option Nat := none
  lfsr : Nat := 1
  lossAt : Nat := 0
  relock : Bool := false
deriving DecidableEq, Repr

/-- A scheduled-action entry beside its registers (R448–R453): STATE, RESULT, LATE_NS, the programming time, whether a step passed over T, and the descriptor's completion. -/
structure Sched where
  st : Nat := 0
  result : Nat := 0
  lateNs : Nat := 0
  prog : Nat := 0
  late : Bool := false
  ref : Option CompRef := none
deriving DecidableEq, Repr

/-- A time-triggered output (R445–R447): next start of a periodic pulse, the ends of the pulses in progress, flags. -/
structure Tt where
  next : Option Nat := none
  ends : List Nat := []
  coarse : Bool := false
  missed : Nat := 0
deriving DecidableEq, Repr

/-- Station time and everything the timebase drives (R25–R29, R425–R455). Times are in 2⁻⁴⁰/3 ns: `now` is station time, `up` elapsed time since the
timebase started, `age` elapsed time since its last tick, `sync` station time of SYNC k and `syncUp` elapsed time at it. -/
structure Tmb where
  running : Bool := false
  now : Nat := 0
  up : Nat := 0
  age : Nat := 0
  epoch : Nat := 0
  sync : Nat := 0
  syncUp : Nat := 0
  trim : Int := 0
  reqs : List AdjReq := []
  result : Nat := 0
  steps : Nat := 0
  capSec : Nat := 0
  capNs : Nat := 0
  capFrac : Nat := 0
  sched : List Sched := List.replicate 16 {}
  tt : List Tt := List.replicate 8 {}
deriving DecidableEq, Repr

/-- A two-step Sync waiting for its Follow_Up (R438): sequenceId, receive stamp, correction in 2⁻¹⁶ ns. -/
structure SyncWait where
  seq : Nat
  t2 : Nat
  corr : Int
deriving DecidableEq, Repr

/-- One PTP domain (R438–R441). Delays are in 2⁻¹⁷ ns, newest first; `kept` are the measurements since the first candidate of a step. -/
structure Dom where
  st : Nat := 0
  ofs : Int := 0
  frozen : Bool := false
  unfreeze : Bool := false
  steps : Nat := 0
  hist : List Int := []
  kept : List Int := []
  cand : Option Int := none
  mpd : Int := 0
  wait : Option SyncWait := none
  lastSync : Nat := 0
deriving DecidableEq, Repr

/-- An answer to a Pdelay_Req in two-step form (R437): sequenceId, clockIdentity, receive and transmit stamp. -/
structure PdelAns where
  seq : Nat
  clock : Dword
  t2 : Nat
  t3 : Nat
deriving DecidableEq, Repr

/-- One port's peer-delay engine (R437): the request in flight with its sequenceId, transmit stamp, and the values of the first response; the times of
the next request and of the timeout, with the elapsed time at which a timeout gave the request up; responses sent. -/
structure Pdel where
  seq : Nat := 0
  t1 : Option Nat := none
  gaveUp : Option (Nat × Nat) := none
  t2 : Option Nat := none
  t4 : Nat := 0
  corr : Int := 0
  nextReq : Nat := 0
  sent : Nat := 0
  answered : Nat := 0
  lastReq : Option PdelAns := none
deriving DecidableEq, Repr

/-- Precision time (R435–R444). `rem` is the remaining switch slew R in 2⁻⁴⁰/3 ns; `xs` the unflagged differences of R444, newest first. -/
structure Ptp where
  doms : List Dom := [{}, {}]
  ports : List Pdel := List.replicate 4 {}
  active : Nat := 0
  rem : Int := 0
  xs : List Int := []
  switches : Nat := 0
deriving DecidableEq, Repr

/-- An off-state test in progress (R475): which output (0 H, 1 L), which phase (0 source, 1 sink), when the phase ends, and the source voltage measured. -/
structure TestRun where
  out : Nat
  phase : Nat
  phaseEnd : Nat
  vs : Nat
deriving DecidableEq, Repr

/-- One direct-drive pair (R458–R477). `h` and `l` are the outputs, `cmdH` and `cmdL` the commands, `offH`, `offL` the elapsed times since which the
outputs are off, `ds` and `hoc` the levels of the balls DSn and HOCn and `dsFrom` the tick at which DSn became active; `testOnly` marks a test that leaves the pair DISABLED; `tripAt` is the stamp of the last trip. -/
structure Pair where
  st : Nat := 0
  conflict : Bool := false
  desat : Bool := false
  hocTrip : Bool := false
  testFail : Bool := false
  h : Bool := false
  l : Bool := false
  cmdH : Bool := false
  cmdL : Bool := false
  offH : Nat := 0
  offL : Nat := 0
  blankEnd : Option Nat := none
  ds : Bool := false
  dsFrom : Option Nat := none
  hoc : Bool := false
  test : Option TestRun := none
  testWait : Bool := false
  testOnly : Bool := false
  testDone : Bool := false
  resH : Nat := 0
  resL : Nat := 0
  ohmH : Nat := 0
  ohmL : Nat := 0
  trips : Nat := 0
  tripNs : Nat := 0
  tripAt : Option Nat := none
deriving DecidableEq, Repr

/-- The direct-drive and protection subsystem with the chopper controller (R458–R482). `reen` and `tests` are the requests that wait for
the next boundary, as (arrival stamp, pairs); `blk` holds from a protective block cause until the trip latch clears, `loss` likewise from a loss of lock
(R473); `dutyCur` is the duty in effect, `chopEnd` the elapsed time at which the CHOP source falls. -/
structure Ddp where
  pairs : List Pair := List.replicate 12 {}
  uvlo : Bool := false
  reen : List (Nat × Nat) := []
  tests : List (Nat × Nat) := []
  blk : Bool := false
  loss : Bool := false
  active : Bool := false
  thermal : Bool := false
  chopInv : Bool := false
  duty : Word := 0
  dutyCur : Word := 0
  heat : Word := 0
  onCnt : Nat := 0
  chop : Bool := false
  chopEnd : Option Nat := none
deriving DecidableEq, Repr

/-- A trigger (R498–R500): cause code, stamp (station time), epoch of the stamp, and the descriptor that carried it. -/
structure Trig where
  cause : Nat
  stamp : Nat
  epoch : Nat
  ref : Option CompRef := none
deriving DecidableEq, Repr

/-- A recorder command waiting for the next boundary (R501), with its arrival stamp (R65). -/
structure RecCmd where
  op : Nat
  seg : Nat
  stamp : Nat
deriving DecidableEq, Repr

/-- The disturbance recorder (R484–R506) beside its DRAM. `segs` lists the closed segments as (index, SEGSEQ); `e0` is the epoch of the first row of the
open segment, `rows` the rows written since it opened, `trigRow` the trigger row; `acc` the valid values of the row in progress, newest first, `bad` its
INVALID bits; `syncs` the station time at the start of each row, newest first; `prev` the value of each trigger's channel in the epoch before, `fired`
whether its condition held then; `hostT` the host trigger held for a future time. -/
structure Rec where
  st : Nat := 0
  cur : Nat := 0
  segs : List (Nat × Nat) := []
  segseq : Nat := 0
  lost : Nat := 0
  e0 : Option Nat := none
  rows : Nat := 0
  rowEpoch : Option Nat := none
  acc : List (List Word) := []
  bad : Nat := 0
  trigRow : Option Nat := none
  trig : Option Trig := none
  late : Bool := false
  extra : List Trig := []
  xcount : Nat := 0
  trigs : List Trig := []
  hostT : Option (Nat × CompRef) := none
  syncs : List Nat := []
  cmds : List RecCmd := []
  prev : List (Option Word) := List.replicate 8 none
  fired : List Bool := List.replicate 8 false
deriving DecidableEq, Repr

/-- The power domain controller (R576–R594, R617). `on` gives for domains 1 to 14 the elapsed time at which the domain's logic leaves reset, none when it
is off; `rising` are the domains powering up; `stopAt` the start of an orderly stop; `down` is set while only AON is
powered and no boot has begun. -/
structure Pwr where
  porb : Bool := true
  on : List (Option Nat) := List.replicate 14 none
  rising : List Nat := []
  seqNext : Nat := 15
  pwrFail : Bool := false
  stopAt : Option Nat := none
  blockDone : Bool := false
  down : Bool := false
  brownout : Bool := false
deriving DecidableEq, Repr

/-- One temperature sensor (R585–R589). `temp` is the reading in 1/16 °C, `code` the last raw code and `equal` the rounds it was equal. -/
structure Sensor where
  temp : Int := 0
  read : Bool := false
  code : Nat := 0
  equal : Nat := 0
  broken : Nat := 0
  level : Nat := 0
deriving DecidableEq, Repr

/-- Thermal management (R585–R590). The trims hold the values the last round of the trim sensor gave them, in units of their own. -/
structure Thm where
  sensors : List Sensor := List.replicate 12 {}
  fast : Bool := false
  warn : Bool := false
  throttle : Bool := false
  stop : Bool := false
  peak : Option Int := none
  trimGap : Nat := 0
  trimRef : Int := 0
  trimOsc : Nat := 0
deriving DecidableEq, Repr

/-- A journal record (R596), complete in the MRAM or waiting; `ok` is its CRC. -/
structure JRec where
  commit : Nat
  part : Nat
  last : Bool
  seq : Nat
  epoch : Nat
  entries : List (Nat × Word)
  ok : Bool
deriving DecidableEq, Repr

/-- A header copy of the reserve store (R595). -/
structure RsvHdr where
  ok : Bool
  seq : Nat
  image : Nat
  erased : Bool
  commit : Nat
  start : Nat
deriving DecidableEq, Repr

/-- An image of the Retained registers as (offset, value) pairs (R595). -/
structure RsvImg where
  ok : Bool
  regs : List (Nat × Word)
deriving DecidableEq, Repr

/-- The MRAM (R595): header copies, images A and B, and the records of the journal ring, oldest first; it keeps its contents in every reset. -/
structure Mram where
  hdrs : List RsvHdr := [⟨false, 0, 0, false, 0, 0⟩, ⟨false, 0, 0, false, 0, 0⟩]
  imgs : List RsvImg := [⟨false, []⟩, ⟨false, []⟩]
  ring : List JRec := []
  pos : Nat := 0
deriving DecidableEq, Repr

/-- The reserve store's controller (R596–R603): the records waiting and being written, a compaction or an erase in progress with its snapshot. -/
structure Rsv where
  mram : Mram := {}
  queue : List JRec := []
  writing : Option JRec := none
  compact : Option RsvImg := none
  compactCommit : Nat := 0
  compactWait : Bool := false
  erasing : Bool := false
  erased : Bool := false
  fresh : Bool := true
  stopped : Bool := false
  notRetained : Bool := false
  commitId : Nat := 0
  nextCommit : Nat := 1
  nextSeq : Nat := 1
  replayed : Nat := 0
  discarded : Nat := 0
  defaulted : Nat := 0
  records : Nat := 0
deriving DecidableEq, Repr

/-- The pins and side ports with state of their own: EMBLK_N (R627), the boundary-scan instruction (R632), the service port (R633). -/
structure Pins where
  emblkLow : Bool := false
  scanInstr : Nat := 0
  scanActive : Nat := 0
  svcAccesses : Nat := 0
deriving DecidableEq, Repr

/-- A queue pair (R510–R517, R535–R537). `slots` are the unconsumed delivery slots, oldest first; `reserved` counts fetched requests whose
completion is outstanding; `gen` counts the queue's running periods. -/
structure Queue where
  st : Nat := 0
  err : Nat := 0
  gen : Nat := 0
  sqHead : Nat := 0
  sqTail : Nat := 0
  cqTail : Nat := 0
  phase : Bool := true
  slots : List (List Word) := []
  reserved : Nat := 0
  drop : Nat := 0
  evLost : Nat := 0
  unsig : Nat := 0
  firstUnsig : Option Nat := none
  signals : Nat := 0
deriving DecidableEq, Repr

/-- A recorder transfer in progress (R523): segment, offset, length, the segment's SEGSEQ. -/
structure Xfer where
  ref : CompRef
  seg : Nat
  off : Nat
  len : Nat
  seq : Nat
  aborted : Bool
deriving DecidableEq, Repr

/-- A posted receive buffer (R525) or a frame waiting to be sent (R524). -/
structure EthReq where
  ref : CompRef
  port : Nat
  len : Nat
deriving DecidableEq, Repr

/-- The host interface (R507–R538). -/
structure Pci where
  speed : Nat := 0
  width : Nat := 0
  up : Bool := false
  downCnt : Nat := 0
  linkReset : Bool := false
  subsysId : Nat := 0x00001E3A
  evq : List Ev := []
  evCount : Nat := 0
  evLost : Nat := 0
  ethNoBuf : Nat := 0
  ethRejected : Nat := 0
  rxbufs : List EthReq := []
  txq : List EthReq := []
  xfers : List Xfer := []
  msixTable : List Word := (List.replicate 64 [0, 0, 0, 1]).flatten
  msixPending : Nat := 0
  msixSent : List Nat := List.replicate 64 0
  queues : List Queue := List.replicate 32 {}
deriving DecidableEq, Repr

/-- The access protection unit (R539–R545, R572). `seen` holds the (source, kind) pairs already reported in this epoch. -/
structure Apu where
  ofs : Nat := 0
  info : Nat := 0
  cnt : Nat := 0
  seen : List (Nat × Nat) := []
deriving DecidableEq, Repr

/-- The vault (R553–R563, R573). `running` is the command being run and `pendResult` the result it will complete with; `attest` is 1 while ATTEST waits for
its boundary, 2 once `report` holds bytes 0–303; hashes are numbers whose byte i is byte i of the byte string. -/
structure Vlt where
  st : Nat := 0
  sealed : Bool := false
  ownerSet : Bool := false
  svcOpen : Bool := false
  svcPolicy : Nat := 0
  bootPolicy : Nat := 0
  unlockFails : Nat := 0
  marker : Bool := false
  bootResult : Nat := 0
  bootImage : Nat := 0
  attempts : Nat := 0
  cfgVerified : Bool := false
  fwMeas : Nat := 0
  cfgMeas : Nat := 0
  fwPayload : List Nat := []
  ownerHash : Nat := 0
  ctrs : List Nat := List.replicate 16 0
  idPriv : List Nat := []
  idPub : List Nat := []
  cert : List Nat := []
  running : Option Nat := none
  pendResult : Nat := 0
  cmdResult : Nat := 0
  cmdOp : Nat := 0
  challenge : List Nat := []
  challengeEnd : Nat := 0
  out : List Nat := []
  sealPend : Bool := false
  attest : Nat := 0
  nonce : List Word := []
  report : List Nat := []
deriving DecidableEq, Repr

/-- One scan job (R566–R570, R574). `st` is 0 IDLE, 1 WAITING, 2 RUNNING, 3 PRE-EMPTED; `restart` marks an abandoned pass (R569), `moved` a pass whose range
may have changed (R568). -/
structure Job where
  st : Nat := 0
  stopped : Bool := false
  passes : Nat := 0
  lateCnt : Nat := 0
  restarts : Nat := 0
  corrected : Nat := 0
  uncorr : Nat := 0
  ueAddr : Nat := 0
  ueLast : Bool := false
  resLo : Nat := 0
  resHi : Nat := 0
  dueAt : Option Nat := none
  restart : Bool := false
  moved : Bool := false
  startEpoch : Nat := 0
deriving DecidableEq, Repr

/-- The device but for the recorder DRAM and the waiting commands. The banks are sparse tables keyed by BAR0 offset: `active` and `staging` copies of the
RWS and RWL registers (R38), the RW registers, the sticky bits of W1C registers and the clears waiting for the next boundary as (offset, arrival stamp, bits) (R61). `free` counts the
free values taken so far; it is the model's own field. -/
structure Dev where
  active : List (Nat × Word) := []
  staging : List (Nat × Word) := []
  rw : List (Nat × Word) := []
  sticky : List (Nat × Word) := []
  clears : List (Nat × Nat × Word) := []
  sys : Sys := {}
  frt : Frt := {}
  boot : Boot := {}
  gc : Path := {}
  rae : Rae := {}
  prc : Prc := {}
  lpe : Lpe := {}
  mbe : Mbe := {}
  ikl : Ikl := {}
  nodes : List (Nat × Node) := []
  rdn : Rdn := {}
  adc : Adc := {}
  svi : List SvStream := List.replicate 16 {}
  mcd : Mcd := {}
  clk : Clk := {}
  tmb : Tmb := {}
  ptp : Ptp := {}
  ddp : Ddp := {}
  recd : Rec := {}
  pci : Pci := {}
  apu : Apu := {}
  vlt : Vlt := {}
  jobs : List Job := List.replicate 8 {}
  pwr : Pwr := {}
  thm : Thm := {}
  rsv : Rsv := {}
  pins : Pins := {}
  free : Nat := 0
deriving DecidableEq, Repr

/-- The block's state: the device, the snapshot of the last boundary (R56), the snapshot a hold keeps for register reads (R59), the recorder DRAM as
(address, byte) pairs in canonical form, and the commands that wait, first in, first out. -/
structure State where
  dev : Dev
  snap : Dev
  held : Option Dev
  dram : List Host.Cell
  pending : List Instr
deriving DecidableEq, Repr

/-- Right after reset: everything at the reset values, power just applied, PORB still asserted, the reset cause POR (R581, R584), no command waiting. -/
def State.reset : State := { dev := {}, snap := {}, held := none, dram := [], pending := [] }

end Sys2Proof.Machine
end

