-- ==== Sys2Proof/Machine/Regs.lean ====
section
/-! DEFINITION. The register banks (R9–R14, R38–R40, R61): which register lies at an offset, its reset value, and the active, staging, RW and sticky copies. -/
namespace Sys2Proof.Machine

/-- An offset inside a register group of the given repeats, measured from the group's base. -/
def inDims : List (Nat × Nat) → Nat → Bool
  | [], r => r == 0
  | [(n, s)], r => r % s == 0 && decide (r / s < n)
  | (n, s) :: ds, r => (List.range n).any (fun i => decide (i * s ≤ r) && inDims ds (r - i * s))

/-- A register group covers window offset `o`. -/
def RegDef.covers (d : RegDef) (o : Nat) : Bool := decide (d.base ≤ o) && inDims d.dims (o - d.base)

/-- The register at a BAR0 offset (R12, R607). -/
def findReg (off : Nat) : Option RegDef :=
  if off < 0x180000 then (blockRegs (off / 0x10000)).find? (fun d => d.covers (off % 0x10000)) else none

/-- The stored reset value of the fields of the given kinds. -/
def resetBits (p : Acc → Bool) (fs : List Fld) : Nat :=
  fs.foldl (fun a f => if p f.acc then a + put f.hi f.lo f.reset else a) 0

/-- The bits of the fields of the given kinds. -/
def maskBits (p : Acc → Bool) (fs : List Fld) : Nat :=
  fs.foldl (fun a f => if p f.acc then a + maskOf f.hi f.lo else a) 0

/-- A field that has staging and active copies (R38). -/
def isStaged (a : Acc) : Bool := a == .rws || a == .rwl

/-- The reset value of the staged fields at an offset: what an unlisted offset of the active and staging banks holds. -/
def resetOf (off : Nat) : Word :=
  match findReg off with
  | some d => word (resetBits isStaged d.flds)
  | none => 0

/-- What an unlisted offset of the RW and W1C banks holds: 0, the reset value of every RW and W1C field. -/
def zeroOf (_ : Nat) : Word := 0

/-- The mask of the fields of one access kind at an offset. -/
def accMask (p : Acc → Bool) (off : Nat) : Word :=
  match findReg off with
  | some d => word (maskBits p d.flds)
  | none => 0

/-- The active copy of a staged register. -/
def Dev.act (d : Dev) (off : Nat) : Word := spGet resetOf d.active off

/-- The staging copy of a staged register. -/
def Dev.stg (d : Dev) (off : Nat) : Word := spGet resetOf d.staging off

/-- The current value of an RW register. -/
def Dev.rwv (d : Dev) (off : Nat) : Word := spGet zeroOf d.rw off

/-- The bits set in a W1C register. -/
def Dev.stk (d : Dev) (off : Nat) : Word := spGet zeroOf d.sticky off

/-- Write a staging copy; SYS_STAGE_GEN increments and DIRTY follows (R46). -/
def Dev.stage (d : Dev) (off : Nat) (v : Word) : Dev :=
  { d with staging := spPut resetOf off (v &&& accMask isStaged off) d.staging, sys := { d.sys with stageGen := d.sys.stageGen + 1, dirty := true } }

/-- Write both copies of a staged register (R449). -/
def Dev.setBoth (d : Dev) (off : Nat) (v : Word) : Dev :=
  { d with active := spPut resetOf off v d.active, staging := spPut resetOf off v d.staging }

/-- Write an RW register. -/
def Dev.setRw (d : Dev) (off : Nat) (v : Word) : Dev :=
  { d with rw := spPut zeroOf off (v &&& accMask (· == .rw) off) d.rw }

/-- An occurrence sets W1C bits; a clear that was written before does not remove them (R61). -/
def Dev.setSticky (d : Dev) (off : Nat) (bits : Word) : Dev :=
  { d with sticky := spPut zeroOf off (d.stk off ||| bits) d.sticky
           clears := d.clears.map (fun (c : Nat × Nat × Word) => if c.1 = off then (c.1, c.2.1, c.2.2 &&& ~~~bits) else c) }

/-- An occurrence at station time `t` sets bits of a W1C register; clears written before it leave them set (R61). -/
def Dev.setStickyAt (d : Dev) (t off : Nat) (bits : Word) : Dev :=
  { d with sticky := spPut zeroOf off (d.stk off ||| bits) d.sticky
           clears := d.clears.map (fun (c : Nat × Nat × Word) => if c.1 = off ∧ c.2.1 ≤ t then (c.1, c.2.1, c.2.2 &&& ~~~bits) else c) }


/-- Step 4 of the boundary at station time `b`: the clears written during the epoch that ends are applied (R35, R61, R65). -/
def Dev.applyClears (d : Dev) (b : Nat) : Dev :=
  { d with sticky := (d.clears.filter (fun (c : Nat × Nat × Word) => decide (c.2.1 < b))).foldl (fun m c => spPut zeroOf c.1 (spGet zeroOf m c.1 &&& ~~~c.2.2) m) d.sticky
           clears := d.clears.filter (fun (c : Nat × Nat × Word) => !decide (c.2.1 < b)) }

/-- Bits of a W1C register are cleared by the device itself. -/
def Dev.dropSticky (d : Dev) (off : Nat) (bits : Word) : Dev :=
  { d with sticky := spPut zeroOf off (d.stk off &&& ~~~bits) d.sticky }

/-- A field of the active copy. -/
def Dev.afld (d : Dev) (off hi lo : Nat) : Nat := fld (d.act off) hi lo

/-- A bit of the active copy. -/
def Dev.abit (d : Dev) (off i : Nat) : Bool := bit (d.act off) i

/-- A binary32 parameter of the active bank. -/
def Dev.aval (d : Dev) (off : Nat) : Rat := fv (d.act off)

end Sys2Proof.Machine
end

