-- ==== Sys2Proof/Machine/Ops.lean ====
section
/-! DEFINITION. The operations every family shares: time and stamps, modes, events (R68, R532), queues and delivery slots (R510–R517), completions (R530),
MSI-X (R536), free values, the recorder DRAM. -/
namespace Sys2Proof.Machine

/-- A meaning's result: the command changes the device only. -/
def onDev (f : Dev → Dev) (s : State) : Host.Outcome State Fault Refusal := .next { s with dev := f s.dev }

-- Time -----------------------------------------------------------------------------------------------------------------

/-- One nanosecond in time units of 2⁻⁴⁰/3 ns. -/
def nsU : Nat := 3 * 2 ^ 40
/-- One root-clock cycle, 416.67 ps. -/
def rootU : Nat := 5 * 2 ^ 38
/-- One block time of a lane, 6.875 ns (R292). -/
def blockU : Nat := 165 * 2 ^ 37
/-- One microsecond. -/
def usU : Nat := 1000 * nsU
/-- One millisecond. -/
def msU : Nat := 1000000 * nsU
/-- One second. -/
def secU : Nat := 1000000000 * nsU

/-- Seconds of a station time. -/
def tSec (t : Nat) : Nat := t / secU
/-- Nanoseconds of a station time. -/
def tNs (t : Nat) : Nat := (t % secU) / nsU
/-- Fractional nanoseconds of a station time, units of 2⁻¹⁶ ns. -/
def tFrac (t : Nat) : Nat := (t % nsU) * 2 ^ 16 / nsU
/-- Station time from seconds and nanoseconds. -/
def tOf (sec ns : Nat) : Nat := sec * secU + ns * nsU

/-- Tc in root cycles: the active TMB_PERIOD (R429). -/
def Dev.cycles (d : Dev) : Nat := d.afld R.TMB_PERIOD 16 0
/-- Tc in time units. -/
def Dev.tc (d : Dev) : Nat := d.cycles * rootU
/-- Tc in seconds. -/
def Dev.tcs (d : Dev) : Rat := (d.cycles : Rat) / 2400000000
/-- The epoch origin as station time (R25, R28). -/
def Dev.origin (d : Dev) : Nat := ((d.act R.TMB_EPOCH_ORIGIN_HI).toNat * 2 ^ 32 + (d.act R.TMB_EPOCH_ORIGIN_LO).toNat) * secU
/-- The grid instant of SYNC k (R25). -/
def Dev.grid (d : Dev) (k : Nat) : Nat := d.origin + k * d.tc
/-- The present instant belongs to the next epoch already, though its boundary has not been issued (R65). -/
def Dev.afterEpoch (d : Dev) : Bool := decide (d.grid (d.tmb.epoch + 1) ≤ d.tmb.now)
/-- Elapsed time since SYNC k. -/
def Dev.since (d : Dev) : Nat := d.tmb.up - d.tmb.syncUp

-- Modes ----------------------------------------------------------------------------------------------------------------

/-- Mode codes of R71. -/
def Mode.code : Mode → Nat
  | .boot => 0 | .config => 1 | .standby => 2 | .precharge => 3 | .blackstart => 4 | .gfIsland => 5
  | .gfGrid => 6 | .gfl => 7 | .dcv => 8 | .statcom => 9 | .frt => 10 | .service => 11

/-- The mode of a code; codes 12–15 are not used (R71). -/
def Mode.ofCode : Nat → Option Mode
  | 0 => some .boot | 1 => some .config | 2 => some .standby | 3 => some .precharge | 4 => some .blackstart | 5 => some .gfIsland
  | 6 => some .gfGrid | 7 => some .gfl | 8 => some .dcv | 9 => some .statcom | 10 => some .frt | 11 => some .service
  | _ => none

/-- Modes 4 to 10 are energized (R72). -/
def Mode.energized (m : Mode) : Bool := decide (4 ≤ m.code) && decide (m.code ≤ 10)
/-- Modes 0, 1, 2 and 11 are blocked (R72). -/
def Mode.blocked (m : Mode) : Bool := m == .boot || m == .config || m == .standby || m == .service
/-- PRECHARGE or an energized mode. -/
def Mode.live (m : Mode) : Bool := m == .precharge || m.energized
/-- The device's mode. -/
def Dev.mode (d : Dev) : Mode := d.sys.mode
/-- The law in force: that of the return mode in FRT (R71). -/
def Dev.law (d : Dev) : Mode := if d.sys.mode = .frt then d.sys.ret else d.sys.mode

/-- Domain `n` (1–14) is powered and its logic out of reset (R577). -/
def Dev.domOn (d : Dev) (n : Nat) : Bool :=
  match nth d.pwr.on (n - 1) none with
  | some t => decide (t ≤ d.tmb.up)
  | none => false

/-- The lanes run: not BOOT, PLL in lock and the domains on the root clock (R71, R420). -/
def Dev.lanesRun (d : Dev) : Bool := d.mode != .boot && d.clk.lock && !d.clk.fallback && !d.pwr.down

/-- Lane `n` is enabled (R291) and its domain on. -/
def Dev.laneOn (d : Dev) (n : Nat) : Bool := decide (n < 12) && d.abit R.IKL_LANE_EN n && d.domOn (if n < 6 then 12 else 13)

/-- A fresh free value below `n`. -/
def Dev.freeBelow (d : Dev) (n : Nat) : Nat := Config.free d.free % n
/-- The counter of free values after one has been taken. -/
def Dev.tookFree (d : Dev) : Dev := { d with free := d.free + 1 }

-- The timebase tick ------------------------------------------------------------------------------------------

/-- M_nom × 2³² (R413). -/
def Dev.multNom (d : Dev) : Nat := (if d.abit R.CLK_PLL_CFG 0 then 192 else 480) * 2 ^ 32
/-- INCR in time units: 5 ns + TRIM × 2⁻⁴⁰ ns (R425). -/
def Dev.incr (d : Dev) : Int := 15 * 2 ^ 40 + 3 * d.tmb.trim

/-- The advance of station time in one tick (R425), before the slew of R443. -/
def Dev.advance1 (d : Dev) : Int :=
  if d.clk.fallback then d.incr * 8 / 7 else d.incr * (d.multNom : Int) / (d.clk.mult : Int)

/-- The length of a timebase tick: 5 ns, on the fallback clock 5.714 ns (R418, R420), free-running within ±2 % of it, which way being free (R419). -/
def Dev.tickU (d : Dev) : Nat :=
  let f := 40 * nsU / 7
  if !d.clk.fallback then 5 * nsU
  else if !d.clk.freeRun then f
  else f * 100 / 102 + d.freeBelow (f * 100 / 98 - f * 100 / 102 + 1)

/-- The stamp of the present instant: station time at the first timebase tick at or after it (R22, R68). -/
def Dev.stampNow (d : Dev) : Nat :=
  if d.tmb.age = 0 then d.tmb.now else d.tmb.now + ((d.tickU - d.tmb.age) * d.advance1.toNat) / d.tickU

/-- A write of a W1C register: the bits written as 1 clear at the next boundary (R10, R61). -/
def Dev.clearReq (d : Dev) (off : Nat) (v : Word) : Dev :=
  { d with clears := d.clears ++ [(off, d.stampNow, v &&& accMask (· == .w1c) off)] }

-- Subsystem numbers of R18 ----------------------------------------------------------------------------------------------

def Sub.sys : Nat := 1
def Sub.pwr : Nat := 2
def Sub.clk : Nat := 3
def Sub.tmb : Nat := 4
def Sub.ptp : Nat := 5
def Sub.pci : Nat := 6
def Sub.vlt : Nat := 8
def Sub.apu : Nat := 9
def Sub.adc : Nat := 10
def Sub.svi : Nat := 11
def Sub.mcd : Nat := 12
def Sub.gfe : Nat := 13
def Sub.cce : Nat := 14
def Sub.lpe : Nat := 15
def Sub.rae : Nat := 16
def Sub.mbe : Nat := 17
def Sub.ikl : Nat := 18
def Sub.rdn : Nat := 19
def Sub.ddp : Nat := 20
def Sub.recd : Nat := 21
def Sub.tly : Nat := 22
def Sub.thm : Nat := 23

-- Events ---------------------------------------------------------------------------------------------------------------

/-- Events are kept in order of stamp, then subsystem, then instance (R68). -/
def Ev.before (a b : Ev) : Bool :=
  decide (a.stamp < b.stamp) || (decide (a.stamp = b.stamp) && (decide (a.subsys < b.subsys) || (decide (a.subsys = b.subsys) && decide (a.inst ≤ b.inst))))

/-- Insert an event behind every event that comes before it. -/
def insertEv (e : Ev) : List Ev → List Ev
  | [] => [e]
  | x :: xs => if x.before e then x :: insertEv e xs else e :: x :: xs

/-- Raise an event with a stamp and epoch of its own (R68, R532). -/
def Dev.raiseAt (d : Dev) (stamp epoch subsys inst ref mask : Nat) (data : List Word) : Dev :=
  { d with pci := { d.pci with evq := insertEv ⟨stamp, epoch, subsys, inst, ref, mask, data⟩ d.pci.evq } }

/-- Raise an event stamped with the present tick (R68). -/
def Dev.raise (d : Dev) (subsys inst ref mask : Nat) (data : List Word) : Dev := d.raiseAt d.stampNow d.tmb.epoch subsys inst ref mask data

/-- A recorder event trigger (R499): kept when its bit of REC_TRIG_EVT is set. -/
def Dev.trigger (d : Dev) (evBit cause stamp epoch : Nat) : Dev :=
  if d.abit R.REC_TRIG_EVT evBit then { d with recd := { d.recd with trigs := d.recd.trigs ++ [⟨cause, stamp, epoch, none⟩] } } else d

/-- Raise an event now that is also a trigger source of R499. -/
def Dev.raiseT (d : Dev) (evBit cause subsys inst ref mask : Nat) (data : List Word) : Dev :=
  (d.raise subsys inst ref mask data).trigger evBit cause d.stampNow d.tmb.epoch

-- Queues ---------------------------------------------------------------------------------------------------------------

/-- A queue pair. -/
def Dev.queue (d : Dev) (q : Nat) : Queue := nth d.pci.queues q {}
/-- Replace a queue pair. -/
def Dev.setQueue (d : Dev) (q : Nat) (x : Queue) : Dev := { d with pci := { d.pci with queues := setAt d.pci.queues q x } }
/-- Entries of the submission ring (R512). -/
def Dev.sqSize (d : Dev) (q : Nat) : Nat := 2 ^ d.afld (R.PCI_Qq_CFG q) 11 8
/-- Slots of the delivery ring (R512). -/
def Dev.cqSize (d : Dev) (q : Nat) : Nat := 2 ^ d.afld (R.PCI_Qq_CFG q) 3 0
/-- Unconsumed slots that are neither written nor reserved (R517). -/
def Dev.cqRoom (d : Dev) (q : Nat) : Nat := d.cqSize q - 1 - (d.queue q).slots.length - (d.queue q).reserved

/-- A message of an MSI-X vector is sent, or stays pending while the vector is masked (R536). -/
def Dev.msix (d : Dev) (v : Nat) : Dev :=
  if bit (wAt d.pci.msixTable (4 * v + 3)) 0 then { d with pci := { d.pci with msixPending := d.pci.msixPending ||| 2 ^ v } }
  else { d with pci := { d.pci with msixSent := modAt d.pci.msixSent v (· + 1) } }

/-- A queue signals its vector (R536). -/
def Dev.signal (d : Dev) (q : Nat) : Dev :=
  (d.setQueue q { d.queue q with unsig := 0, firstUnsig := none, signals := (d.queue q).signals + 1 }).msix (d.afld (R.PCI_Qq_CFG q) 21 16)

/-- A slot of a record: words 0–14, padded with 0, and the tag word (R516). -/
def slotWords (phase : Bool) (type n i : Nat) (ws : List Word) : List Word :=
  forN 15 (wAt ws) ++ [word (put 31 31 (b2n phase) + put 23 16 type + put 15 12 n + put 11 8 i)]

/-- Write the slots of one record, one after another, wrapping at the ring's end (R516). -/
def writeSlots (size type n : Nat) : Nat → List (List Word) → Queue → Queue
  | _, [], x => x
  | i, ws :: rest, x =>
    let t := (x.cqTail + 1) % size
    writeSlots size type n (i + 1) rest
      { x with slots := x.slots ++ [slotWords x.phase type n i ws], cqTail := t, phase := if t = 0 then !x.phase else x.phase }

/-- Write a record to a queue and count it for the signalling of R536. -/
def Dev.deliver (d : Dev) (q type : Nat) (recs : List (List Word)) : Dev :=
  let x := writeSlots (d.cqSize q) type recs.length 0 recs (d.queue q)
  let y := { x with unsig := x.unsig + 1, firstUnsig := some (x.firstUnsig.getD d.tmb.up) }
  let d1 := d.setQueue q y
  if d.afld (R.PCI_Qq_COAL q) 7 0 ≤ y.unsig then d1.signal q else d1

/-- A record other than a completion is written only to a RUNNING queue with room for all its slots (R517). -/
def Dev.hasRoom (d : Dev) (q n : Nat) : Bool := decide ((d.queue q).st = 1) && decide (n ≤ d.cqRoom q)

/-- A completion record (R530) in the slot reserved for it; nothing when the queue no longer runs (R514, R535). -/
def Dev.complete (d : Dev) (r : CompRef) (status result epoch : Nat) (data : List Word) : Dev :=
  let x := d.queue r.q
  if x.gen = r.gen ∧ x.st = 1 then
    let d1 := d.setQueue r.q { x with reserved := x.reserved - 1 }
    d1.deliver r.q 1 [[word (put 31 16 r.tag + put 15 8 r.opcode + put 7 4 status), word result, word x.sqHead, lo32 epoch, hi32 epoch] ++ data]
  else d

/-- A queue's words of an event record (R532). -/
def evWords (e : Ev) (lost : Nat) : List Word :=
  [lo32 e.epoch, hi32 e.epoch, lo32 (tSec e.stamp), hi32 (tSec e.stamp), word (tNs e.stamp),
   word (put 31 27 e.subsys + put 26 14 e.inst + put 13 0 (min lost 16383)), word (put 23 0 e.ref), word e.mask] ++ e.data.take 7

/-- Write one event record, or drop it (R517, R533). -/
def Dev.sendEvent (d : Dev) (e : Ev) : Dev :=
  let cfg := d.act R.PCI_EVT_CFG
  let q := fld cfg 4 0
  if !(bit cfg 8) then d
  else if d.pci.evCount < fld cfg 31 16 ∧ d.hasRoom q 1 then
    let d1 := d.deliver q 3 [evWords e (d.queue q).evLost]
    let d2 := d1.setQueue q { d1.queue q with evLost := 0 }
    { d2 with pci := { d2.pci with evCount := d2.pci.evCount + 1 } }
  else
    let d1 := d.setQueue q { d.queue q with evLost := (d.queue q).evLost + 1 }
    { d1 with pci := { d1.pci with evLost := sat32 d1.pci.evLost 1 } }

/-- Write every waiting event, in order (R529). -/
def Dev.flushEvents (d : Dev) : Dev := d.pci.evq.foldl Dev.sendEvent { d with pci := { d.pci with evq := [] } }

/-- A queue goes to ERROR (R511, R535). -/
def Dev.queueError (d : Dev) (q code : Nat) : Dev := d.setQueue q { d.queue q with st := 2, err := code }

-- Recorder DRAM --------------------------------------------------------------------------------------------------------

/-- What an unlisted DRAM byte reads as. Log 7. -/
def dramDflt (_ : Nat) : Byte := 0
/-- A byte of the DRAM. -/
def dramByte (m : List Host.Cell) (a : Nat) : Byte := spGet dramDflt m a
/-- Write a byte of the DRAM; an address outside the 256 MiB is not part of it. -/
def dramPut (m : List Host.Cell) (a : Nat) (b : Byte) : List Host.Cell := if a < 268435456 then spPut dramDflt a b m else m
/-- Write bytes from an address on. -/
def dramPutBytes : List Host.Cell → Nat → List Nat → List Host.Cell
  | m, _, [] => m
  | m, a, b :: bs => dramPutBytes (dramPut m a (BitVec.ofNat 8 b)) (a + 1) bs
/-- Write little-endian words from an address on. -/
def dramPutWords (m : List Host.Cell) (a : Nat) (ws : List Word) : List Host.Cell := dramPutBytes m a (wordBytesOf ws)
  where wordBytesOf (ws : List Word) : List Nat := ws.flatMap (fun w => leBytes 4 w.toNat)
/-- `n` bytes of the DRAM. -/
def dramBytes (m : List Host.Cell) (a n : Nat) : List Nat := forN n (fun i => (dramByte m (a + i)).toNat)
/-- A word of the DRAM. -/
def dramWord (m : List Host.Cell) (a : Nat) : Word := word (ofLe (dramBytes m a 4))
/-- The DRAM's canonical form (addresses rising inside 256 MiB, no byte listed that an unlisted address reads as). -/
def dramWf (m : List Host.Cell) : Bool := spWf dramDflt m && m.all (fun c => decide (c.1 < 268435456))

end Sys2Proof.Machine
end

