-- ==== Sys2Proof/Machine/Mbe.lean ====
section
/-! DEFINITION. The modulation and balancing engine (R249–R290): ledger completion, prediction, ranking, level count, cell selection, commands. -/
namespace Sys2Proof.Machine

/-- A usable node (R258). -/
def Cell.usable (c : Cell) : Bool := c.st == 1 || c.st == 2
/-- A LOST or BYPASSED node (R258). -/
def Cell.gone (c : Cell) : Bool := c.st == 3 || c.st == 4

/-- The signed insertion of a pair of leg codes (R252); none when the cell is blocked. -/
def insertion (fb : Bool) (a b : Nat) : Option Int :=
  if fb then
    if a = 2 ∧ b = 1 then some 1 else if a = 1 ∧ b = 2 then some (-1) else if (a = 1 ∧ b = 1) ∨ (a = 2 ∧ b = 2) then some 0 else none
  else if a = 2 then some 1 else if a = 1 then some 0 else none

/-- The leg codes of a cell inserted with a sign (R252). -/
def insCodes (fb neg : Bool) : Nat × Nat := if fb then (if neg then (1, 2) else (2, 1)) else (2, 0)

/-- The leg codes of a bypassed cell (R252); `path` true is the upper path. -/
def bypCodes (fb path : Bool) : Nat × Nat := if fb then (if path then (2, 2) else (1, 1)) else (1, 0)

/-- Sum of the ledger voltages of the entries that satisfy `p`, LSB 50 mV. -/
def sumVolt (p : Cell → Bool) (cs : List Cell) : Nat := ((cs.filter p).map (·.volt)).sum

/-- Number of entries that satisfy `p`. -/
def cnt (p : Cell → Bool) (cs : List Cell) : Nat := (cs.filter p).length

/-- N_usable of R262. -/
def Arm.nUsable (x : Arm) : Nat := cnt Cell.usable x.cells
/-- N_fb of R262. -/
def Arm.nFb (x : Arm) : Nat := cnt (fun c => c.usable && c.fb) x.cells

/-- d of R266: the signed inserted fraction of a cell in a period with the given command and PWM length. -/
def insFraction (nc u : Nat) (iMean : Rat) (fb : Bool) (c : CellCmd) : Rat :=
  if c.pwm then
    match insertion fb c.altA c.altB with
    | some x => (x : Rat) * qdivN u nc
    | none => 0
  else match insertion fb c.baseA c.baseB with
    | some x => (x : Rat)
    | none => if 0 < iMean then 1 else if fb && decide (iMean < 0) then -1 else 0
  where qdivN (x y : Nat) : Rat := if y = 0 then 0 else (x : Rat) / (y : Rat)

/-- The ledger voltage of an accumulator in volts (R267). -/
def voltOf (w : Word) : Nat := (clampI 0 65535 ((fv w * 20 + 1 / 2).floor)).toNat

/-- What completion needs besides the arm: PWM units per period, currents of epochs k−1 and k in amperes, Tc and C_sm, BAND. -/
structure LedgerIn where
  nc : Nat
  i0 : Rat
  i1 : Rat
  tc : Rat
  csm : Rat
  band : Nat
deriving DecidableEq, Repr

/-- The predicted accumulator and voltage of a cell (R266). -/
def Cell.predict (x : LedgerIn) (uPrv : Nat) (c : Cell) : Cell :=
  let im := (x.i0 + x.i1) / 2
  let w := rnd (fv c.vacc + insFraction x.nc uPrv im c.fb c.prv * im * x.tc / x.csm)
  { c with vacc := w, volt := voltOf w }

/-- A cell takes its reported voltage. -/
def Cell.take (v : Nat) (c : Cell) : Cell := { c with volt := v, vacc := rnd ((v : Rat) / 20) }

/-- The node state of one entry at ledger completion (R259, R276, R312), but for the EQUALIZING test of R275. -/
def Cell.atCompletion (x : LedgerIn) (uPrv : Nat) (c : Cell) : Cell :=
  match c.st with
  | 3 => c
  | 4 => match c.got with
    | some v => c.take v
    | none => c
  | _ => match c.got with
    | some v => { c.take v with st := if c.bad then 4 else if c.st = 5 then 5 else 1, missed := 0 }
    | none =>
      if !c.due then c.predict x uPrv
      else if 3 ≤ c.missed then { c with st := 3 }
      else if c.st = 5 then c.predict x uPrv
      else { c.predict x uPrv with st := 2 }

/-- R275: an EQUALIZING node that reported becomes OK when it lies within BAND of the mean usable voltage, or when the arm has no usable node. -/
def equalized (band n sum : Nat) (c : Cell) : Cell :=
  if c.st = 5 ∧ c.got ≠ none ∧ (n = 0 ∨ ((c.volt * n : Nat) : Int) - (sum : Int) ≤ ((band * n : Nat) : Int) ∧ (sum : Int) - ((c.volt * n : Nat) : Int) ≤ ((band * n : Nat) : Int)) then
    { c with st := 1 } else c

/-- The ledger of an arm is complete (R259–R262). -/
def Arm.finish (x : LedgerIn) (a : Arm) : Arm :=
  let cs := a.cells.map (Cell.atCompletion x a.uPrv)
  let n := cnt Cell.usable cs
  let sum := sumVolt Cell.usable cs
  { a with cells := cs.map (equalized x.band n sum), complete := true }

/-- The key order of R263: usable first, then voltage, then address. -/
def Cell.keyLe (a b : Cell) : Bool :=
  let ka := (if a.usable then 0 else 1) * 2 ^ 29 + a.volt * 2 ^ 13 + a.addr
  let kb := (if b.usable then 0 else 1) * 2 ^ 29 + b.volt * 2 ^ 13 + b.addr
  decide (ka ≤ kb)

/-- Insert an entry into a ranked list. -/
def rankInsert (c : Cell) : List Cell → List Cell
  | [] => [c]
  | x :: xs => if c.keyLe x then c :: x :: xs else x :: rankInsert c xs

/-- The ranked ledger (R263, R289). -/
def ranked (cs : List Cell) : List Cell := cs.foldr rankInsert []

/-- The parameters of a selection. -/
structure SelIn where
  nc : Nat
  fracMode : Bool
  swMin : Bool
  alt : Bool
  swapMax : Nat
  band : Nat
  vhi : Nat
  vlo : Nat
  idead : Rat
  phase : Nat
  baseV : Rat
deriving DecidableEq, Repr

/-- Level count of R268 and R269: whole cells and PWM units. -/
def levels (p : SelIn) (neg : Bool) (vArm : Rat) (cs : List Cell) : Nat × Nat :=
  let q := fun c : Cell => c.usable && (!neg || c.fb)
  let n := cnt q cs
  let sum : Rat := (sumVolt q cs : Rat) / 20
  if n = 0 ∨ sum = 0 then (0, 0)
  else
    let r := rabs vArm / (sum / (n : Rat))
    if p.fracMode then
      let w := r.floor.toNat
      let u := ((r - (w : Rat)) * (p.nc : Rat) + 1 / 2).floor.toNat
      if u = p.nc then (w + 1, 0) else (w, u)
    else ((r + 1 / 2).floor.toNat, 0)

/-- A candidate held back by R274. -/
def heldBack (p : SelIn) (dis : Bool) (c : Cell) : Bool :=
  if dis then decide (p.vlo ≠ 0) && decide (c.volt ≤ p.vlo) else decide (p.vhi ≠ 0) && decide (p.vhi ≤ c.volt)

/-- Preference classes of R274 and R275, most preferred first. -/
def prefClass (p : SelIn) (dis : Bool) (c : Cell) : Nat :=
  (if heldBack p dis c then 2 else 0) + (if c.st = 5 then 0 else 1)

/-- `a` is preferred to `b` or equal (R273–R275). -/
def prefLe (p : SelIn) (dis : Bool) (a b : Cell) : Bool :=
  let ca := prefClass p dis a
  let cb := prefClass p dis b
  decide (ca < cb) || (decide (ca = cb) &&
    (if dis then decide (b.volt * 2 ^ 13 + b.addr ≤ a.volt * 2 ^ 13 + a.addr) else decide (a.volt * 2 ^ 13 + a.addr ≤ b.volt * 2 ^ 13 + b.addr)))

/-- Insert in order of preference. -/
def prefInsert (p : SelIn) (dis : Bool) (c : Cell) : List Cell → List Cell
  | [] => [c]
  | x :: xs => if prefLe p dis c x then c :: x :: xs else x :: prefInsert p dis c xs

/-- An EQUALIZING node that reported is a candidate in the direction that moves its voltage towards the arm mean (R275, R276). -/
def eqCandidate (dis : Bool) (n sum : Nat) (c : Cell) : Bool :=
  c.st == 5 && c.got != none && decide (n ≠ 0) && (if dis then decide (sum < c.volt * n) else decide (c.volt * n < sum))

/-- The candidates of an arm in order of preference (R274). -/
def candidates (p : SelIn) (dis neg : Bool) (cs : List Cell) : List Cell :=
  let n := cnt Cell.usable cs
  let sum := sumVolt Cell.usable cs
  (cs.filter (fun c => (!neg || c.fb) && (c.usable || eqCandidate dis n sum c))).foldr (prefInsert p dis) []

/-- `y` is preferred over `x` by more than the band (R278). -/
def overBand (p : SelIn) (dis : Bool) (y x : Cell) : Bool :=
  if heldBack p dis x ≠ heldBack p dis y then heldBack p dis x
  else if dis then decide (x.volt + p.band < y.volt) else decide (y.volt + p.band < x.volt)

/-- The exchange loop of R278: kept cells, the others, exchanges made, and whether SWAP_MAX stopped it (R279). -/
def swapLoop (p : SelIn) (dis : Bool) : Nat → List Cell → List Cell → Nat → List Cell × List Cell × Nat × Bool
  | fuel, keep, rest, k =>
    match keep.getLast?, rest with
    | some x, y :: ys =>
      if overBand p dis y x then
        match fuel with
        | 0 => (keep, rest, k, true)
        | f + 1 => swapLoop p dis f (prefInsert p dis y keep.dropLast) (prefInsert p dis x ys) (k + 1)
      else (keep, rest, k, false)
    | _, _ => (keep, rest, k, false)

/-- A cell of K: inserted with the sign for the whole of the period in effect (R278). -/
def inK (neg : Bool) (c : Cell) : Bool := !c.cur.pwm && insertion c.fb c.cur.baseA c.cur.baseB == some (if neg then -1 else 1)

/-- Inserted cells, the others in order of preference, exchanges, SWAP_CAP (R277, R278). -/
def choose (p : SelIn) (dis neg : Bool) (n : Nat) (cs : List Cell) : List Cell × List Cell × Nat × Bool :=
  if !p.swMin then (cs.take n, cs.drop n, 0, false)
  else
    let k := cs.filter (inK neg)
    let o := cs.filter (fun c => !(inK neg c))
    let keep0 := k.take n
    let rest0 := (k.drop n).foldr (prefInsert p dis) o
    let need := n - keep0.length
    swapLoop p dis p.swapMax ((rest0.take need).foldr (prefInsert p dis) keep0) (rest0.drop need) 0

/-- The bypass path of a cell for the next period (R253). -/
def Cell.nextPath (alt : Bool) (c : Cell) : Bool :=
  if !c.fb || !alt then false
  else if insertion c.fb c.cur.baseA c.cur.baseB = some 0 then c.path
  else if c.pathUsed then !c.path else false

/-- The bypassed command of a cell. -/
def Cell.bypass (alt : Bool) (c : Cell) : Cell :=
  let b := bypCodes c.fb (c.nextPath alt)
  { c with cmd := ⟨b.1, b.2, b.1, b.2, false⟩ }

/-- The bypass path that BASE codes use; none when they do not bypass the cell. -/
def pathOf (fb : Bool) (c : CellCmd) : Option Bool := if insertion fb c.baseA c.baseB = some 0 then some (fb && c.baseA == 2) else none

/-- The PWM cell: bypassed outside the interval, inserted inside it (R270). -/
def Cell.asPwm (alt neg : Bool) (c : Cell) : Cell :=
  let b := c.bypass alt
  let i := insCodes c.fb neg
  { b with cmd := { b.cmd with altA := i.1, altB := i.2, pwm := true } }

/-- An inserted cell. -/
def Cell.inserted (neg : Bool) (c : Cell) : Cell :=
  let i := insCodes c.fb neg
  { c with cmd := ⟨i.1, i.2, i.1, i.2, false⟩ }

/-- The state changes a command adds to a cell's count (R281). -/
def Cell.changes (c : Cell) : Nat :=
  (if c.cmd.baseA ≠ c.cur.baseA ∨ c.cmd.baseB ≠ c.cur.baseB then 1 else 0) + (if c.cmd.pwm then 2 else 0)

/-- The state changes of a cell commanded for the next period; none in a repeat (R272, R281). -/
def Arm.cellChanges (a : Arm) (c : Cell) : Nat := if a.rep then 0 else c.changes
/-- Those of the arm. -/
def Arm.changes (a : Arm) : Nat := (a.cells.map a.cellChanges).sum

/-- A blocked cell; LOST and BYPASSED cells keep their bypass (R271). -/
def Cell.block (alt : Bool) (c : Cell) : Cell := if c.gone then c.bypass alt else { c with cmd := {} }

/-- Commands of an arm in a blocked mode, a temporary block or the passive stage of precharge (R271). -/
def Arm.blocked (p : SelIn) (a : Arm) : Arm :=
  { a with cells := a.cells.map (Cell.block p.alt), neg := false, dir := false, ran := false, nIns := 0, pwm := false, on := p.phase, off := p.phase, u := 0
           swaps := 0, vlim := false, swapCap := false }

/-- Commands of an arm in the active stage of precharge: the `n` lowest-ranked usable cells inserted, the others bypassed (R102, R271). -/
def Arm.precharge (p : SelIn) (n : Nat) (a : Arm) : Arm :=
  let ins := ((ranked (a.cells.filter Cell.usable)).take n).map (·.addr)
  { a with cells := a.cells.map (fun (c : Cell) => if c.usable && ins.contains c.addr then c.inserted false else c.bypass p.alt)
           neg := false, dir := false, ran := false, nIns := n, pwm := false, on := p.phase, off := p.phase, u := 0, swaps := 0, vlim := false, swapCap := false }

/-- The direction of preference: true for Discharging (R273). -/
def direction (p : SelIn) (neg : Bool) (i : Rat) (a : Arm) : Bool :=
  let x := if neg then -i else i
  if p.idead < x then false else if x < -p.idead then true
  else if a.ran ∧ a.neg = neg then a.dir else false

/-- Selection and commands of an arm in an energized epoch for the arm reference `v` in pu and current `i` in pu (R268–R281). -/
def Arm.select (p : SelIn) (v i : Rat) (a : Arm) : Arm :=
  let neg := decide (v < 0)
  let lv := levels p neg (v * p.baseV) a.cells
  let dis := direction p neg i a
  let ch := choose p dis neg lv.1 (candidates p dis neg a.cells)
  let ins := ch.1.map (·.addr)
  let pw : Option Cell := if lv.2 = 0 then none else ch.2.1.head?
  let used := ch.1 ++ pw.toList
  { a with
      cells := a.cells.map (fun (c : Cell) =>
        if c.gone then c.bypass p.alt
        else if ins.contains c.addr then c.inserted neg
        else if pw.map Cell.addr = some c.addr then c.asPwm p.alt neg
        else c.bypass p.alt)
      neg := neg, dir := dis, ran := true, nIns := lv.1, pwm := pw.isSome, on := p.phase
      off := if pw.isSome then (p.phase + lv.2) % p.nc else p.phase
      u := if pw.isSome then lv.2 else 0
      swaps := ch.2.2.1, swapCap := ch.2.2.2, vlim := used.any (heldBack p dis) }

/-- Nodes a C3 branch assumes LOST (R236): excluded, bypassed, and LOST from SYNC k+1. -/
def Arm.assumeLost (missing : List Nat) (a : Arm) : Arm :=
  { a with cells := a.cells.map (fun c => if missing.contains c.addr ∧ !c.gone then { c with st := 3 } else c) }

/-- The command for the next period comes into effect (R254, R280), with its bypass path (R253) and its state changes (R281). -/
def Cell.enact (n : Nat) (c : Cell) : Cell :=
  { c with prv := c.cur, cur := c.cmd, path := (pathOf c.fb c.cmd).getD c.path, pathUsed := c.pathUsed || (pathOf c.fb c.cmd).isSome, sw := sat32 c.sw n }

/-- The boundary: the commands come into effect, the epoch's reports are forgotten. -/
def Arm.advance (phaseOf : Nat → Option Nat) (epoch : Nat) (a : Arm) : Arm :=
  { a with
      cells := a.cells.map (fun c => { c.enact (a.cellChanges c) with got := none, bad := false, cut := false
                                                                      due := match phaseOf c.addr with | some p => decide (epoch % 2 = p) | none => true })
      uPrv := a.uCur, uCur := a.u, complete := false, rep := false, swTotal := sat32 a.swTotal a.changes }

/-- An overrun: the commands in effect are repeated (R272). -/
def Arm.repeated (a : Arm) : Arm := { a with cells := a.cells.map (fun c => { c with cmd := c.cur }), u := a.uCur, rep := true }

/-- Every cell is commanded blocked for the period that begins (R271); LOST and BYPASSED cells keep their bypass. -/
def Arm.forceBlock (a : Arm) : Arm :=
  { a with cells := a.cells.map (fun c => if c.gone then c else { c with cmd := {} }), u := 0, off := a.on, pwm := false, nIns := 0, ran := false, rep := false }

/-- A node is in the ALT state at `t` units after its SYNC (R255). -/
def inPwm (on off t : Nat) : Bool := if on < off then decide (on ≤ t) && decide (t < off) else if off < on then decide (on ≤ t) || decide (t < off) else false

/-- The leg codes a command puts in effect at `t` units after the node's SYNC (R254, R255). -/
def CellCmd.legsAt (c : CellCmd) (on off t : Nat) : Nat × Nat := if c.pwm && inPwm on off t then (c.altA, c.altB) else (c.baseA, c.baseB)

/-- The arm awaits no report: none of its entries that is not LOST or BYPASSED is still due (R261). -/
def Arm.awaits (a : Arm) : Bool := a.cells.any (fun c => !c.gone && c.due && c.got == none && !c.cut)

-- The engine over the device -------------------------------------------------------------------------------------------

/-- N_c of R256. -/
def Dev.nc (d : Dev) : Nat := d.cycles / 3

/-- Conditioned quantity `x` as the engines of the epoch see it (R410). -/
def Dev.mcdNow (d : Dev) : McdSt := d.mcd.next.getD d.mcd.st
/-- A conditioned quantity of the epoch. -/
def Dev.qty (d : Dev) (x : Nat) : Rat := fv (wAt d.mcdNow.q x)

/-- The DC current base in amperes (R17). -/
def Dev.idcBase (d : Dev) : Rat := if d.aval R.MCD_BASE_VDC = 0 then 0 else 1000 * d.aval R.MCD_BASE_S / d.aval R.MCD_BASE_VDC

/-- The inputs of a ledger completion of arm `n`. -/
def Dev.ledgerIn (d : Dev) (n : Nat) : LedgerIn :=
  { nc := d.nc, i0 := fv (nth d.mbe.arms n {}).iPrev * d.idcBase, i1 := d.qty (82 + n) * d.idcBase, tc := d.tcs
    csm := d.aval R.CCE_CSM / 1000, band := d.afld R.MBE_BAND 15 0 }

/-- Replace arm `n`. -/
def Dev.setArm (d : Dev) (n : Nat) (a : Arm) : Dev := { d with mbe := { d.mbe with arms := setAt d.mbe.arms n a } }

/-- The redundancy count of an arm (R282). -/
def Dev.redundancy (d : Dev) (n : Nat) (a : Arm) : Int := (a.nUsable : Int) - (d.afld (R.MBE_ARMn_CFG n) 9 0 : Int)

/-- Complete the ledger of arm `n`: states, prediction, redundancy warning with its event (R259–R262, R284). -/
def Dev.completeArm (d : Dev) (n : Nat) : Dev :=
  let a0 := nth d.mbe.arms n {}
  if a0.complete || d.mode == .boot then d
  else
    let a := a0.finish (d.ledgerIn n)
    let low := decide (d.redundancy n a ≤ (d.afld R.MBE_RED_CFG 9 0 : Int))
    let d1 := d.setArm n { a with redLow := low }
    if low && !a0.redLow then d1.raise Sub.mbe n R.MBE_STATUS (2 ^ (16 + n)) [] else d1

/-- A cell of the arm takes a predicted voltage, which needs the arm current of the epoch (R266). -/
def Arm.predicts (a : Arm) : Bool := a.cells.any (fun c => !c.gone && c.got == none)

/-- Arm `n` completes when it awaits no report (R261); an arm with a voltage to predict waits for the arm current of the epoch (R266). -/
def Dev.completeIf (d : Dev) (n : Nat) : Dev :=
  let a := nth d.mbe.arms n {}
  if a.awaits || (a.predicts && d.mcd.next.isNone) then d else d.completeArm n

/-- Complete every arm that can complete (R261). -/
def Dev.completeReady (d : Dev) : Dev := (List.range 6).foldl Dev.completeIf d

/-- The parameters of a selection of arm `n`. -/
def Dev.selIn (d : Dev) (n : Nat) : SelIn :=
  { nc := d.nc, fracMode := d.afld R.MBE_CTRL 9 8 = 1, swMin := d.abit R.MBE_CTRL 0, alt := d.abit R.MBE_CTRL 4
    swapMax := d.afld R.MBE_BAND 31 24, band := d.afld R.MBE_BAND 15 0, vhi := d.afld R.MBE_VLIM 31 16, vlo := d.afld R.MBE_VLIM 15 0
    idead := d.aval R.MBE_IDEAD, phase := d.afld (R.MBE_ARMn_CFG n) 31 16, baseV := 1000 * d.aval R.MCD_BASE_VDC }

/-- Reports of nodes that missed the cut-off and are not already LOST (R227, C3). -/
def Arm.missing (a : Arm) : List Nat := (a.cells.filter (fun c => c.cut && c.got == none)).map (·.addr)

end Sys2Proof.Machine
end

