-- ==== Sys2Proof/Machine/Ikl.lean ====
section
/-! DEFINITION. The Ikibuith submodule network master (R291–R342): block formats, lane figures, reports, fault flashes, discovery and admission, management. -/
namespace Sys2Proof.Machine

-- Blocks ---------------------------------------------------------------------------------------------------------------

/-- A field of a 64-bit block. -/
def bfld (b : Dword) (hi lo : Nat) : Nat := bitsOf b.toNat hi lo

/-- A block of 48 content bits with its CRC-16 in [15:0] (R296, R314, R317, R320, R321, R323). -/
def withCrc (x : Nat) : Dword := BitVec.ofNat 64 (x * 65536 + crc16Bits (bitsMsb 48 x))

/-- The CRC-16 of a block over bits [63:16] matches. -/
def crcOk (b : Dword) : Bool := crc16Bits (bitsMsb 48 (b.toNat / 65536)) == b.toNat % 65536

/-- The type of a control block (R294). -/
def blockType (b : Dword) : Nat := bfld b 63 56

/-- The SYNC block (R314). -/
def syncBlock (seq claim phase : Nat) : Dword := withCrc (put 47 40 0x2D + put 39 24 seq + put 23 8 claim + put 7 1 phase)
/-- The emergency block (R321). -/
def eblkBlock (seq cause : Nat) : Dword := withCrc (put 47 40 0x33 + put 39 24 seq + put 7 0 cause)
/-- The fault flash block (R320). -/
def fltBlock (map : Nat) : Dword := withCrc (put 47 40 0x66 + put 39 4 map)
/-- The header of a command frame (R315). -/
def cmdHeader (seq claim : Nat) : Dword := withCrc (put 47 40 0x4B + put 39 24 seq + put 23 8 claim)
/-- The PAIR block (R354). -/
def pairBlockOf (seq claim unit mode state : Nat) : Dword :=
  withCrc (put 47 40 0x99 + put 39 24 seq + put 23 8 claim + put 7 7 unit + put 6 3 mode + put 2 0 state)

/-- The 27 bits of a command slot (R316). -/
def slotBits (addr seq : Nat) (c : CellCmd) (pb rep : Bool) : Nat :=
  let x := put 10 9 c.baseA + put 8 7 c.baseB + put 6 5 c.altA + put 4 3 c.altB + put 2 2 (b2n c.pwm) + put 1 1 (b2n pb) + put 0 0 (b2n rep)
  x * 65536 + crc16Bits (bitsMsb 13 addr ++ bitsMsb 16 seq ++ bitsMsb 11 x)

/-- A PWM-table entry (R315). -/
def pwmEntry (seq arm on off : Nat) : Nat :=
  (on * 65536 + off) * 65536 + crc16Bits (bitsMsb 16 seq ++ bitsMsb 3 arm ++ bitsMsb 16 on ++ bitsMsb 16 off)

/-- The bytes of a block from its first sent, low `n` bytes. -/
def blockBytes (n : Nat) (b : Dword) : List Nat := beBytes n (b.toNat % 2 ^ (8 * n))


/-- The header of a management frame. -/
def MFrame.header (m : MFrame) : Dword :=
  withCrc (put 47 40 0x55 + put 39 39 (b2n m.amode) + put 38 34 m.depth + put 33 18 m.target + put 17 10 m.opcode + put 9 7 m.data.length + put 6 0 m.tag)

/-- The blocks of a management frame. -/
def MFrame.blocks (m : MFrame) : List Dword :=
  let h := m.header
  let c := crc32c (blockBytes 7 h ++ m.data.flatMap (blockBytes 8))
  h :: m.data ++ [BitVec.ofNat 64 (c * 2 ^ 32)]

/-- Read a management frame: header type and CRC, length, trailer CRC. -/
def parseFrame : List Dword → Option MFrame
  | [] => none
  | h :: rest =>
    let n := bfld h 25 23
    if blockType h = 0x55 ∧ crcOk h ∧ rest.length = n + 1 ∧
        (rest.getD n 0).toNat / 2 ^ 32 = crc32c (blockBytes 7 h ++ (rest.take n).flatMap (blockBytes 8)) then
      some ⟨bfld h 55 55 == 1, bfld h 54 50, bfld h 49 34, bfld h 33 26, bfld h 22 16, rest.take n⟩
    else none

/-- The identity of an IDENT response (R325). -/
def parseIdent (ds : List Dword) : Option Ident :=
  match ds with
  | [a, b] => some { serial := bfld a 63 16, addr := bfld a 15 3, arm := bfld a 2 0, kind := bfld b 63 60, position := bfld b 59 50, downs := bfld b 49 48
                     latDown := bfld b 47 42, latUp := bfld b 41 36, ts := bfld b 35 29, proto := bfld b 28 24, quantity := bfld b 23 22, exp := bfld b 21 16, mant := bfld b 15 0 }
  | _ => none

/-- The two identity blocks of R325. -/
def identBlocks (i : Ident) : List Dword :=
  [BitVec.ofNat 64 (put 63 16 i.serial + put 15 3 i.addr + put 2 0 i.arm),
   BitVec.ofNat 64 (put 63 60 i.kind + put 59 50 i.position + put 49 48 i.downs + put 47 42 i.latDown + put 41 36 i.latUp + put 35 29 i.ts
     + put 28 24 i.proto + put 23 22 i.quantity + put 21 16 i.exp + put 15 0 i.mant)]

/-- A control block type known on a lane (R294). -/
def laneTypes : List Nat := [0x1E, 0x2D, 0x33, 0x4B, 0x55, 0x66]
/-- A control block type known on a mirror lane (R353). -/
def mirrorTypes : List Nat := [0x1E, 0x99, 0x87]

-- Table access ---------------------------------------------------------------------------------------------------------

/-- The node-table entry of an address (R342). -/
def findNode (l : List (Nat × NodeEnt)) (addr : Nat) : Option NodeEnt := (l.find? (fun p => p.1 == addr)).map (·.2)

/-- Put an entry at an address, keeping ascending order. -/
def putNode (addr : Nat) (e : NodeEnt) : List (Nat × NodeEnt) → List (Nat × NodeEnt)
  | [] => [(addr, e)]
  | (k, x) :: m => if addr < k then (addr, e) :: (k, x) :: m else if addr = k then (addr, e) :: m else (k, x) :: putNode addr e m

/-- Remove the entry of an address. -/
def dropNode (addr : Nat) (l : List (Nat × NodeEnt)) : List (Nat × NodeEnt) := l.filter (fun p => p.1 != addr)

/-- An HB or FB node (R303). -/
def NodeEnt.sm (e : NodeEnt) : Bool := decide (e.kind ≤ 1)
/-- A node with a report slot (R313). -/
def NodeEnt.reporting (e : NodeEnt) : Bool := e.rslot != 0x1FF
/-- A node scheduled to report in an epoch (R312). -/
def NodeEnt.dueIn (e : NodeEnt) (epoch : Nat) : Bool := e.reporting && (e.rphase == 0 || decide (epoch % 2 + 2 = e.rphase))

/-- Change a lane. -/
def Dev.modLane (d : Dev) (n : Nat) (f : Lane → Lane) : Dev := { d with ikl := { d.ikl with lanes := modAt d.ikl.lanes n f } }
/-- Change the entry of a node. -/
def Dev.modNode (d : Dev) (addr : Nat) (f : NodeEnt → NodeEnt) : Dev :=
  { d with ikl := { d.ikl with nodes := d.ikl.nodes.map (fun p => if p.1 = addr then (p.1, f p.2) else p) } }
/-- Change the ledger entry of a node. -/
def Dev.modCell (d : Dev) (arm addr : Nat) (f : Cell → Cell) : Dev :=
  { d with mbe := { d.mbe with arms := modAt d.mbe.arms arm (fun a => { a with cells := a.cells.map (fun c => if c.addr = addr then f c else c) }) } }
/-- The ledger entry of a node. -/
def Dev.cell (d : Dev) (arm addr : Nat) : Option Cell := (nth d.mbe.arms arm {}).cells.find? (fun c => c.addr == addr)
/-- Send blocks on a lane from the elapsed time `start` on: a lane that is not enabled, and every lane while the lanes are dark, sends nothing (R291, R420). -/
def Dev.laneSend (d : Dev) (lane start : Nat) (bs : List Dword) : Dev :=
  { d with ikl := { d.ikl with tx := if d.lanesRun && d.laneOn lane then d.ikl.tx ++ [⟨lane, start, bs⟩] else d.ikl.tx } }
/-- A management frame of the unit waits for the management part of a period (R305). -/
def Dev.enqueue (d : Dev) (lane : Nat) (m : MFrame) : Dev := { d with ikl := { d.ikl with queue := d.ikl.queue ++ [(lane, m)] } }

-- Lane figures (R309), times in units of 0.125 ns, one block 55 units ------------------------------------------------------

/-- N_R. -/
def Lane.nr (l : Lane) : Nat := max l.nr0 l.nr1
/-- Report cut-off, 5 ns ticks after SYNC; 0 for a lane without report slots. -/
def Lane.cutTicks (l : Lane) : Nat := if l.nr = 0 then 0 else cdiv (l.rstart + l.nr * 55 + 400) 40
/-- Command frame length, blocks. -/
def Lane.frameLen (l : Lane) : Nat := 6 + cdiv (27 * l.nc) 64
/-- Delivery time D of a lane. -/
def deliv (ns : List (Nat × NodeEnt)) (lane : Nat) : Nat :=
  ns.foldl (fun m p => if p.2.lane = lane ∧ p.2.cslot ≠ 0x1FF then max m ((6 + cdiv (27 * (p.2.cslot + 1)) 64) * 55 + p.2.ddown) else m) 0
/-- The nodes whose admission is in effect. -/
def inForce (ns : List (Nat × NodeEnt)) : List (Nat × NodeEnt) := ns.filter (fun p => p.2.adm != 0)
/-- d_down of a node (R309). -/
def ddownOf (rtt depth : Nat) : Nat := rtt / 2 + 16 * depth

/-- Latest report cut-off over lanes that satisfy `en`, ticks. -/
def lastCut (en : Nat → Bool) (ls : List Lane) : Nat := (List.range 12).foldl (fun m n => if en n then max m (nth ls n {}).cutTicks else m) 0
/-- Largest D over lanes. -/
def lastDeliv (en : Nat → Bool) (ns : List (Nat × NodeEnt)) : Nat := (List.range 12).foldl (fun m n => if en n then max m (deliv ns n) else m) 0

/-- The lanes with the admissions of a concluded scan. -/
def Dev.lanesDue (d : Dev) : List Lane := if d.ikl.disc = 2 ∧ d.ikl.discEff.isSome then d.ikl.nextLanes else d.ikl.lanes

/-- The fit of R310, for a Tc in root cycles. -/
def fits (en : Nat → Bool) (ls : List Lane) (ns : List (Nat × NodeEnt)) (cycles : Nat) : Bool :=
  decide (3 * (lastCut en ls * 40 + 5600 + lastDeliv en ns) ≤ 10 * cycles)

/-- The admitted set and the one a concluded discovery puts in its place fit the period (R311), for enabled lanes `en` and a Tc in root cycles. -/
def Dev.setFits (d : Dev) (en : Nat → Bool) (cycles : Nat) : Bool :=
  fits en d.lanesDue d.ikl.nodes cycles && (!(d.ikl.disc == 1 && d.ikl.discEff.isSome) || fits en d.ikl.nextLanes d.ikl.nextNodes cycles)

/-- SEND of a node (R308): blocks from its SYNC to its report. -/
def sendOf (rstart slot rtt : Nat) : Nat := (rstart + 55 * slot - rtt) / 55

-- Slot assignment ------------------------------------------------------------------------------------------------------

/-- Insert an entry in ascending order of RTT, ties by address (R313). -/
def rttInsert (p : Nat × NodeEnt) : List (Nat × NodeEnt) → List (Nat × NodeEnt)
  | [] => [p]
  | x :: xs => if p.2.rtt < x.2.rtt ∨ (p.2.rtt = x.2.rtt ∧ p.1 ≤ x.1) then p :: x :: xs else x :: rttInsert p xs

/-- Give slots in order: `r` reporting nodes and `c` submodule nodes have theirs already (R312, R313). -/
def giveSlots (dec : Bool) : Nat → Nat → List (Nat × NodeEnt) → List (Nat × NodeEnt)
  | _, _, [] => []
  | r, c, (a, e) :: m =>
    let rep := decide (e.kind ≤ 2)
    let e1 := { e with rslot := if rep then (if dec then r / 2 else r) else 0x1FF, rphase := if rep && dec then 2 + r % 2 else 0, cslot := if e.sm then c else 0x1FF }
    (a, e1) :: giveSlots dec (if rep then r + 1 else r) (if e.sm then c + 1 else c) m

/-- The least R_start on the grid of the first node that gives every reporting node SEND ≥ 30 (R309). -/
def rstartOf (ns : List (Nat × NodeEnt)) : Nat :=
  match (ns.filter (fun p => p.2.reporting)).map (·.2) with
  | [] => 0
  | e :: es =>
    let need := (e :: es).foldl (fun m x => max m (x.rtt + 1650 - 55 * x.rslot)) 0
    e.rtt % 55 + 55 * cdiv (need - e.rtt % 55) 55

/-- One more than the highest report slot of the given phases. -/
def slotsUsed (q : NodeEnt → Bool) (ns : List (Nat × NodeEnt)) : Nat := ns.foldl (fun m p => if p.2.reporting && q p.2 then max m (p.2.rslot + 1) else m) 0
/-- One more than the highest command slot. -/
def cmdSlotsUsed (ns : List (Nat × NodeEnt)) : Nat := ns.foldl (fun m p => if p.2.cslot ≠ 0x1FF then max m (p.2.cslot + 1) else m) 0

/-- A lane assigned afresh (R313): its nodes with slots and SEND, and its figures. -/
def assignLane (dec : Bool) (l : Lane) (ns : List (Nat × NodeEnt)) : Lane × List (Nat × NodeEnt) :=
  let s := giveSlots dec 0 0 (ns.foldr rttInsert [])
  let r := rstartOf s
  ({ l with rstart := r, nr0 := slotsUsed (fun e => e.rphase != 3) s, nr1 := slotsUsed (fun e => e.rphase == 3) s, nc := cmdSlotsUsed s },
   s.map (fun p => (p.1, { p.2 with send := if p.2.reporting then sendOf r p.2.rslot p.2.rtt else 0 })))

/-- The lowest number from `lo` on that is not used, within `fuel` tries. -/
def lowestFree (used : List Nat) : Nat → Nat → Nat
  | 0, lo => lo
  | f + 1, lo => if used.contains lo then lowestFree used f (lo + 1) else lo

/-- Slots of a node admitted outside a full discovery (R313): the lane's new figures and the entry. R_start of a lane that has had no reporting node is the least value of its
block grid, which the first node's round trip fixes (DEDUCED, log 113). -/
def slotLater (dec : Bool) (l : Lane) (ns : List (Nat × NodeEnt)) (e : NodeEnt) : Lane × NodeEnt :=
  let c := if e.sm then lowestFree ((ns.filter (fun p => p.2.cslot != 0x1FF)).map (·.2.cslot)) 600 0 else 0x1FF
  let l1 := { l with nc := if e.sm then max l.nc (c + 1) else l.nc }
  if 2 < e.kind then (l1, { e with cslot := c, rslot := 0x1FF, rphase := 0, send := 0 })
  else
    let l := if l.nr = 0 ∧ l.rstart = 0 then { l with rstart := e.rtt % 55 } else l
    let l1 := { l1 with rstart := l.rstart }
    let cnt (ph : Nat) : Nat := (ns.filter (fun p => p.2.reporting && p.2.rphase == ph)).length
    let ph := if dec then (if cnt 3 < cnt 2 then 3 else 2) else 0
    let used := (ns.filter (fun p => p.2.reporting && p.2.rphase == ph)).map (·.2.rslot)
    let lo := cdiv (e.rtt + 1650 - l.rstart) 55
    let f := lowestFree used 600 lo
    let r := if f < l.nr then f else max l.nr lo
    let l2 := if ph = 3 then { l1 with nr1 := max l.nr1 (r + 1) } else { l1 with nr0 := max l.nr0 (r + 1) }
    (l2, { e with cslot := c, rslot := r, rphase := ph, send := sendOf l.rstart r e.rtt })

-- Admission checks (R331) ----------------------------------------------------------------------------------------------

/-- Check 6: the identity. -/
def identBad (i : Ident) : Bool :=
  decide (3 < i.kind) || i.proto != 1 || i.addr == 0x1FFF ||
  (decide (i.kind ≤ 1) && (decide (0x11FF < i.addr) || decide (5 < i.arm))) ||
  (decide (2 ≤ i.kind) && (decide (i.addr < 0x1200) || decide (0x123F < i.addr))) ||
  (i.kind == 2 && (i.quantity == 3 || i.mant == 0))

/-- Check 7: depth and forwarding latencies. -/
def depthBad (i : Ident) (depth : Nat) : Bool := decide (16 < depth) || decide (40 < i.latDown) || decide (40 < i.latUp)

/-- The entry of a candidate before it has slots. -/
def entryOf (i : Ident) (p : Probe) (eff : Nat) : NodeEnt :=
  { serial := i.serial, kind := i.kind, arm := i.arm, lane := p.lane, depth := p.depth, route := p.route, cslot := 0x1FF, rslot := 0x1FF, rphase := 0
    rtt := p.rtt, quantity := i.quantity, exp := i.exp, mant := i.mant, ddown := ddownOf p.rtt p.depth, send := 0, eff := eff }

/-- The node table and lanes of an admission run. -/
structure AdmSt where
  nodes : List (Nat × NodeEnt)
  lanes : List Lane
  refused : List (Ident × Probe × Nat) := []
  fresh : List Nat := []
deriving DecidableEq, Repr

/-- Evaluate one candidate (R331). -/
def admitOne (full dec : Bool) (en : Nat → Bool) (cycles eff : Nat) (s : AdmSt) (p : Probe) : AdmSt :=
  match p.ident with
  | none => s
  | some i =>
    let on := s.nodes.filter (fun x => x.2.lane == p.lane)
    let e := entryOf i p eff
    let l := nth s.lanes p.lane {}
    let trial : Lane × List (Nat × NodeEnt) :=
      if full then assignLane dec l ((i.addr, e) :: on)
      else let r := slotLater dec l on e; (r.1, putNode i.addr r.2 on)
    let nodes1 := trial.2.foldl (fun m x => putNode x.1 x.2 m) s.nodes
    let lanes1 := setAt s.lanes p.lane trial.1
    let code : Nat :=
      if identBad i then 6
      else if depthBad i p.depth then 7
      else if (findNode s.nodes i.addr).isSome then 5
      else if 2 ≤ i.kind ∧ 64 ≤ (s.nodes.filter (fun x => decide (2 ≤ x.2.kind))).length then 3
      else if i.kind ≤ 1 ∧ 768 ≤ (s.nodes.filter (fun x => x.2.sm && x.2.arm == i.arm)).length then 1
      else if (i.kind ≤ 1 ∧ 384 ≤ (on.filter (fun x => x.2.sm)).length) ∨ 448 < trial.1.nr then 2
      else if !(fits en lanes1 nodes1 cycles) then 4
      else 0
    if code = 0 then { s with nodes := nodes1, lanes := lanes1, fresh := s.fresh ++ [i.addr] }
    else { s with refused := s.refused ++ [(i, p, code)] }

/-- Order of candidates: lane, depth, route (R331). -/
def probeInsert (p : Probe) : List Probe → List Probe
  | [] => [p]
  | x :: xs => if p.lane < x.lane ∨ (p.lane = x.lane ∧ (p.depth < x.depth ∨ (p.depth = x.depth ∧ p.route ≤ x.route))) then p :: x :: xs else x :: probeInsert p xs

/-- Refuse a node (R332): overflow table, counts, one event. -/
def Dev.refuseNode (d : Dev) (i : Ident) (p : Probe) (code : Nat) : Dev :=
  let n := d.ikl.ovf.length
  let k := d.ikl
  let d1 := { d with ikl := { k with refused := i.serial :: k.refused, ovfTotal := sat16 k.ovfTotal 1
                                     ovf := if n < 32 then k.ovf ++ [({ serial := i.serial, addr := i.addr, arm := i.arm, lane := p.lane, depth := p.depth, route := p.route, reason := code, epoch := d.tmb.epoch } : OvfEnt)] else k.ovf } }
  d1.raise Sub.ikl i.addr (if n < 32 then 0x868000 + 16 * n else R.IKL_OVF_COUNT) 0 []

/-- A request to the node of an entry goes by its route, so that no other node takes it (R324, R332). -/
def NodeEnt.request (e : NodeEnt) (opcode : Nat) (data : List Dword) : MFrame := ⟨true, e.depth, e.route, opcode, 0, data⟩

/-- The data of PORT_CFG (R325). -/
def Dev.portCfgData (d : Dev) (e : NodeEnt) (eff : Nat) : List Dword :=
  [BitVec.ofNat 64 (put 47 32 eff + put 31 23 e.cslot + put 22 14 e.rslot + put 13 12 e.rphase), BitVec.ofNat 64 (put 63 48 e.send + put 47 31 d.cycles)]

/-- Send PORT_CFG and ADMIT to a node (R325, R330). -/
def Dev.sendAdmit (d : Dev) (e : NodeEnt) (eff : Nat) : Dev :=
  (d.enqueue e.lane (e.request 0x03 (d.portCfgData e eff))).enqueue e.lane (e.request 0x04 [BitVec.ofNat 64 (put 47 32 eff)])

/-- EFF_SEQ of a discovery with these candidates: at least four epochs ahead, and one more for every further candidate of the busiest lane, whose frames wait for their
management part (R330; DESIGN CHOICE, log 114). -/
def effOf (epoch : Nat) (ps : List Probe) : Nat :=
  epoch + 4 + ((List.range 12).foldl (fun m n => max m (ps.filter (fun (p : Probe) => p.lane == n)).length) 0 - 1)

/-- The discovery has its last answer: steps 3 to 5 of R330. -/
def Dev.concludeDisc (d : Dev) : Dev :=
  let full := d.ikl.disc == 1
  let eff := effOf d.tmb.epoch d.ikl.done
  let dec := if full then d.abit R.IKL_CTRL 16 else d.ikl.dec
  let s0 : AdmSt := if full then { nodes := [], lanes := d.ikl.lanes.map (fun l => { l with rstart := 0, nr0 := 0, nr1 := 0, nc := 0 }) }
    else { nodes := d.ikl.nodes, lanes := d.ikl.lanes }
  let s := (d.ikl.done.foldr probeInsert []).foldl (admitOne full dec d.laneOn d.cycles eff) s0
  let d1 := s.refused.foldl (fun x r => x.refuseNode r.1 r.2.1 r.2.2) d
  let d2 := s.fresh.foldl (fun x a => match findNode s.nodes a with | some e => x.sendAdmit e eff | none => x) d1
  let k := d2.ikl
  if full then { d2 with ikl := { k with nextNodes := s.nodes, nextLanes := s.lanes, discEff := some eff, done := [], discNew := s.fresh.length, dec := dec } }
  else
    { d2 with ikl := { k with nodes := s.nodes, nextLanes := s.lanes, discEff := some eff, done := [], discNew := s.fresh.length } }

/-- Start a full discovery or a scan: depth 1 of every enabled lane is probed, as soon as the lanes run (R329, R330, R332). -/
def Dev.startDisc (d : Dev) (full : Bool) : Dev :=
  let ps := ((List.range 12).filter d.laneOn).map (fun n => ({ lane := n, depth := 1, route := 0 } : Probe))
  let k := d.ikl
  { d with ikl := { k with disc := if full then 1 else 2, discEff := none, probes := k.probes.filter (fun p => p.own.isSome) ++ ps, done := []
                           ovf := if full then [] else k.ovf, refused := if full then [] else k.refused, lastScan := d.tmb.up } }

/-- Scans are allowed in the mode (R329). -/
def Dev.scanMode (d : Dev) : Bool := d.mode == .standby || d.mode == .precharge || (d.mode.energized && d.abit R.IKL_CTRL 8)

/-- The last answer of a discovery has come in (R330): at the boundary. -/
def Dev.checkDisc (d : Dev) : Dev :=
  if d.ikl.disc ≠ 0 ∧ d.ikl.discEff = none ∧ d.ikl.probes.all (fun p => p.own.isSome) then d.concludeDisc else d

/-- A probe at a place. -/
def Probe.isAt (lane depth route : Nat) (p : Probe) : Bool := p.lane == lane && p.depth == depth && p.route == route

/-- The request outstanding to a place (R330). -/
def outstanding (ps : List Probe) (lane depth route : Nat) : Option Probe := ps.find? (fun p => p.isAt lane depth route && p.sent.isSome)

/-- An answer of TAG `tag` at station time `now` comes in time: in the cycle in which its wait ends it still counts (R67). -/
def Probe.answered (p : Probe) (tag now : Nat) : Bool := p.tag == tag && p.ended.all (fun t => decide (now ≤ t))

/-- READMIT has every answer (R334). -/
def Dev.concludeReadmit (d : Dev) (addr : Nat) (p : Probe) : Dev :=
  match p.ident, findNode d.ikl.nodes addr with
  | some i, some e =>
    let send := sendOf (nth d.ikl.lanes e.lane {}).rstart e.rslot p.rtt
    let ok := decide (p.rtt + 1650 ≤ (nth d.ikl.lanes e.lane {}).rstart + 55 * e.rslot)
    let e1 := { e with kind := i.kind, arm := i.arm, quantity := i.quantity, exp := i.exp, mant := i.mant, rtt := p.rtt, ddown := ddownOf p.rtt e.depth, send := send }
    let code : Nat :=
      if identBad i then 6 else if depthBad i p.depth then 7
      else if i.serial ≠ e.serial ∨ (i.addr ≠ addr ∧ (findNode d.ikl.nodes i.addr).isSome) then 5
      else if e.reporting && !ok then 4
      else if !(fits d.laneOn d.lanesDue (putNode addr e1 d.ikl.nodes) d.cycles) then 4 else 0
    if code = 0 then (d.modNode addr (fun x => { x with redo := some (d.tmb.epoch + 4, p.rtt, i) })).sendAdmit e1 (d.tmb.epoch + 4)
    else d.refuseNode i p code
  | _, _ => d

/-- A management answer to a probe: IDENT, then ECHO_N echoes (R330). -/
def Dev.discAnswer (d : Dev) (lane depth route rtt : Nat) (blocks : List Dword) : Dev :=
  match outstanding d.ikl.probes lane depth route, parseFrame blocks with
  | some p0, some m =>
    let p := { p0 with sent := none, ended := none }
    let others := d.ikl.probes.filter (fun x => !(x.isAt lane depth route))
    let setP (ps : List Probe) (dn : List Probe) : Dev := { d with ikl := { d.ikl with probes := ps, done := dn } }
    if !(p0.answered m.tag d.tmb.now) then d else
    match p.ident with
    | none =>
      if m.opcode ≠ 0x81 then d
      else match parseIdent m.data with
        | none => d
        | some i =>
          let kids : List Probe := if p.own.isSome ∨ 16 ≤ depth then [] else
            (List.range i.downs).map (fun k => { lane := lane, depth := depth + 1, route := route + k * 2 ^ (depth - 1) })
          let known := p.own.isNone && d.ikl.disc == 2 && (d.ikl.nodes.any (fun x => x.2.serial == i.serial) || d.ikl.refused.contains i.serial)
          if known then setP (others ++ kids) d.ikl.done
          else setP (d.ikl.probes.map (fun x => if x.isAt lane depth route then { p with ident := some i, echoes := d.afld R.IKL_SCAN 31 16 } else x) ++ kids) d.ikl.done
    | some _ =>
      if m.opcode ≠ 0x82 then d
      else
        let q := { p with echoes := p.echoes - 1, rtt := max p.rtt rtt }
        if q.echoes = 0 then
          match p.own with
          | some a => (setP others d.ikl.done).concludeReadmit a q
          | none => setP others (d.ikl.done ++ [q])
        else setP (d.ikl.probes.map (fun x => if x.isAt lane depth route then q else x)) d.ikl.done
  | _, _ => d

/-- The wait for an answer ends with the period after the one of the response time: a request sent in epoch k is answered in epoch k+1 and its wait ends at SYNC k+3 (R327,
R330; DEDUCED, log 115). -/
def waitEnds (sent epoch : Nat) : Bool := decide (sent + 2 ≤ epoch)

/-- A probe without an answer at the end of the period (R330): its wait is over at the next SYNC. -/
def Dev.discTimeout (d : Dev) (lane depth route : Nat) : Dev :=
  match outstanding d.ikl.probes lane depth route with
  | some p =>
    if (p.sent.map (fun k => waitEnds k d.tmb.epoch)).getD false && p.ended.isNone then
      { d with ikl := { d.ikl with probes := d.ikl.probes.map (fun x => if x.isAt lane depth route then { x with ended := some (d.tmb.sync + d.tc) } else x) } }
    else d
  | none => d

/-- The waits of probes at the boundary (R67, R330, R334): one that ended before it leaves an empty port, or a READMIT without effect but its event; one that ends with it is
marked. Then a discovery with its last answer concludes. -/
def Dev.probeStep (d : Dev) : Dev :=
  let gone (p : Probe) : Bool := p.ended.any (fun t => decide (t < d.tmb.now))
  let dead := d.ikl.probes.filter gone
  let left := (d.ikl.probes.filter (fun p => !(gone p))).map (fun (p : Probe) =>
    if p.ended.isNone && (p.sent.map (fun k => waitEnds k (d.tmb.epoch - 1))).getD false then { p with ended := some d.tmb.now } else p)
  let d1 := { d with ikl := { d.ikl with probes := left } }
  (dead.foldl (fun (x : Dev) p => match p.own with
    | some a => x.raise Sub.ikl a R.IKL_NODE_CMD 0 [word a]
    | none => x) d1).checkDisc

-- Reports --------------------------------------------------------------------------------------------------------------

/-- The node of a report slot due in an epoch. -/
def slotNode (ns : List (Nat × NodeEnt)) (lane slot epoch : Nat) : Option (Nat × NodeEnt) :=
  ns.find? (fun p => p.2.lane == lane && p.2.rslot == slot && p.2.adm != 0 && p.2.dueIn epoch)

/-- A discarded block or report (R319). -/
def Dev.laneError (d : Dev) (lane : Nat) : Dev := d.modLane lane (fun l => { l with crcErr := sat16 l.crcErr 1 })

/-- An accepted report of a submodule node. -/
def Dev.smReport (d : Dev) (addr : Nat) (e : NodeEnt) (b : Dword) : Dev :=
  let st := bfld b 34 19
  let gone := ((d.cell e.arm addr).map Cell.gone).getD false
  let again := gone && e.away && !e.reappeared
  let d1 := d.modNode addr (fun x => { x with status := st, valueEpoch := some d.tmb.epoch, away := false, reappeared := x.reappeared || (gone && e.away) })
  let own := decide (st.testBit 9 = d.abit R.RDN_CFG 8)
  let d2 := { d1 with ikl := { d1.ikl with srcOwn := d1.ikl.srcOwn + b2n own, srcOther := d1.ikl.srcOther + b2n (!own) } }
  let d3 := if (nth d2.mbe.arms e.arm {}).complete then d2 else d2.modCell e.arm addr (fun c => { c with got := some (bfld b 50 35), bad := st.testBit 15 })
  let d4 := if again then d3.raise Sub.ikl addr (0x840000 + 32 * addr + 4) 0x100 [] else d3
  d4.completeIf e.arm

/-- A report block arrives in the block time of a slot (R319). -/
def Dev.report (d : Dev) (lane slot : Nat) (b : Dword) : Dev :=
  let l := nth d.ikl.lanes lane {}
  if !(d.lanesRun && d.laneOn lane && l.lock) then d
  else
    match slotNode d.ikl.nodes lane slot d.tmb.epoch with
    | none => d.laneError lane
    | some (addr, e) =>
      if l.cut || e.valueEpoch == some d.tmb.epoch || !(crcOk b) || bfld b 63 51 != addr || bfld b 18 16 != d.tmb.epoch % 8 then d.laneError lane
      else if e.sm then d.smReport addr e b
      else d.modNode addr (fun x => { x with value := signed 31 (bfld b 50 20), alarm := bfld b 19 19 == 1, valueEpoch := some d.tmb.epoch, missedRun := 0, adm := 1, away := false })

/-- The report cut-off of a lane: missing reports are counted (R309, R335, R337). -/
def Dev.cutoff (d : Dev) (lane : Nat) : Dev :=
  let l := nth d.ikl.lanes lane {}
  if !(d.lanesRun && d.laneOn lane) || l.cut then d
  else
    let k := d.tmb.epoch
    let missed := d.ikl.nodes.filter (fun p => p.2.lane == lane && p.2.adm != 0 && p.2.dueIn k && p.2.valueEpoch != some k)
    let d1 := missed.foldl (fun x p =>
      let y := x.modNode p.1 (fun e => { e with missedTotal := sat16 e.missedTotal 1, away := true, missedRun := if e.sm then 0 else min 3 (e.missedRun + 1)
                                                adm := if !e.sm ∧ 2 ≤ e.missedRun then 2 else e.adm })
      if p.2.sm then
        if (nth y.mbe.arms p.2.arm {}).complete then y
        else y.modCell p.2.arm p.1 (fun c => { c with missed := if c.gone then c.missed else min 3 (c.missed + 1), cut := c.st != 3 })
      else y) d
    let d2 := d1.modLane lane (fun l => { l with cut := true, missed := missed.length })
    d2.completeReady

-- Fault flashes (R338) and emergency block (R339) ------------------------------------------------------------------------

/-- A FLT block is received on a lane. -/
def Dev.flash (d : Dev) (lane : Nat) (b : Dword) : Dev :=
  if !(d.lanesRun && d.laneOn lane && (nth d.ikl.lanes lane {}).lock) then d
  else if blockType b ≠ 0x66 ∨ !(crcOk b) then d.laneError lane
  else
    let m := bfld b 55 20
    let k := d.ikl
    let has (c : Nat) : Bool := decide (bitsOf m (6 * c + 5) (6 * c) ≠ 0)
    { d with ikl := { k with
        map := k.map ||| m, flash := k.flash ||| 2 ^ lane
        clsStamp := forN 6 (fun c => if has c && decide (nth k.clsLanes c 0 = 0) then d.stampNow else nth k.clsStamp c 0)
        clsLanes := forN 6 (fun c => if has c then nth k.clsLanes c 0 ||| 2 ^ lane else nth k.clsLanes c 0) } }

/-- An EBLK at elapsed time `t` cuts a frame short at the next block boundary; one not yet begun goes behind it (R305, R339). -/
def LaneTx.cutAt (t : Nat) (x : LaneTx) : LaneTx :=
  if t ≤ x.start then { x with start := x.start + blockU } else { x with blocks := x.blocks.take (cdiv (t - x.start) blockU) }

/-- The emergency block is sent on every enabled lane, and every later command frame blocks (R339). -/
def Dev.sendEblk (d : Dev) (cause : Nat) : Dev :=
  if !d.lanesRun then d
  else
    let d1 : Dev := { d with ikl := { d.ikl with tx := d.ikl.tx.map (LaneTx.cutAt d.tmb.up), eblk := true } }
    (List.range 12).foldl (fun x n => x.laneSend n d.tmb.up [eblkBlock (d.tmb.epoch % 65536) cause]) d1

-- What the unit sends in a period (R305) ------------------------------------------------------------------------------------

/-- A number as `n` blocks, most significant first. -/
def natBlocks (n x : Nat) : List Dword := forN n (fun i => BitVec.ofNat 64 (x / 2 ^ (64 * (n - 1 - i))))

/-- The slot of command slot `c` of a lane (R316): the command of the node that holds it; a free slot is 0 (DESIGN CHOICE, log 116). -/
def laneSlot (ns : List (Nat × NodeEnt)) (arms : List Arm) (lane seq c : Nat) : Nat :=
  match ns.find? (fun p => p.2.lane == lane && p.2.cslot == c && p.2.sm && p.2.adm != 0) with
  | some (addr, e) =>
    let a := nth arms e.arm {}
    match a.cells.find? (fun (x : Cell) => x.addr == addr) with
    | some x => slotBits addr seq x.cmd x.gone a.rep
    | none => 0
  | none => 0

/-- The PWM table of a frame (R315): T_ON = T_OFF when the arm has no PWM cell. -/
def pwmTable (arms : List Arm) (seq nslot : Nat) : Nat :=
  let es := (List.range 6).foldl (fun x n => let a := nth arms n {}; x * 2 ^ 48 + pwmEntry seq n a.on (if a.pwm then a.off else a.on)) 0
  let w := put 15 7 nslot
  es * 2 ^ 32 + w * 65536 + crc16Bits (bitsMsb 16 seq ++ bitsMsb 16 w)

/-- The command frame of a lane for sequence number `seq` (R315). -/
def Dev.cmdFrame (d : Dev) (arms : List Arm) (seq claim lane : Nat) : List Dword :=
  let nc := (nth d.ikl.lanes lane {}).nc
  let n := cdiv (27 * nc) 64
  let area := (List.range nc).foldl (fun x c => x * 2 ^ 27 + laneSlot d.ikl.nodes arms lane seq c) 0
  cmdHeader seq claim :: natBlocks 5 (pwmTable arms seq nc) ++ natBlocks n (area * 2 ^ (64 * n - 27 * nc))

/-- The command frames of all lanes leave together (R32, R305), with the claim formed at this moment (R346). -/
def Dev.sendFrames (d : Dev) (arms : List Arm) : Dev :=
  let seq := (d.tmb.epoch + 1) % 65536
  (List.range 12).foldl (fun x n => x.laneSend n d.tmb.up (d.cmdFrame arms seq d.rdn.nextClaim n)) d

/-- The frames of an overrun (R33, R272): the commands in effect, marked as repeats; every leg is at 00 once the unit has sent an EBLK in the epoch (R339). -/
def Dev.sendRepeats (d : Dev) : Dev := d.sendFrames ((d.mbe.kept.map (fun a => if d.ikl.eblk then a.forceBlock else a)).map Arm.repeated)

/-- The SYNC block of every lane (R305, R314): PHASE depends on the lane's block grid, which no rule fixes, and is free. -/
def Dev.sendSync (d : Dev) : Dev :=
  (List.range 12).foldl (fun (x : Dev) n =>
    let ph := x.freeBelow 66
    x.tookFree.laneSend n (x.tmb.syncUp + ph * 5 * 2 ^ 36) [syncBlock (x.tmb.epoch % 65536) x.rdn.own ph]) d

/-- The management part of a period as it fills up (R305): when each lane is free again, and the requests each has sent. -/
structure Part where
  dev : Dev
  free : List Nat
  count : List Nat := List.replicate 12 0

/-- RESP_AT of the `j`-th request of a lane in a period: after the lane's report cut-off and apart from the others (R327, R330). Which value it takes beyond that is open:
free (log 117). -/
def Dev.respAt (d : Dev) (lane j : Nat) : Nat := cdiv ((nth d.ikl.lanes lane {}).cutTicks * 40) 55 + 16 * j + d.freeBelow 16

/-- A request leaves in the part when it ends 100 ns before the next SYNC block (R305): with its TAG and RESP_AT; otherwise none. -/
def Part.send (p : Part) (lane : Nat) (m : MFrame) : Option Part :=
  let d := p.dev
  let s := nth p.free lane 0
  let e := s + (m.data.length + 2) * blockU
  if d.laneOn lane && decide (e + 100 * nsU ≤ d.tmb.syncUp + d.tc) then
    let j := nth p.count lane 0
    let b := (m.data.getD 0 0).toNat % 2 ^ 48 + d.respAt lane j * 2 ^ 48
    let x := d.tookFree.laneSend lane s (MFrame.blocks { m with tag := d.ikl.tag, data := setAt m.data 0 (BitVec.ofNat 64 b) })
    some { dev := { x with ikl := { x.ikl with tag := (x.ikl.tag + 1) % 128 } }, free := setAt p.free lane e, count := setAt p.count lane (j + 1) }
  else none

/-- The unit's own frames: what does not fit waits for the next period; frames of a lane that is not enabled are not sent (R291). -/
def Part.sendQueue (p : Part) : Part :=
  p.dev.ikl.queue.foldl (fun (x : Part) r =>
    match x.send r.1 r.2 with
    | some y => y
    | none => if x.dev.laneOn r.1 then { x with dev := x.dev.enqueue r.1 r.2 } else x) { p with dev := { p.dev with ikl := { p.dev.ikl with queue := [] } } }

/-- The request a probe is at (R330): IDENT, then ECHO. -/
def Probe.frame (q : Probe) : MFrame := ⟨true, q.depth, q.route, if q.ident.isNone then 0x01 else 0x02, 0, [0]⟩

/-- The requests of discovery and READMIT, up to eight outstanding on a lane (R330). -/
def Part.sendProbes (p : Part) : Part :=
  p.dev.ikl.probes.foldl (fun (x : Part) q =>
    let busy := (x.dev.ikl.probes.filter (fun (y : Probe) => y.lane == q.lane && y.sent.isSome)).length
    if q.sent.isSome || decide (8 ≤ busy) then x
    else match x.send q.lane q.frame with
    | some y => { y with dev := { y.dev with ikl := { y.dev.ikl with probes := y.dev.ikl.probes.map (fun (z : Probe) =>
        if z.isAt q.lane q.depth q.route && z.own == q.own then { z with sent := some x.dev.tmb.epoch, tag := x.dev.ikl.tag, ended := none } else z) } } }
    | none => x) p

/-- The request of software, behind the unit's own (R327). -/
def Part.sendMgmt (p : Part) : Part :=
  let m := p.dev.ikl.mgmt
  match (if m.pending && m.sent.isNone then m.frame else none) with
  | some r => match p.send r.1 r.2 with
    | some y => { y with dev := { y.dev with ikl := { y.dev.ikl with mgmt := { m with sent := some p.dev.tmb.epoch, tag := p.dev.ikl.tag } } } }
    | none => p
  | none => p

/-- The management part of the period (R305), once: from the elapsed time `start` on, each lane behind what it sends already. -/
def Dev.sendPart (d : Dev) (start : Nat) : Dev :=
  if d.ikl.mgmtPart || !d.lanesRun then d
  else
    let free := forN 12 (fun n => (d.ikl.tx.filter (fun (x : LaneTx) => x.lane == n)).foldl (fun m x => max m (x.start + x.blocks.length * blockU)) start)
    let x := ((Part.sendQueue { dev := d, free := free }).sendProbes.sendMgmt).dev
    { x with ikl := { x.ikl with mgmtPart := true } }

-- Management requests of software (R326, R327) ----------------------------------------------------------------------------

/-- The frame of a software request; TAG and RESP_AT are the unit's (R327). -/
def Dev.mgmtFrame (d : Dev) : MFrame :=
  let h := d.rwv R.IKL_MGMT_HDR
  let t := fld (d.rwv R.IKL_MGMT_TARGET) 15 0
  let am := bit h 27
  let blk (i : Nat) : Nat := (d.rwv (R.IKL_MGMT_DATAw (2 * i))).toNat * 2 ^ 32 + (d.rwv (R.IKL_MGMT_DATAw (2 * i + 1))).toNat
  ⟨am, if am then fld h 26 22 else 0, if am then t else t % 2 ^ 13, fld h 21 14, 0, forN (fld h 13 11) (fun i => BitVec.ofNat 64 (blk i))⟩

/-- The request is refused at the boundary (R327). -/
def Dev.mgmtRefused (d : Dev) : Bool :=
  let h := d.rwv R.IKL_MGMT_HDR
  let op := fld h 21 14
  decide (1 < d.ikl.mgmt.level) || !([0x01, 0x02, 0x06, 0x7F].contains op) || (op == 0x7F && (d.mode != .service || d.ikl.mgmt.level != 0)) ||
  !(d.laneOn (fld h 31 28)) || (bit h 27 && (decide (fld h 26 22 = 0) || decide (16 < fld h 26 22))) || decide (fld h 13 11 = 0)

/-- GO is written (R327). -/
def Dev.mgmtGo (d : Dev) (level : Nat) : Dev :=
  let m := d.ikl.mgmt
  if m.pending then { d with ikl := { d.ikl with mgmt := { m with result := 5 } } }
  else { d with ikl := { d.ikl with mgmt := { m with pending := true, result := 1, frame := none, sent := none, ended := none, level := level } } }

/-- A request ends without a response, at station time `t` (R327). -/
def Mgmt.unanswered (m : Mgmt) (t : Nat) : Mgmt := { m with pending := false, result := 3, frame := none, sent := none, ended := some t }

/-- The boundary checks a waiting request (R327), and ends one without a response. -/
def Dev.mgmtBoundary (d : Dev) : Dev :=
  let m := d.ikl.mgmt
  if !m.pending then d
  else match m.frame, m.sent with
  | none, _ =>
    if d.mgmtRefused then { d with ikl := { d.ikl with mgmt := { m with pending := false, result := 4 } } }
    else { d with ikl := { d.ikl with mgmt := { m with frame := some (fld (d.rwv R.IKL_MGMT_HDR) 31 28, d.mgmtFrame) } } }
  | some _, some k => if waitEnds k (d.tmb.epoch - 1) then { d with ikl := { d.ikl with mgmt := m.unanswered d.tmb.now } } else d
  | some _, none => d

/-- A response to the request arrives (R327): in the cycle in which the wait ends it still counts (R67). -/
def Dev.mgmtAwaits (d : Dev) (tag : Nat) : Bool :=
  let m := d.ikl.mgmt
  m.tag == tag && ((m.pending && m.sent.isSome) || (m.result == 3 && m.ended.any (fun t => decide (d.tmb.now ≤ t))))

/-- A response arrives (R327). -/
def Dev.mgmtResponse (d : Dev) (lane : Nat) (blocks : List Dword) : Dev :=
  match parseFrame blocks with
  | some f =>
    if d.laneOn lane && d.mgmtAwaits f.tag && decide (0x80 ≤ f.opcode) then
      { d with ikl := { d.ikl with mgmt := { d.ikl.mgmt with pending := false, frame := none, sent := none, ended := none, result := 2, rlen := f.data.length
                                                             rnode := f.target % 2 ^ 13, resp := f.data.flatMap (fun b => [hi32 b.toNat, lo32 b.toNat]) } } }
    else d
  | none => d

-- The boundary ---------------------------------------------------------------------------------------------------------

/-- A ledger entry for a node that enters it (R330, R333). -/
def newCell (addr : Nat) (e : NodeEnt) (eq : Bool) : Cell := { addr := addr, lane := e.lane, fb := e.kind == 1, st := if eq then 5 else 1 }

/-- Put a node into the ledger of its arm; R333 gives its state. -/
def Dev.enterLedger (d : Dev) (addr : Nat) (e : NodeEnt) : Dev :=
  if !e.sm then d
  else { d with mbe := { d.mbe with arms := modAt d.mbe.arms e.arm (fun a => { a with cells := newCell addr e d.mode.energized :: a.cells.filter (fun c => c.addr != addr) }) } }

/-- Remove a node from the ledgers. -/
def Dev.leaveLedger (d : Dev) (addr : Nat) : Dev :=
  { d with mbe := { d.mbe with arms := d.mbe.arms.map (fun a => { a with cells := a.cells.filter (fun c => c.addr != addr) }) } }

/-- An epoch that has come. -/
def dueBy (o : Option Nat) (k : Nat) : Bool :=
  match o with
  | some f => decide (f ≤ k)
  | none => false

/-- The lanes with the figures of the admissions that take effect (R309). -/
def Dev.takeLanes (d : Dev) : List Lane :=
  forN 12 (fun n => let l := nth d.ikl.lanes n {}; let y := nth d.ikl.nextLanes n {}; { l with rstart := y.rstart, nr0 := y.nr0, nr1 := y.nr1, nc := y.nc })

/-- Admissions, re-admissions and releases that take effect at the SYNC of the epoch (R330, R334). -/
def Dev.nodeBoundary (d : Dev) : Dev :=
  let k := d.tmb.epoch
  let d1 :=
    if d.ikl.disc = 1 ∧ dueBy d.ikl.discEff k then
      let x := d.ikl
      let e0 := { d with ikl := { x with nodes := x.nextNodes, nextNodes := [], nextLanes := [], lanes := d.takeLanes, disc := 0, discEff := none, admitted := x.discNew, lastScan := d.tmb.up }
                         mbe := { d.mbe with arms := d.mbe.arms.map (fun a => { a with cells := [] }) } }
      e0
    else if d.ikl.disc = 2 ∧ dueBy d.ikl.discEff k then
      { d with ikl := { d.ikl with lanes := d.takeLanes, nextLanes := [], disc := 0, discEff := none, admitted := d.ikl.discNew } }
    else d
  let fresh := d1.ikl.nodes.filter (fun p => p.2.adm == 0 && decide (p.2.eff ≤ k))
  let d2 := fresh.foldl (fun x p => (x.modNode p.1 (fun e => { e with adm := 1 })).enterLedger p.1 p.2) d1
  let again := d2.ikl.nodes.filter (fun p => match p.2.redo with | some r => decide (r.1 ≤ k) | none => false)
  let d3 := again.foldl (fun x p => match p.2.redo with
    | some (eff, rtt, i) =>
      let e := p.2
      let e1 := { e with kind := i.kind, arm := i.arm, quantity := i.quantity, exp := i.exp, mant := i.mant, adm := 1, redo := none, rtt := rtt, ddown := ddownOf rtt e.depth
                         missedRun := 0, missedTotal := 0, away := false, reappeared := false, eff := eff
                         send := if e.reporting then sendOf (nth x.ikl.lanes e.lane {}).rstart e.rslot rtt else 0 }
      let y := x.leaveLedger p.1
      ({ y with ikl := { y.ikl with nodes := putNode i.addr e1 (dropNode p.1 y.ikl.nodes) } } : Dev).enterLedger i.addr e1
    | none => x) d2
  let gone := d3.ikl.nodes.filter (fun p => match p.2.rel with | some r => decide (r ≤ k) | none => false)
  gone.foldl (fun x p => let y := x.leaveLedger p.1; { y with ikl := { y.ikl with nodes := dropNode p.1 y.ikl.nodes } }) d3

/-- At the boundary the fault map of the epoch is latched and its events raised (R338); `k` is the epoch that ends. -/
def Dev.flashBoundary (d : Dev) (k : Nat) : Dev :=
  let x := d.ikl
  let en := d.act R.IKL_FLT_EVT_EN
  let d1 := (List.range 6).foldl (fun y c =>
    let arms := bitsOf x.map (6 * c + 5) (6 * c)
    if arms = 0 ∨ !(bit en c) then y
    else
      let st := nth x.clsStamp c 0
      (y.raiseAt st k Sub.ikl c R.IKL_FLT_MAP_LO (arms * 2 ^ (6 * c) % 2 ^ 32) [word c, word arms, word (nth x.clsLanes c 0)]).trigger 3 19 st k) d
  let d2 := if x.map % 2 ^ 32 = 0 then d1 else d1.setSticky R.IKL_FLT_STICKY_LO (word x.map)
  let d3 := if x.map / 2 ^ 32 = 0 then d2 else d2.setSticky R.IKL_FLT_STICKY_HI (word (x.map / 2 ^ 32))
  { d3 with ikl := { d3.ikl with mapSnap := x.map, flashSnap := x.flash } }

/-- What was sent in the epoch that ends is over; what its end and the boundary send follows. -/
def Dev.txOver (d : Dev) : Dev := { d with ikl := { d.ikl with tx := [] } }

/-- The epoch's collection starts anew at SYNC (`d.tmb.epoch` is the new epoch). -/
def Dev.iklNewEpoch (d : Dev) : Dev :=
  let x := d.ikl
  { d with ikl := { x with mgmtPart := false, eblk := !d.sys.raised.isEmpty, map := 0, flash := 0, clsStamp := [0, 0, 0, 0, 0, 0], clsLanes := [0, 0, 0, 0, 0, 0]
                           nodes := x.nodes.map (fun p => (p.1, { p.2 with prevValue := if p.2.valueEpoch.isSome && p.2.valueEpoch == some (d.tmb.epoch - 1) then some p.2.value else none }))
                           srcOwnPrev := x.srcOwn, srcOtherPrev := x.srcOther, srcOwn := 0, srcOther := 0
                           lanes := x.lanes.map (fun l => { l with cut := false, missed := 0, lostNow := false }) } }

end Sys2Proof.Machine
end

