-- ==== Sys2Proof/Machine/Node.lean ====
section
/-! DEFINITION. A submodule node's duties (R297–R328, R340, R350): periods, clearing, commands, reports, flashes, management requests. -/
namespace Sys2Proof.Machine

/-- A node as its maker delivers it: unprovisioned (R303), what it declares of itself left open (log 8). -/
def factoryNode (n : Nat) : Node :=
  let f (i w : Nat) : Nat := Config.nodeIdent n i % w
  { ident := { serial := f 0 (2 ^ 48), addr := 0x1FFF, arm := 7, kind := f 1 4, position := 0, downs := f 2 3, latDown := f 3 41, latUp := f 4 41
               ts := f 5 101, proto := 1, quantity := f 6 3, exp := f 7 64, mant := f 8 65536 } }

/-- Node `n`. -/
def Dev.node (d : Dev) (n : Nat) : Node := ((d.nodes.find? (fun p => p.1 == n)).map (·.2)).getD (factoryNode n)

/-- Put a node into the table, ascending. -/
def putNodeState (n : Nat) (x : Node) : List (Nat × Node) → List (Nat × Node)
  | [] => [(n, x)]
  | (k, y) :: m => if n < k then (n, x) :: (k, y) :: m else if n = k then (n, x) :: m else (k, y) :: putNodeState n x m

/-- Replace node `n`. -/
def Dev.setNode (d : Dev) (n : Nat) (x : Node) : Dev := { d with nodes := putNodeState n x d.nodes }

/-- Port 0 (A) or 1 (B). -/
def Node.port (x : Node) (p : Nat) : NodePort := nth x.ports p {}
/-- Change a port. -/
def Node.modPort (x : Node) (p : Nat) (f : NodePort → NodePort) : Node := { x with ports := modAt x.ports p f }
/-- Admitted on a port. -/
def Node.admitted (x : Node) : Bool := (x.port 0).admitted || (x.port 1).admitted
/-- A submodule node. -/
def Node.sm (x : Node) : Bool := decide (x.ident.kind ≤ 1)

/-- Raise a flash of a class on the node's own arm; arm 7 flashes on arm 0 (R320). A node admitted on neither port sends none (R328). -/
def Node.raiseFlash (x : Node) (cls : Nat) : Node :=
  if x.admitted then { x with flash := x.flash ||| 2 ^ (6 * cls + (if x.ident.arm ≤ 5 then x.ident.arm else 0)) } else x

/-- Every leg at 00; no command is followed any more. -/
def Node.blockLegs (x : Node) : Node := { x with legs := {}, on := 0, off := 0, follows := false }

-- What a node sends ------------------------------------------------------------------------------------------------------

/-- An upstream block was dropped (R322). -/
def Node.dropBlock (x : Node) : Node := { x with collide := true, collides := sat16 x.collides 1 }

/-- A block of rank `rank` for block time `t` of upstream port `p` (R322): one of a lower rank yields and is dropped; a fault flash that yields stays pending. -/
def Node.sendUp (x : Node) (p t rank : Nat) (b : Dword) : Node :=
  let put (l : List (Nat × Nat × Dword)) : Node := x.modPort p (fun q => { q with line := l ++ [(t, rank, b)] })
  let rest := (x.port p).line.filter (fun y => y.1 != t)
  match (x.port p).line.find? (fun y => y.1 == t) with
  | none => put (x.port p).line
  | some (_, r, c) =>
    if r ≤ rank then (if rank = 4 then x else x.dropBlock)
    else if r = 4 then { put rest with flash := x.flash ||| bfld c 55 20 }
    else (put rest).dropBlock

/-- The IDLE block: SIDE is 1 on an upstream port B (R294, R298). -/
def idleBlock (side : Nat) : Dword := BitVec.ofNat 64 (put 63 56 0x1E + put 55 55 side)

/-- The block an upstream port sends in block time `t` of the period (R322). -/
def Node.blockAt (x : Node) (p t : Nat) : Dword := (((x.port p).line.find? (fun y => y.1 == t)).map (·.2.2)).getD (idleBlock p)

/-- Downstream blocks of port `p` go to the downstream ports of its side (R298, R301). -/
def Node.forward (x : Node) (p : Nat) (bs : List Dword) : Node :=
  { x with down := x.down.map (fun (y : DownPort) => if y.side == some p then { y with tx := y.tx ++ bs } else y) }

/-- A valid SYNC block on port `p` begins a period of that side: what the side sends is counted from it. -/
def Node.newPeriod (x : Node) (p : Nat) : Node :=
  { (x.modPort p (fun q => { q with line := [], report := none })) with down := x.down.map (fun (y : DownPort) => if y.side == some p then { y with tx := [] } else y) }

-- Commands and reports -----------------------------------------------------------------------------------------------------

/-- A leg code 11 counts as 00 (R328). -/
def legCode (c : Nat) : Nat := if c = 3 then 0 else c

/-- The leg codes of a command carry a code 11. -/
def CellCmd.has11 (c : CellCmd) : Bool := c.baseA == 3 || c.baseB == 3 || (c.pwm && (c.altA == 3 || c.altB == 3))

/-- Apply a command of port `p` (R328): base codes, PWM interval, permanent bypass. -/
def Node.applyCmd (x : Node) (p : Nat) (c : NodeCmd) : Node :=
  let y := { x with legs := { c.cmd with baseA := legCode c.cmd.baseA, baseB := legCode c.cmd.baseB, altA := legCode c.cmd.altA, altB := legCode c.cmd.altB }
                    on := if c.cmd.pwm && c.entryOk then c.on else 0, off := if c.cmd.pwm && c.entryOk then c.off else 0
                    cmdMiss := x.cmdMiss || (c.cmd.pwm && !c.entryOk), pbClosed := x.pbClosed || c.pb, src := p, follows := true, missRun := 0, lost := false }
  if c.cmd.has11 then Node.raiseFlash { y with rx11 := true } 4 else y

/-- The leg codes at `t` PWM units after the node SYNC (R254, R255). -/
def Node.legsAt (x : Node) (t : Nat) : Nat × Nat := x.legs.legsAt x.on x.off t

/-- No command for the period (R328). -/
def Node.noCmd (x : Node) : Node :=
  let y := { x with on := 0, off := 0, cmdMiss := true, missRun := x.missRun + 1, follows := false }
  if 2 ≤ y.missRun then y.blockLegs else y

/-- The STATUS of a report (R318). -/
def Node.statusBits (x : Node) : Nat :=
  put 15 15 (b2n x.fault) + put 14 14 (b2n x.pbClosed) + put 13 13 (b2n x.overvolt) + put 12 12 (b2n x.temp) + put 11 11 (b2n x.rx11)
    + put 10 10 (b2n x.cmdMiss) + put 9 9 x.src + put 8 8 (b2n (x.port 0).lock) + put 7 7 (b2n (x.port 1).lock) + put 6 6 (b2n x.syncLost) + put 5 5 (b2n x.collide)

/-- A port reports in the period of sequence number `s` (R312). -/
def NodePort.reports (p : NodePort) (s : Nat) : Bool := p.admitted && p.rslot != 0x1FF && (p.rphase == 0 || decide (s % 2 + 2 = p.rphase))

/-- The report of R317. -/
def Node.reportBlock (x : Node) (s : Nat) : Dword :=
  withCrc (put 47 35 x.ident.addr + put 2 0 s + (if x.sm then put 34 19 x.volt + put 18 3 x.stat
    else put 34 4 (wrapInt 31 x.value) + put 3 3 (b2n x.alarm)))

/-- Port `p`, which has the SYNC of `s`, sends its report SEND blocks after it (R308, R328). -/
def Node.sendReport (x : Node) (p s : Nat) : Node :=
  let q := x.port p
  if q.reports s && q.syncSeq == some s && q.report.isNone then
    (x.modPort p (fun y => { y with report := some (x.reportBlock s) })).sendUp p q.send 0 (x.reportBlock s)
  else x

/-- Sampling at node SYNC + T_S (R307) and the reports of the period (R317): those of a port whose SYNC is still to come follow with it. `v` and `t` are the sampled voltage
or value and the temperature bit: outside values, free. -/
def Node.sample (x : Node) (s v : Nat) (t : Bool) : Node :=
  let y := { x with volt := if x.sm then v % 65536 else x.volt, value := if x.sm then x.value else signed 31 v, temp := t, alarm := x.alarm && t }
  let z := { y with stat := y.statusBits }
  let w := (z.sendReport 0 s).sendReport 1 s
  if (y.port 0).reports s || (y.port 1).reports s then { w with overvolt := false, rx11 := false, cmdMiss := false, syncLost := false, collide := decide (y.collides < w.collides) } else w

-- Periods and clearing -------------------------------------------------------------------------------------------------------

/-- The command port `i` holds for sequence number `s` (R350). -/
def Node.held (x : Node) (s i : Nat) : Option NodeCmd :=
  match (x.port i).pending with
  | some c => if (x.port i).admitted && c.seq == s then some c else none
  | none => none

/-- End of the clearing for sequence number `s` with the selected port, if any, among the candidates' commands; `first` is the port whose SYNC came first. The period
starts at the node SYNC (R306, R350). -/
def Node.startPeriod (x : Node) (s : Nat) (sel : Option Nat) (cmds : List (Option NodeCmd)) (first v : Nat) (tmp : Bool) : Node :=
  let c : Option (Nat × NodeCmd) := match sel with
    | some p => (nth cmds p none).map (fun m => (p, m))
    | none => none
  let y : Node := match c with
    | some (p, m) => { x.applyCmd p m with syncTime := (x.port p).syncAt }
    | none => { x.noCmd with syncTime := (x.port first).syncAt }
  let drop (o : Option NodeCmd) : Option NodeCmd := if o.any (fun (m : NodeCmd) => m.seq == s) then none else o
  let keep (i : Nat) (q : NodePort) : NodePort := { q with current := if c.isSome then nth cmds i none else none, pending := drop q.pending }
  let z := { (y.modPort 0 (keep 0)).modPort 1 (keep 1) with seq := some s, waitFor := none }
  z.sample s v tmp

/-- The period of a wait that is over: the port waited for when its SYNC has come, else the port whose SYNC came first when it is a candidate, else no command (R350). An
EBLK that took the awaited command away in the wait leaves the other candidate (DEDUCED, log 111). -/
def Node.endWait (x : Node) (w : NodeWait) (came : Bool) (v : Nat) (tmp : Bool) : Node :=
  let has (p : Nat) : Bool := (nth w.cmds p none).isSome
  x.startPeriod w.seq (if came && has w.sel then some w.sel else if has w.first then some w.first else none) w.cmds w.first v tmp

/-- A change of a port takes effect (R325, R328). -/
def NodePort.change (p : NodePort) : PortChange → NodePort
  | .cfg c r ph se tc => { p with cslot := c, rslot := r, rphase := ph, send := se, tc := tc }
  | .enter => { p with admitted := true }
  | .release => { p with admitted := false, cslot := 0x1FF, rslot := 0x1FF, pending := none, current := none }

/-- A node admitted on neither port keeps every leg at 00 (R328). -/
def Node.settle (x : Node) : Node := if x.admitted then x else { x.blockLegs with waitFor := none }

/-- A management response starts RESP_AT blocks after this SYNC (R325). -/
def Node.sendResp (x : Node) (p : Nat) : Node :=
  let q := x.port p
  (q.resp.zipIdx q.respAt).foldl (fun (y : Node) (b : Dword × Nat) => y.sendUp p b.2 3 b.1) (x.modPort p (fun z => { z with resp := [] }))

/-- Clearing at the first valid SYNC of a sequence number, on port `first` (R350). -/
def Node.clear (x : Node) (s first now v : Nat) (tmp : Bool) : Node :=
  let cmds := [x.held s 0, x.held s 1]
  let sel : Option Nat := match x.held s 0, x.held s 1 with
    | some a, some b => some (if a.claim < b.claim then 1 else 0)
    | some _, none => some 0
    | none, some _ => some 1
    | none, none => none
  let wipe (q : NodePort) : NodePort := { q with current := none }
  let z := (x.modPort 0 wipe).modPort 1 wipe
  match sel with
  | none => z.startPeriod s none cmds first v tmp
  | some i => if (z.port i).syncSeq = some s then z.startPeriod s (some i) cmds first v tmp
    else { z with waitFor := some ⟨i, s, now + 1500 * nsU, first, cmds, z.cmdMiss⟩, on := 0, off := 0 }

/-- A sequence number has come, by the 16-bit distance: a change whose own SYNC was missed takes effect with the next one (R328; DEDUCED, log 110). -/
def seqCome (eff s : Nat) : Bool := decide ((s + 65536 - eff) % 65536 < 32768)

/-- A valid SYNC on port `p` (R306, R328, R350). A SYNC that comes in the cycle in which a wait for it ran out is used (R67, R350). -/
def Node.onSync (x : Node) (p s claim phase now v : Nat) (tmp : Bool) : Node :=
  let q := x.port p
  let due := (q.changes.filter (fun c => seqCome c.1 s)).map (·.2)
  let x1 := (x.newPeriod p).modPort p (fun y => due.foldl NodePort.change
    { y with claim := claim, syncSeq := some s, syncAt := now - phase * 5 * 2 ^ 36, eblk := false, changes := q.changes.filter (fun c => !(seqCome c.1 s)) })
  let y := (x1.sendResp p).settle
  if !(y.port p).admitted then y
  else
    let z := { y with lastValid := some now }
    match z.waitFor, z.waited with
    | some w, _ => if w.seq ≠ s then z.clear s p now v tmp else if w.sel = p then z.endWait w true v tmp else z.sendReport p s
    | none, some w =>
      if z.seq ≠ some s then z.clear s p now v tmp
      else if w.seq = s ∧ w.sel = p ∧ w.till = now then Node.endWait { z with cmdMiss := w.miss, waited := none } w true v tmp
      else z.sendReport p s
    | none, none => if z.seq = some s then z.sendReport p s else z.clear s p now v tmp

/-- The 1.5 µs wait has run out (R350). -/
def Node.waitOver (x : Node) (now v : Nat) (tmp : Bool) : Node :=
  match x.waitFor with
  | some w => if now < w.till then x else Node.endWait { x with waited := some w } w false v tmp
  | none => x

/-- SYNC loss (R328): 2 × TC + 0.25 µs after the last valid SYNC. -/
def Node.syncLoss (x : Node) (now : Nat) : Node :=
  let tc := max (if (x.port 0).admitted then (x.port 0).tc else 0) (if (x.port 1).admitted then (x.port 1).tc else 0)
  match x.lastValid with
  | some t => if x.admitted && decide (t + 2 * tc * rootU + 250 * nsU ≤ now) then { x.blockLegs with syncLost := true, lost := true, waitFor := none } else x
  | none => x

/-- The PWM table of a frame as one number, and its slot area as one number with its length in bits. -/
def blocksNat (bs : List Dword) : Nat := bs.foldl (fun a b => a * 2 ^ 64 + b.toNat) 0

/-- The command a node takes from a frame (R315, R316, R328); none when a check fails. -/
def readFrame (addr arm cslot : Nat) (bs : List Dword) : Option NodeCmd :=
  match bs with
  | [] => none
  | h :: rest =>
    let seq := bfld h 55 40
    let tab := blocksNat (rest.take 5)
    let area := rest.drop 5
    let nslot := bitsOf tab 31 23
    let at0 := 64 * area.length
    let w := bitsOf (blocksNat area) (at0 - 27 * cslot - 1) (at0 - 27 * cslot - 27)
    let x := w / 65536
    let e := bitsOf tab (319 - 48 * arm) (272 - 48 * arm)
    if blockType h = 0x4B ∧ crcOk h ∧ rest.length = 5 + cdiv (27 * nslot) 64 ∧
        crc16Bits (bitsMsb 16 seq ++ bitsMsb 16 (bitsOf tab 31 16)) = tab % 65536 ∧ cslot < nslot ∧
        crc16Bits (bitsMsb 13 addr ++ bitsMsb 16 seq ++ bitsMsb 11 x) = w % 65536 then
      some { seq := seq, claim := bfld h 39 24
             cmd := ⟨bitsOf x 10 9, bitsOf x 8 7, bitsOf x 6 5, bitsOf x 4 3, x.testBit 2⟩
             on := bitsOf e 47 32, off := bitsOf e 31 16, pb := x.testBit 1, rep := x.testBit 0
             entryOk := decide (arm ≤ 5) && crc16Bits (bitsMsb 16 seq ++ bitsMsb 3 arm ++ bitsMsb 32 (e / 65536)) == e % 65536 }
    else none

/-- A CRC failure on an upstream port (R325). -/
def Node.crcError (x : Node) (p : Nat) : Node := x.modPort p (fun q => { q with crcErr := sat16 q.crcErr 1 })

/-- A CMD frame from a port (R328, R350); it goes on to the downstream ports (R298). -/
def Node.onFrame (x : Node) (p : Nat) (bs : List Dword) : Node :=
  let y := x.forward p bs
  let q := y.port p
  if !q.admitted || !y.sm then y
  else match readFrame y.ident.addr y.ident.arm q.cslot bs with
  | none => if q.cslot = 0x1FF then y else y.crcError p
  | some c =>
    if c.claim = 0 ∨ q.eblk ∨ (q.pending.map (·.seq)) = some c.seq then y
    else y.modPort p (fun z => { z with pending := some c })

/-- A valid EBLK on a port (R340). The PWM interval of the other port's command is timed from the node SYNC of the period. -/
def Node.onEblk (x : Node) (p : Nat) : Node :=
  let y := x.modPort p (fun q => { q with pending := none, current := none, eblk := true, claim := 0 })
  let z := { y with waitFor := y.waitFor.map (fun (w : NodeWait) => { w with cmds := setAt w.cmds p none }) }
  if !(x.port p).admitted || !x.follows || x.src ≠ p then z
  else
    let o := 1 - p
    match (x.port o).current with
    | some c => if some c.seq = x.seq ∧ c.claim ≠ 0 then { z.applyCmd o c with missRun := x.missRun } else z.blockLegs
    | none => z.blockLegs

/-- The receiver of an upstream port (0 A, 1 B) or of a downstream port (2 D0, 3 D1) gains block lock (R295). -/
def Node.gainLock (x : Node) (r : Nat) : Node :=
  if r < 2 then x.modPort r (fun q => { q with lock := true }) else { x with down := modAt x.down (r - 2) (fun (y : DownPort) => { y with lock := true }) }

/-- A receiver holds block lock. -/
def Node.locked (x : Node) (r : Nat) : Bool := if r < 2 then (x.port r).lock else (nth x.down (r - 2) {}).lock

/-- A receiver loses block lock (R295): the flash COMM (R320), and a count (R325). -/
def Node.loseLock (x : Node) (r : Nat) : Node :=
  if !x.locked r then x
  else
    let y : Node := if r < 2 then x.modPort r (fun q => { q with lock := false }) else { x with down := modAt x.down (r - 2) (fun (z : DownPort) => { z with lock := false }) }
    Node.raiseFlash { y with lockLosses := sat16 y.lockLosses 1 } 3

/-- A block received in block time `t` of its side on downstream port `i` (R298, R322): an IDLE block tells the side, a fault flash joins the pending one, one whose CRC fails
becomes COMM on the node's own arm, and any other block goes on to the upstream port of the side. -/
def Node.onUp (x : Node) (i t : Nat) (b : Dword) (control : Bool) : Node :=
  let y := nth x.down i {}
  if !y.lock || !(decide (i < x.ident.downs)) then x
  else if control && blockType b == 0x1E then { x with down := modAt x.down i (fun (z : DownPort) => { z with side := some (bfld b 55 55) }) }
  else if control && blockType b == 0x66 then
    (if crcOk b then (if x.admitted then { x with flash := x.flash ||| bfld b 55 20 } else x) else x.raiseFlash 3)
  else match y.side with
  | some p => x.sendUp p t (1 + i) b
  | none => x

/-- The pending fault flash leaves in the next block time that every upstream port has free, with its own CRC (R322). -/
def Node.sendFlash (x : Node) (now : Nat) : Node :=
  let at1 (p : Nat) : Nat := (now - (x.port p).syncAt) / blockU + 1
  let free (p : Nat) : Bool := (x.port p).line.all (fun y => y.1 != at1 p)
  if x.flash = 0 ∨ !(free 0 && free 1) then x
  else { (x.sendUp 0 (at1 0) 4 (fltBlock x.flash)).sendUp 1 (at1 1) 4 (fltBlock x.flash) with flash := 0 }

/-- The node's own cell failure (R328). -/
def Node.cellFailure (x : Node) : Node := if x.fault then x else Node.raiseFlash { x with fault := true } 0

/-- A flash condition (R320, R328). -/
def Node.condition (x : Node) : NodeFlag → Node
  | .overvolt => Node.raiseFlash { x with overvolt := true } 1
  | .desat => x.raiseFlash 2
  | .comm r => x.loseLock r
  | .rx11 => Node.raiseFlash { x with rx11 := true } 4
  | .alarm => Node.raiseFlash { x with alarm := true } 5

-- Management -----------------------------------------------------------------------------------------------------------------

/-- A node consumes a management request: by address, by a route of depth 1, or broadcast (R324). -/
def consumes (addr : Nat) (m : MFrame) : Bool := if m.amode then decide (m.depth ≤ 1) else decide (m.target % 2 ^ 13 = addr)

/-- A request goes on (R324): by a longer route on the downstream port its bit 0 chooses, one hop shorter and with new CRCs (the trailer's too: DEDUCED, log 112); a
broadcast, and the address of another node, on every downstream port of the side. -/
def Node.pass (x : Node) (p : Nat) (m : MFrame) (bs : List Dword) : Node :=
  if m.amode then
    if m.depth = 0 then x.forward p bs
    else if m.depth = 1 then x
    else { x with down := modAt x.down (m.target % 2) (fun (y : DownPort) =>
      if y.side == some p then { y with tx := y.tx ++ MFrame.blocks { m with depth := m.depth - 1, target := m.target / 2 } } else y) }
  else if m.target % 2 ^ 13 = x.ident.addr then x else x.forward p bs

/-- The response waits for its response time (R325). -/
def Node.respond (x : Node) (p : Nat) (m : MFrame) (data : List Dword) : Node :=
  let f : MFrame := ⟨false, 0, x.ident.addr, m.opcode + 0x80, m.tag, data⟩
  x.modPort p (fun q => { q with respAt := bfld (m.data.getD 0 0) 63 48, resp := f.blocks })

/-- A change waits for its EFF_SEQ. -/
def Node.later (x : Node) (p : Nat) (m : MFrame) (c : PortChange) : Node :=
  x.modPort p (fun q => { q with changes := q.changes ++ [(bfld (m.data.getD 0 0) 47 32, c)] })

/-- A management request with opcode `op` reaches the node (R324, R325): `act` is what it does; one that fails its checks is counted, and passed on as it is. -/
def Node.request (x : Node) (p op : Nat) (bs : List Dword) (act : Node → MFrame → Node) : Node :=
  match parseFrame bs with
  | none => (x.forward p bs).crcError p
  | some m =>
    let y := x.pass p m bs
    if m.opcode = op ∧ consumes x.ident.addr m ∧ m.data ≠ [] then act y m else y

/-- PORT_CFG. -/
def Node.portCfg (x : Node) (p : Nat) (m : MFrame) : Node :=
  let a := m.data.getD 0 0
  let b := m.data.getD 1 0
  (x.later p m (.cfg (bfld a 31 23) (bfld a 22 14) (bfld a 13 12) (bfld b 63 48) (bfld b 47 31))).respond p m []

/-- STATUS: CRC errors of both ports, lock losses, COLLIDE count. -/
def Node.statusReq (x : Node) (p : Nat) (m : MFrame) : Node :=
  x.respond p m [BitVec.ofNat 64 (put 63 48 (x.port 0).crcErr + put 47 32 (x.port 1).crcErr + put 31 16 x.lockLosses + put 15 0 x.collides)]

/-- PORT_RESET, a broadcast (R325, R328). -/
def Node.portReset (x : Node) (p : Nat) (m : MFrame) : Node :=
  if m.amode ∧ m.depth = 0 then (x.modPort p (fun q => { q with admitted := false, cslot := 0x1FF, rslot := 0x1FF, pending := none, current := none, changes := [] })).settle else x

/-- SET_IDENT, only while admitted on neither port; its response carries the address from before (R325, R327). -/
def Node.setIdent (x : Node) (p : Nat) (m : MFrame) : Node :=
  let b := m.data.getD 1 0
  if x.admitted || decide (m.data.length < 2) then x
  else { x.respond p m [] with ident := { x.ident with addr := bfld b 63 51, arm := bfld b 50 48, position := bfld b 47 38 } }

/-- Outside values a node's sampling takes: voltage or value, temperature bit; the rest is `f`. -/
def Dev.nodeAct (d : Dev) (n : Nat) (f : Node → Nat → Bool → Node) : Dev :=
  let r := Config.free d.free
  d.tookFree.setNode n (f (d.node n) (r / 2 % 2 ^ 31) (r.testBit 0))

/-- A receiver without block lock receives nothing (R295). -/
def Dev.atPort (d : Dev) (n p : Nat) (f : Dev → Dev) : Dev := if ((d.node n).port p).lock then f d else d

end Sys2Proof.Machine
end

