-- ==== Sys2Proof/Machine/Apu.lean ====
section
/-! DEFINITION. Access protection (R539–R545, R572): levels, the region rule, access faults. A source is none for BAR0, or a queue. -/
namespace Sys2Proof.Machine

/-- The level of an access (R539, R545). -/
def Dev.level (d : Dev) : Option Nat → Nat
  | none => if d.mode == .boot && decide (d.boot.step < 5) then 0 else d.afld R.APU_BAR0_LVL 1 0
  | some q => d.afld (R.PCI_Qq_CFG q) 29 28

/-- The region rule (R541). -/
def Dev.regionAdmits (d : Dev) (lvl off : Nat) (write : Bool) : Bool :=
  let rule := match (List.range 64).find? (fun n => d.abit (R.APU_RGNn_CFG n) 31 &&
      decide (d.afld (R.APU_RGNn_BASE n) 23 2 * 4 ≤ off) && decide (off < d.afld (R.APU_RGNn_END n) 24 2 * 4)) with
    | some n => d.act (R.APU_RGNn_CFG n)
    | none => d.act R.APU_DEFAULT
  lvl == 0 || decide (lvl ≤ if write then fld rule 1 0 else fld rule 5 4)

/-- Record and report an access fault (R543). -/
def Dev.accessFault (d : Dev) (src : Option Nat) (kind off : Nat) (write : Bool) : Dev :=
  let lvl := d.level src
  let key := (match src with | none => 32 | some q => q, kind)
  let info := put 31 28 kind + put 27 26 lvl + put 25 25 (b2n write) + put 24 24 (b2n src.isNone) + put 20 16 (src.getD 0)
  let x := d.apu
  let d1 := { d with apu := { x with ofs := off % 2 ^ 24, info := info, cnt := sat32 x.cnt 1, seen := if x.seen.contains key then x.seen else key :: x.seen } }
  if x.seen.contains key then d1 else d1.raise Sub.apu (src.getD 0x1FFF) off 0 [word kind, word lvl, word (b2n write)]

end Sys2Proof.Machine
end

