-- ==== Sys2Proof/Machine/Eth.lean ====
section
/-! DEFINITION. Station Ethernet: frame timestamps (R435), receive buffers and transmission of the teller queues (R524, R525). -/
namespace Sys2Proof.Machine

/-- The fixed corrections of a port (R435), tenths of a nanosecond: transmit, receive. -/
def ethCorr (p : Nat) : Nat × Nat := if 2 ≤ p then (880, 1408) else if Config.tenGig p then (246, 374) else (968, 1520)

/-- Station time interpolated inside a tick (R435): `cyc` root cycles behind the present tick, on the fallback clock as many of its cycles as fit twice in the tick. -/
def Dev.inTick (d : Dev) (cyc : Nat) : Nat :=
  let n := if d.clk.fallback then 2 else 12
  d.tmb.now + cyc % n * d.advance1.toNat / n
/-- The transmit stamp of a frame whose start-of-frame delimiter crosses in the present tick, at a cycle that is free (R435, log 99). -/
def Dev.txStamp (d : Dev) (p : Nat) : Nat :=
  let t := d.inTick (d.freeBelow 12)
  if d.abit R.PTP_CTRL 8 then t + (ethCorr p).1 * nsU / 10 else t
/-- The receive stamp of a frame on port `p` whose start-of-frame delimiter crosses in the present tick at cycle `cyc` (R435). -/
def Dev.rxStamp (d : Dev) (p cyc : Nat) : Nat :=
  let t := d.inTick cyc
  if d.abit R.PTP_CTRL 8 then t - (ethCorr p).2 * nsU / 10 else t

/-- Seconds (two words), nanoseconds and fraction of a stamp. -/
def stampWords (t : Nat) : List Word := [lo32 (tSec t), hi32 (tSec t), word (tNs t), word (put 31 16 (tFrac t))]

/-- The MAC address of a port (R537). -/
def Dev.mac (d : Dev) (p : Nat) : List Nat := beBytes 2 (d.afld (R.PCI_ETH_MACp_HI p) 15 0) ++ beBytes 4 (d.act (R.PCI_ETH_MACp_LO p)).toNat

/-- The EtherType of a frame, behind one 802.1Q tag when there is one, and whether there is. -/
def etherType (bs : List Nat) : Nat × Bool :=
  let t (i : Nat) : Nat := nth bs i 0 * 256 + nth bs (i + 1) 0
  if t 12 = 0x8100 then (t 16, true) else (t 12, false)

/-- A received frame reaches the host, or is dropped and counted (R525, R579). -/
def Dev.ethRx (d : Dev) (f : EthFrame) : Dev :=
  let p := f.port
  let dst := f.bytes.take 6
  let ok := f.good && (dst == d.mac p || nth f.bytes 0 0 % 2 == 1) && decide (f.bytes.length ≤ 2040) && d.abit R.PCI_ETH_CFG (8 * p + 7)
  if !d.domOn 6 || decide (4 ≤ p) then d
  else if !ok then { d with pci := { d.pci with ethRejected := sat16 d.pci.ethRejected 1 } }
  else match d.pci.rxbufs.find? (fun b => b.port == p) with
    | none => { d with pci := { d.pci with ethNoBuf := sat16 d.pci.ethNoBuf 1 } }
    | some b =>
      let t := etherType f.bytes
      let d1 := { d with pci := { d.pci with rxbufs := d.pci.rxbufs.erase b } }
      d1.complete b.ref 0 1 d.tmb.epoch
        (word (put 31 16 f.bytes.length + put 15 15 (b2n t.2) + put 14 14 (b2n (t.1 == 0x88F7))) :: stampWords (d.rxStamp p f.cyc))

/-- The oldest frame of a port has been sent (R524). -/
def Dev.ethSent (d : Dev) (p : Nat) : Dev :=
  if !d.domOn 6 then d
  else match d.pci.txq.find? (fun b => b.port == p) with
    | none => d
    | some b => ({ d.tookFree with pci := { d.pci with txq := d.pci.txq.erase b } }).complete b.ref 0 1 d.tmb.epoch (stampWords (d.txStamp p))

end Sys2Proof.Machine
end

