-- ==== Sys2Proof/Machine/Adc.lean ====
section
/-! DEFINITION. The ADC cores (R371–R391): conversions, regular and injected sequences, settling, cut-off, power-down. -/
namespace Sys2Proof.Machine

/-- Core `c`. -/
def Dev.core (d : Dev) (c : Nat) : AdcCore := nth d.adc.cores c {}
/-- Replace core `c`. -/
def Dev.setCore (d : Dev) (c : Nat) (x : AdcCore) : Dev := { d with adc := { d.adc with cores := setAt d.adc.cores c x } }
/-- A core is enabled and powered, the mode not being BOOT (R73, R391, R576). -/
def Dev.coreOn (d : Dev) (c : Nat) : Bool := decide (c < 4) && d.mode != .boot && d.abit R.ADC_CTRL c && d.domOn 8

/-- Gain of an input (R373). -/
def gainOf (d : Dev) (input : Nat) : Nat := 2 ^ bitsOf (d.act (R.ADC_GAINn (input / 16))).toNat (2 * (input % 16) + 1) (2 * (input % 16))

/-- Round to the nearest integer, ties away from zero (R374). -/
def roundAway (x : Rat) : Int := if x < 0 then -((-x + 1 / 2).floor) else (x + 1 / 2).floor

/-- The code of an input voltage (R373, R374). -/
def adcCode (gain : Nat) (v : Rat) : Int := clampI (-32768) 32767 (roundAway (32768 * v * (gain : Rat) / (5 / 2)))

/-- The coefficients of a sinc filter: a boxcar of `dec` ones convolved `order` times. -/
def sincCoefs (dec : Nat) : Nat → List Nat
  | 0 => [1]
  | n + 1 => let p := sincCoefs dec n
    forN (p.length + dec - 1) (fun i => ((List.range dec).map (fun j => if j ≤ i then nth p (i - j) 0 else 0)).sum)

/-- A filter result with unity DC gain, rounded and saturated (R380). -/
def sincResult (dec order : Nat) (taps : List Int) : Int :=
  let c := sincCoefs dec order
  let s : Int := ((List.range c.length).map (fun (i : Nat) => Int.ofNat (nth c i 0) * nth taps i 0)).sum
  clampI (-32768) 32767 (roundAway ((s : Rat) / ((dec ^ order : Nat) : Rat)))

/-- A result word (R388); the first reason in the order REFERENCE, FILTER, GAIN shows in SETTLE (R389). -/
def resultWord (ref filt gain moved : Bool) (input : Nat) (code : Int) : Word :=
  let settle := if ref then 3 else if filt then 2 else if gain then 1 else 0
  word (put 31 31 (b2n (settle == 0)) + put 30 29 settle + put 28 28 (b2n (code == 32767 || code == -32768)) + put 26 26 (b2n moved)
    + put 21 16 input + wrapInt 16 code)

/-- A repeated result: HELD set, VALID clear (R377). -/
def heldWord (w : Word) : Word := (w ||| 0x08000000) &&& 0x7FFFFFFF

/-- Entries of the regular sequence. -/
def Dev.regLen (d : Dev) (c : Nat) : Nat := d.afld (R.ADC_COREc_CFG c) 11 8 + 1
/-- Entries of the injected sequence. -/
def Dev.injLen (d : Dev) (c : Nat) : Nat := d.afld (R.ADC_COREc_CFG c) 17 16 + 1

/-- The injected sequence has its next result (R384). -/
def Dev.injectedConversion (d : Dev) (c e : Nat) (v : Rat) : Dev :=
  let x := d.core c
  let w := d.act (R.ADC_COREc_INJe c e)
  let input := fld w 5 0
  let g := nth x.gain (input % 12) 0
  let r := resultWord (!x.ready) false (decide (0 < g)) false input (adcCode (gainOf d input) v)
  let stamp := if e = 0 then d.tmb.now - (14 * d.advance1).toNat else x.injStamp
  let y := { x with injAcc := x.injAcc ++ [r], injStamp := stamp, gain := setAt x.gain (input % 12) (g - 1) }
  if e + 1 < d.injLen c then d.setCore c { y with inj := some (e + 1) }
  else d.setCore c { y with inj := none, injAcc := [], injRes := forN 4 (wAt y.injAcc), injSec := tSec stamp, injNs := tNs stamp
                            injEpoch := if stamp < d.tmb.sync then d.tmb.epoch - 1 else d.tmb.epoch
                            injSeqs := y.injSeqs + 1, injLost := satAdd 255 y.injLost (if 0 < y.injSeqs then 1 else 0) }

/-- The regular sequence has its next conversion (R375, R377, R380, R383). -/
def Dev.regularConversion (d : Dev) (c e : Nat) (v : Rat) : Dev :=
  let x := d.core c
  let w := d.act (R.ADC_COREc_REGe c e)
  let input := fld w 5 0
  let dec := fld w 20 16
  let order := fld w 25 24
  let g := nth x.gain (input % 12) 0
  let code := adcCode (gainOf d input) v
  let gbad := x.gbad || decide (0 < g)
  let taps := if dec ≤ 1 then nth x.taps e [] else (code :: nth x.taps e []).take 64
  let y := { x with gain := setAt x.gain (input % 12) (g - 1), taps := setAt x.taps e taps, gbad := gbad, conv := x.conv + 1 }
  if y.conv < dec then d.setCore c y
  else
    let f := nth x.filt e 0
    let r := resultWord (!x.ready) (decide (0 < f)) gbad x.moved input (if dec ≤ 1 then code else sincResult dec order taps)
    let keep := !x.late && !d.adc.cut
    let z := { y with conv := 0, gbad := false, moved := false, filt := setAt y.filt e (f - 1)
                      res := if keep then setAt y.res e r else y.res, done := if keep then setAt y.done e true else y.done }
    if e + 1 < d.regLen c then d.setCore c { z with run := some (e + 1) }
    else d.setCore c { z with run := none, late := false, seqEnd := if x.late then x.seqEnd else d.since / nsU
                              pd := d.abit (R.ADC_COREc_CFG c) 0 && decide (1000 * nsU < d.grid (d.tmb.epoch + 1) - d.tmb.now) }

/-- A pending injected trigger takes effect at the first tick after its stamp, or 0.5 µs after it on a core that was powered down: the running regular entry is abandoned, the
injected sequence starts (R382, R383, R387). -/
def Dev.startInjected (d : Dev) (c : Nat) : Dev :=
  let x := d.core c
  if d.coreOn c && x.trig && !x.pd && decide (x.startAt ≤ d.tmb.up) then
    d.setCore c { x with trig := false, inj := some 0, injAcc := [], conv := 0, gbad := false, moved := x.moved || x.run.isSome }
  else d

/-- A conversion completes (R372). -/
def Dev.conversion (d : Dev) (c : Nat) (v : Rat) : Dev :=
  if !d.coreOn c then d
  else
    let y := d.startInjected c
    match (y.core c).inj, (y.core c).run with
    | some e, _ => y.injectedConversion c e v
    | none, some e => y.regularConversion c e v
    | none, none => y

/-- The ADC cut-off (R377). -/
def Dev.adcCutoff (d : Dev) : Dev :=
  if d.adc.cut then d
  else
    let one (y : Dev) (c : Nat) : Dev :=
      if !(y.coreOn c) then y
      else let x := y.core c
        y.setCore c { x with res := forN 16 (fun e => if decide (e < y.regLen c) && !(nth x.done e false) then heldWord (wAt x.res e) else wAt x.res e) }
    let d1 := (List.range 4).foldl one d
    { d1 with adc := { d1.adc with cut := true } }

/-- An injected trigger is stamped (R381, R384). -/
def Dev.injTrigger (d : Dev) (c : Nat) : Dev :=
  let x := d.core c
  if !d.coreOn c then d
  else if x.inj.isSome || x.trig then d.setCore c { x with injOvr := satAdd 255 x.injOvr 1 }
  else d.setCore c { x with trig := true, startAt := d.tmb.up + (if x.pd then 500 * nsU else d.tickU) }

/-- Every core whose trigger is `code` is triggered. -/
def Dev.injTriggers (d : Dev) (code : Nat) : Dev :=
  (List.range 4).foldl (fun y c => if y.afld (R.ADC_COREc_CFG c) 28 24 = code then y.injTrigger c else y) d

/-- A write of ADC_COREc_SOFT (R381). -/
def Dev.softTrigger (d : Dev) (c : Nat) : Dev := if d.afld (R.ADC_COREc_CFG c) 28 24 = 1 then d.injTrigger c else d

/-- A powered-down core wakes 0.5 µs before SYNC, or 0.5 µs after an injected trigger (R387). -/
def Dev.adcWake (d : Dev) (c : Nat) : Dev :=
  let x := d.core c
  if x.pd && ((x.trig && decide (x.startAt ≤ d.tmb.up)) || decide (d.grid (d.tmb.epoch + 1) ≤ d.tmb.now + 500 * nsU)) then d.setCore c { x with pd := false } else d

/-- The warm-up of R386 starts anew. -/
def Dev.adcWarm (d : Dev) (c : Nat) : Dev := d.setCore c { d.core c with ready := false, warmEnd := some (d.tmb.up + 200000 * nsU) }

/-- The warm-up is over (R386). -/
def Dev.adcWarmEnd (d : Dev) (c : Nat) : Dev :=
  match (d.core c).warmEnd with
  | some t => if t ≤ d.tmb.up then d.setCore c { d.core c with ready := true, warmEnd := none } else d
  | none => d

/-- The regular trigger of a core at SYNC (R375, R378); the boundary wakes a powered-down core. -/
def Dev.adcSync (d : Dev) (c : Nat) : Dev :=
  let x := d.core c
  let y := { x with injSeqs := 0, pd := false, done := List.replicate 16 false }
  if !d.coreOn c then d.setCore c { y with run := none, inj := none, trig := false }
  else if x.run.isSome then
    ((d.setCore c { y with late := true, ovrCnt := sat16 y.ovrCnt 1 }).setSticky R.ADC_STATUS (word (2 ^ (8 + c)))).raise Sub.adc c R.ADC_STATUS (2 ^ (8 + c)) []
  else d.setCore c { y with run := some 0, conv := 0, moved := x.inj.isSome, gbad := false, late := false }

/-- SYNC starts the regular sequences of the epoch. -/
def Dev.adcNewEpoch (d : Dev) : Dev :=
  let d1 := (List.range 4).foldl Dev.adcSync d
  { d1 with adc := { d1.adc with cut := false } }

/-- A pending injected trigger takes effect at its tick without a command (R382). -/
def Dev.adcTick (d : Dev) : Dev := (List.range 4).foldl Dev.startInjected d

/-- Every enabled core has the last regular result of the epoch; a core whose sequence did not start in it has none (R377, R378). -/
def Dev.adcDone (d : Dev) : Bool := (List.range 4).all (fun c => !d.coreOn c || (List.range (d.regLen c)).all (fun e => nth (d.core c).done e false))

/-- The value and validity of an ADC channel in the epoch (R374, R379). -/
def Dev.adcChannel (d : Dev) (i : Nat) : Option Rat :=
  let c := i / 12
  if !d.coreOn c then none
  else match (List.range (d.regLen c)).find? (fun e => d.afld (R.ADC_COREc_REGe c e) 5 0 == i) with
    | none => none
    | some e =>
      let w := wAt (d.core c).res e
      if bit w 31 then some (((signed 16 (fld w 15 0) : Int) : Rat) / 32768) else none

/-- The consequences of a commit: settling of changed gains, decimations and orders, warm-up of changed cores and reference (R386, R389). `o` is the device
before the commit. -/
def Dev.adcCommitted (d o : Dev) : Dev :=
  let one (y : Dev) (c : Nat) : Dev :=
    let x := y.core c
    let ga := forN 12 (fun j => if gainOf y (12 * c + j) ≠ gainOf o (12 * c + j) then 2 else nth x.gain j 0)
    let fi := forN 16 (fun e =>
      let w := y.act (R.ADC_COREc_REGe c e); let v := o.act (R.ADC_COREc_REGe c e)
      if fld w 20 16 ≠ fld v 20 16 ∨ fld w 25 24 ≠ fld v 25 24 then fld w 25 24 * fld w 20 16 else nth x.filt e 0)
    let z := y.setCore c { x with gain := ga, filt := fi }
    if y.afld R.ADC_CTRL 8 8 ≠ o.afld R.ADC_CTRL 8 8 ∨ (y.abit R.ADC_CTRL c ∧ !(o.abit R.ADC_CTRL c)) then z.adcWarm c else z
  (List.range 4).foldl one d

end Sys2Proof.Machine
end

