-- ==== Sys2Proof/Machine/Clk.lean ====
section
/-! DEFINITION. Root clock and timebase (R413–R434, R425–R453): ticks, alignment, lock, time adjustments, TT outputs, scheduled-action entries. -/
namespace Sys2Proof.Machine

-- Root PLL -------------------------------------------------------------------------------------------------------------

/-- 200 ppm of M_nom. -/
def Dev.multLim (d : Dev) : Nat := d.multNom / 5000

/-- The filtered phase error, root cycles (R430). -/
def Clk.err (c : Clk) : Rat := if c.errs.isEmpty then 0 else ((c.errs.sum : Int) : Rat) / (c.errs.length : Rat)

/-- A phase step of the alignment loop (R431). The slew of FRAC beside it stays inside 1 ppm per ms and ±200 ppm; its amount is free. -/
def Dev.phaseStep (d : Dev) : Dev :=
  let c := d.clk
  let since := match c.lastStep with | some t => d.tmb.up - t | none => 0
  let far : Bool := decide (163 / 100 < rabs (c.err * 1250 / 3))
  if !(d.abit R.CLK_PLL_CFG 12) || !c.lock || c.fallback || !far || decide (since < 256 * rootU) then d
  else
    let b := c.mult * min since (1000 * msU) / (1000000 * msU)
    let lo := d.multNom - d.multLim
    let hi := d.multNom + d.multLim
    let m := max lo (min hi (c.mult + d.freeBelow (2 * b + 1) - b))
    let clampNow := decide (m = lo) || decide (m = hi)
    let d1 := { d.tookFree with clk := { c with pstep := c.pstep + (if 0 < c.err then 1 else -1), lastStep := some d.tmb.up, mult := m, freqClamp := clampNow } }
    if clampNow && !c.freqClamp then d1.raise Sub.clk 0 R.CLK_STATUS 0x04000000 [] else d1

/-- The phase error at a SYNC joins the filter and the count of ALIGNED (R430, R431); `e` in root cycles. -/
def Dev.phaseErr (d : Dev) (e : Int) : Dev :=
  let c := d.clk
  let inside : Bool := decide ((e.natAbs : Nat) * 5 < 24)
  let run := if inside && c.lock && !c.fallback then c.alignRun + 1 else 0
  { d with clk := { c with errs := (e :: c.errs).take 16, alignRun := run, aligned := (c.aligned && inside) } }

/-- 1,000 consecutive epochs inside the bound set ALIGNED (R431). -/
def Dev.setAligned (d : Dev) : Dev := if 1000 ≤ d.clk.alignRun then { d with clk := { d.clk with aligned := true } } else d

/-- Root cycles of the high phase of a clock output: ⌈DIV/2⌉ (R433). -/
def Cko.high (c : Cko) : Nat := cdiv c.div 2
/-- The level of a clock output at an elapsed time (R433): high in the first ⌈DIV/2⌉ of its DIV root cycles. -/
def Cko.level (c : Cko) (t : Nat) : Bool := decide (t < c.tail) || (c.on && decide (c.rise ≤ t) && decide ((t - c.rise) / rootU % c.div < c.high))
/-- The end of the high phase in progress at an elapsed time; that time itself when the output is low. -/
def Cko.highEnd (c : Cko) (t : Nat) : Nat :=
  if t < c.tail then c.tail else if c.level t then t + (c.high * rootU - (t - c.rise) % (c.div * rootU)) else t
/-- An output stops at the end of a high phase (R434). -/
def Cko.stop (c : Cko) (t : Nat) : Cko := { c with on := false, tail := c.highEnd t }
/-- An output starts from low at an elapsed time (R434): with ALIGN on a SYNC at `t`, else once a low phase has passed (DESIGN CHOICE, log 98). -/
def Cko.start (c : Cko) (t div : Nat) (align : Bool) : Cko :=
  let low := c.highEnd t
  let wait := if low = t then 0 else if align then cdiv (low - t) (div * rootU) * (div * rootU) else low - t + (div - cdiv div 2) * rootU
  { on := true, div := div, rise := t + wait, tail := low }

/-- Clock output `n`. -/
def Dev.ckoOut (d : Dev) (n : Nat) : Cko := nth d.clk.cko n {}
/-- Replace it. -/
def Dev.setCko (d : Dev) (n : Nat) (x : Cko) : Dev := { d with clk := { d.clk with cko := setAt d.clk.cko n x } }
/-- The pins CKOn_P and CKOn_N (R433, R639): an LVCMOS format uses CKOn_P and leaves CKOn_N low, the others drive the complement on it. -/
def Dev.ckoPins (d : Dev) (n : Nat) : Bool × Bool :=
  let l := (d.ckoOut n).level d.tmb.up
  (l, decide (d.afld (R.CLK_CKOn_CFG n) 29 28 < 2) && !l)
/-- The outputs restart from low at the present SYNC (R422). -/
def Dev.ckoRestart (d : Dev) : Dev :=
  (List.range 4).foldl (fun (x : Dev) (n : Nat) => if d.abit (R.CLK_CKOn_CFG n) 31 then
    x.setCko n ((x.ckoOut n).start x.tmb.syncUp (d.afld (R.CLK_CKOn_CFG n) 11 0) (d.abit (R.CLK_CKOn_CFG n) 30)) else x) d
/-- The outputs a commit enables, disables or re-divides change at the commit boundary, the present instant (R434); `o` is the device before it. -/
def Dev.ckoCommitted (d o : Dev) : Dev :=
  (List.range 4).foldl (fun (x : Dev) (n : Nat) =>
    let r := R.CLK_CKOn_CFG n
    if d.act r = o.act r then x
    else if d.abit r 31 then x.setCko n ((x.ckoOut n).start x.tmb.up (d.afld r 11 0) (d.abit r 30))
    else x.setCko n ((x.ckoOut n).stop x.tmb.up)) d
/-- A rising edge of an output with ALIGN coincides with every SYNC, the present instant (R434). -/
def Dev.ckoSync (d : Dev) : Dev :=
  (List.range 4).foldl (fun (x : Dev) (n : Nat) =>
    if d.abit (R.CLK_CKOn_CFG n) 30 && (d.ckoOut n).on then x.setCko n { d.ckoOut n with rise := x.tmb.syncUp } else x) d

/-- The start of a gated frequency change (R422): fallback clock, outputs low, re-acquisition with M_nom and the LFSR reloaded. -/
def Dev.gatedChange (d : Dev) : Dev :=
  { d with clk := { d.clk with lock := false, fallback := true, relock := false, aligned := false, alignRun := 0, errs := [], mult := d.multNom
                               freqClamp := false, lfsr := (d.act R.CLK_PLL_SEED).toNat, freeRun := !d.clk.refOk
                               cko := d.clk.cko.map (fun (c : Cko) => c.stop d.tmb.up) } }

/-- The PLL declares lock (R417, R422). -/
def Dev.pllLock (d : Dev) : Dev :=
  if d.clk.lock || !d.clk.refOk then d
  else { d with clk := { d.clk with lock := true, relock := d.clk.fallback, lfsr := (d.act R.CLK_PLL_SEED).toNat, pstep := 0, lastStep := some d.tmb.up } }

/-- The first SYNC after lock moves the domains back to the root clock (R422). -/
def Dev.rootReturn (d : Dev) : Dev :=
  if d.clk.relock && d.clk.lock then
    ({ d with clk := { d.clk with relock := false, fallback := false, aligned := false, alignRun := 0, errs := [] } }).ckoRestart
  else d

/-- REF_IN edges vanish (R419): the fallback oscillator free-runs. -/
def Dev.refLoss (d : Dev) : Dev := { d with clk := { d.clk with refOk := false, freeRun := true } }
/-- REF_IN edges return (R419). -/
def Dev.refReturn (d : Dev) : Dev := { d with clk := { d.clk with refOk := true, freeRun := false } }
/-- A lock attempt fails (R422). -/
def Dev.lockFailed (d : Dev) : Dev := if d.clk.lock then d else d.gatedChange

-- Station time -----------------------------------------------------------------------------------------------------------

/-- The switch slew of `n` ticks (R443): R moves towards 0 by SLEW ppm of the increment in each. -/
def Dev.slewOver (d : Dev) (n : Nat) : Int :=
  let s := (n : Int) * (d.incr * (d.afld R.PTP_SEL 31 16 : Int) / 1000000)
  if 0 ≤ d.ptp.rem then min s d.ptp.rem else max (-s) d.ptp.rem

/-- The switch slew of one tick. -/
def Dev.slew1 (d : Dev) : Int := d.slewOver 1

/-- The LFSR and the dither of ±1 LSB it adds to FRAC while the PLL is in lock (R415); one step a tick (DESIGN CHOICE, log 55). -/
def Dev.ditherTick (d : Dev) : Dev :=
  if d.clk.lock && d.abit R.CLK_PLL_CFG 8 then
    let x := Config.lfsrNext d.clk.lfsr % 2 ^ 32
    { d with clk := { d.clk with lfsr := x, dither := if x % 2 = 1 then 1 else -1 } }
  else { d with clk := { d.clk with dither := 0 } }

/-- What the sigma-delta modulator is driven with: FRAC with its dither (R415). -/
def Clk.driven (c : Clk) : Int := (c.mult : Int) + c.dither

/-- Time goes on to the next timebase tick. -/
def Dev.tick (d : Dev) : Dev :=
  let len := d.tickU
  let left := if d.tmb.age < len then len - d.tmb.age else len
  let d0 := if d.clk.fallback && d.clk.freeRun then d.tookFree else d
  let d1 := d0.ditherTick
  if !d.tmb.running then { d1 with tmb := { d1.tmb with up := d.tmb.up + left, age := 0 } }
  else
    let s := d.slew1
    { d1 with tmb := { d1.tmb with now := (((d.tmb.now : Nat) : Int) + d.advance1 * (left : Int) / (len : Int) - s).toNat, up := d.tmb.up + left, age := 0 }
              ptp := { d1.ptp with rem := d.ptp.rem - s } }

/-- The whole ticks in which station time moves on by `x`, slewed while R is not 0 (R443). -/
def Dev.ticksFor (d : Dev) (x : Nat) : Nat :=
  let a := d.advance1.toNat
  let r := d.ptp.rem
  let s := (d.slewOver 1)
  if r = 0 ∨ s = 0 then x / a
  else
    let n := cdiv r.natAbs s.natAbs
    if (x : Int) ≤ (n : Int) * (a : Int) - r then x / (((a : Int) - s).toNat) else ((x : Int) + r).toNat / a

/-- Time goes on to station time `t`, R falling with the ticks that pass (R425, R443). -/
def Dev.timeTo (d : Dev) (t : Nat) : Dev :=
  if t ≤ d.tmb.now then d
  else
    let x := t - d.tmb.now
    let s := d.slewOver (d.ticksFor x)
    let e := ((x : Int) + s).toNat * d.tickU / d.advance1.toNat
    { d with tmb := { d.tmb with now := t, up := d.tmb.up + e, age := (d.tmb.age + e) % d.tickU }, ptp := { d.ptp with rem := d.ptp.rem - s } }

/-- Station time at which the SYNC of epoch `k` is issued: `e` root cycles off its grid instant (R25, R430), on the fallback clock at the first tick at or after it
(R420); never before the present. -/
def Dev.syncAt (d : Dev) (k : Nat) (e : Int) : Nat :=
  if d.clk.fallback then
    let t := d.stampNow
    let a := d.advance1.toNat
    if d.grid k ≤ t then t else t + cdiv (d.grid k - t) a * a
  else max d.tmb.now ((d.grid k : Int) + e * (rootU : Int)).toNat

/-- The remaining slew reaches zero within the tick (R443). -/
def Dev.slewDone (d : Dev) : Dev :=
  if d.slew1 = d.ptp.rem then
    { d with tmb := { d.tmb with now := (((d.tmb.now : Nat) : Int) - d.ptp.rem).toNat }, ptp := { d.ptp with rem := 0 } }
  else d

/-- The smallest epoch whose SYNC lies at or after station time `t` (R26). -/
def Dev.epochFrom (d : Dev) (t : Nat) : Nat := if t ≤ d.origin || d.tc == 0 then 0 else cdiv (t - d.origin) d.tc

/-- The timebase starts (R92 step 6). -/
def Dev.timebaseStart (d : Dev) : Dev :=
  let k := d.epochFrom d.tmb.now
  { d with tmb := { d.tmb with running := true, epoch := k, sync := d.grid k, syncUp := d.tmb.up + (d.grid k - d.tmb.now) } }

/-- Where the outcome of a request goes: the completion of its descriptor, or nothing more. -/
def Dev.answer (d : Dev) (o : Origin) (status result epoch : Nat) (data : List Word) : Dev :=
  match o with
  | .desc c => d.complete c status result epoch data
  | .bar0 => d
  | .entry _ => d

/-- The outcome of a time adjustment (R426, R427). -/
def Dev.adjResult (d : Dev) (o : Origin) (result epoch : Nat) : Dev :=
  match o with
  | .desc c => d.complete c (if result = 5 then 2 else 0) result epoch []
  | .bar0 => { d with tmb := { d.tmb with result := result } }
  | .entry _ => d

/-- A TRIM outside ±500 ppm (R426). -/
def trimBad (trim : Int) : Bool := decide (trim < -2748779069) || decide (2748779069 < trim)

/-- A request for a new TRIM (R426); `joint` when one descriptor asks for a step as well: it completes once, with the first part that fails, else with the step (log 118). -/
def Dev.adjIncr (d : Dev) (o : Origin) (trim : Int) (joint : Bool := false) : Dev :=
  if trimBad trim then d.adjResult o 3 0
  else
    let mine (r : AdjReq) : Bool := !d.afterEpoch || decide (d.grid (d.tmb.epoch + 1) ≤ r.stamp)
    let old := d.tmb.reqs.filter (fun r => !r.step && mine r)
    let left := (d.tmb.reqs.filter (fun r => r.step || !(mine r))).map (fun (r : AdjReq) => if old.any (fun x => x.joint && x.origin == r.origin) then { r with origin := .entry 16 } else r)
    let d1 := { d with tmb := { d.tmb with reqs := left ++ [⟨false, trim, o, d.stampNow, joint⟩] } }
    old.foldl (fun x r => x.adjResult r.origin 4 0) d1

/-- A step is admitted in these modes (R427). -/
def Dev.stepMode (d : Dev) : Bool := d.mode == .config || d.mode == .standby || d.mode == .service

/-- A request for a step (R427). -/
def Dev.adjStep (d : Dev) (o : Origin) (ns : Int) : Dev :=
  if d.stepMode then { d with tmb := { d.tmb with reqs := d.tmb.reqs ++ [⟨true, ns, o, d.stampNow, false⟩] } }
  else d.adjResult o 2 0

/-- Station time captured at the tick of the write (R428). -/
def Dev.capture (d : Dev) : Dev := { d with tmb := { d.tmb with capSec := tSec d.stampNow, capNs := tNs d.stampNow, capFrac := tFrac d.stampNow } }

-- Time-triggered outputs -------------------------------------------------------------------------------------------------

/-- Output `n`. -/
def Dev.tt (d : Dev) (n : Nat) : Tt := nth d.tmb.tt n {}
/-- Replace output `n`. -/
def Dev.setTt (d : Dev) (n : Nat) (x : Tt) : Dev := { d with tmb := { d.tmb with tt := setAt d.tmb.tt n x } }
/-- The level of TTn (R445). -/
def Dev.ttLevel (d : Dev) (n : Nat) : Bool := (!(d.tt n).ends.isEmpty) != d.abit (R.TMB_TTn_CFG n) 4
/-- MODE of TTn. -/
def Dev.ttMode (d : Dev) (n : Nat) : Nat := d.afld (R.TMB_TTn_CFG n) 1 0
/-- T0 of TTn. -/
def Dev.ttT0 (d : Dev) (n : Nat) : Nat :=
  tOf ((d.act (R.TMB_TTn_T0_HI n)).toNat * 2 ^ 32 + (d.act (R.TMB_TTn_T0_LO n)).toNat) (d.act (R.TMB_TTn_T0_NS n)).toNat

/-- The first pulse of a PERIODIC output that becomes active at station time `b` (R446). -/
def Dev.ttFirst (d : Dev) (n b : Nat) : Dev :=
  let p := (d.act (R.TMB_TTn_PERIOD n)).toNat * nsU
  let t0 := d.ttT0 n
  let m := b + 100 * nsU
  d.setTt n { d.tt n with next := if d.ttMode n = 1 ∧ p ≠ 0 then some (if m ≤ t0 then t0 else t0 + cdiv (m - t0) p * p) else none }

/-- A rising edge of TTn triggers injected sequences (R381) and is the recorder's trigger source TT_EDGE (R499). -/
def Dev.ttEdge (d before : Dev) (n : Nat) : Dev :=
  if d.ttLevel n && !(before.ttLevel n) then
    let d1 := d.injTriggers (2 + n)
    if d1.afld R.REC_TRIG_EVT 18 16 = n then d1.trigger 9 25 d1.stampNow d1.tmb.epoch else d1
  else d

/-- The elapsed time of the edge due at station time `t`, not after the present (R445, R447): the first root cycle of the period at or after it, on the fallback clock
the present tick. -/
def Dev.edgeAt (d : Dev) (t : Nat) : Nat :=
  if d.clk.fallback then d.tmb.up
  else
    let u := d.tmb.up - (d.tmb.now - t)
    if u < d.tmb.syncUp then u else d.tmb.syncUp + cdiv (u - d.tmb.syncUp) rootU * rootU

/-- A pulse of `ns`, due at station time `t`, begins on TTn. -/
def Dev.ttBegin (d : Dev) (n t ns : Nat) : Dev :=
  let x := d.tt n
  (d.setTt n { x with ends := x.ends ++ [d.edgeAt t + ns * nsU], coarse := d.clk.fallback }).ttEdge d n

/-- Pulses of TTn whose width has passed end (R445). -/
def Dev.ttEnd (d : Dev) (n : Nat) : Dev :=
  let x := d.tt n
  (d.setTt n { x with ends := x.ends.filter (fun t => decide (d.tmb.up < t)), coarse := d.clk.fallback }).ttEdge d n

-- Scheduled actions --------------------------------------------------------------------------------------------------------

/-- Entry `e`. -/
def Dev.sched (d : Dev) (e : Nat) : Sched := nth d.tmb.sched e {}
/-- Replace entry `e`. -/
def Dev.setSched (d : Dev) (e : Nat) (x : Sched) : Dev := { d with tmb := { d.tmb with sched := setAt d.tmb.sched e x } }
/-- T of entry `e`. -/
def Dev.schedT (d : Dev) (e : Nat) : Nat :=
  tOf ((d.rwv (R.TMB_SCHEDe_SEC_HI e)).toNat * 2 ^ 32 + (d.rwv (R.TMB_SCHEDe_SEC_LO e)).toNat) (d.rwv (R.TMB_SCHEDe_NS e)).toNat
/-- KIND of entry `e`. -/
def Dev.schedKind (d : Dev) (e : Nat) : Nat := fld (d.rwv (R.TMB_SCHEDe_ACT e)) 31 28
/-- TARGET of entry `e`. -/
def Dev.schedTarget (d : Dev) (e : Nat) : Nat := fld (d.rwv (R.TMB_SCHEDe_ACT e)) 23 0
/-- VALUE of entry `e`. -/
def Dev.schedValue (d : Dev) (e : Nat) : Word := d.rwv (R.TMB_SCHEDe_VALUE e)
/-- The status word of an entry (R455). -/
def Sched.statusWord (x : Sched) : Word := word (put 31 28 x.st + put 27 24 x.result)

/-- An entry reaches a final state (R450, R519). -/
def Dev.schedFinal (d : Dev) (e st result late epoch : Nat) : Dev :=
  let x := { d.sched e with st := st, result := result, lateNs := late, ref := none, late := false }
  let d1 := d.setSched e x
  match (d.sched e).ref with
  | some c => d1.complete c 0 result epoch [x.statusWord, word late]
  | none => d1

/-- The set-point registers of R449. -/
def setpointReg (off : Nat) : Bool :=
  [R.GFE_P0, R.GFE_Q0, R.GFE_V0, R.GFE_F0, R.GFE_GFL_P, R.GFE_GFL_Q, R.CCE_DCV_VSET, R.CCE_DCV_PSET].contains off ||
  (List.range 64).any (fun n => off == R.LPE_SLOTn_SP_CONST n || off == R.LPE_SLOTn_MAN n)

/-- The refusal code of an ARM, 0 when it is accepted (R51, R84, R450). -/
def Dev.armCode (d : Dev) (e : Nat) : Nat :=
  let k := d.schedKind e
  let other := (List.range 16).any (fun i => i != e && (d.sched i).st == 1 && d.schedKind i == k)
  if k = 1 then (if other then 6 else 0)
  else if k = 2 then (if other then 9 else 0)
  else if k = 3 then (if setpointReg (d.schedTarget e) then 0 else 3)
  else if k = 4 then
    (if d.schedTarget e ≤ 7 ∧ d.ttMode (d.schedTarget e) = 2 ∧ 5 ≤ (d.schedValue e).toNat ∧ (d.schedValue e).toNat ≤ 1000000 then 0 else 3)
  else 3

/-- A TT pulse that is not emitted (R452, R453). -/
def Dev.ttMissed (d : Dev) (e : Nat) : Dev :=
  let n := d.schedTarget e
  ((d.schedFinal e 4 0 0 0).setTt n { d.tt n with missed := sat16 (d.tt n).missed 1 }).raise Sub.tmb n (R.TMB_SCHEDe_STATUS e) 0xF0000000 []

/-- Arm an entry that is not PENDING (R448, R450, R452); a COMMIT entry joins the commit requests in order of programming time (R52). -/
def Dev.arm (d : Dev) (e : Nat) (ref : Option CompRef) : Dev :=
  let d1 := d.setSched e { d.sched e with ref := ref, prog := d.stampNow, late := false, lateNs := 0, result := 0 }
  let code := d1.armCode e
  if code ≠ 0 then d1.schedFinal e 5 code 0 0
  else if d1.schedKind e = 4 ∧ d1.schedT e < d1.tmb.now + 100 * nsU then d1.ttMissed e
  else
    let d2 := d1.setSched e { d1.sched e with st := 1 }
    if d2.schedKind e = 1 then { d2 with sys := { d2.sys with commitReqs := d2.sys.commitReqs ++ [⟨false, none, .entry e, d2.stampNow⟩] } } else d2

/-- A CANCEL of a pending action (R450). -/
def Dev.schedCancel (d : Dev) (e : Nat) : Dev :=
  if (d.sched e).st = 1 then
    let d1 := d.schedFinal e 6 0 0 0
    { d1 with sys := { d1.sys with commitReqs := d1.sys.commitReqs.filter (fun (r : CommitReq) => r.origin != .entry e) } }
  else d

/-- A pulse begins: a due periodic pulse, or the due one-shot entry of lowest number (R445, R448). -/
def Dev.ttStart (d : Dev) (n : Nat) : Dev :=
  if d.ttMode n = 1 then
    match (d.tt n).next with
    | some t =>
      if t ≤ d.tmb.now then
        (d.setTt n { d.tt n with next := some (t + (d.act (R.TMB_TTn_PERIOD n)).toNat * nsU) }).ttBegin n t (d.act (R.TMB_TTn_WIDTH n)).toNat
      else d
    | none => d
  else if d.ttMode n = 2 then
    match (List.range 16).find? (fun e => (d.sched e).st == 1 && d.schedKind e == 4 && d.schedTarget e == n && decide (d.schedT e ≤ d.tmb.now)) with
    | some e => (d.schedFinal e 2 0 0 d.tmb.epoch).ttBegin n (d.schedT e) (d.schedValue e).toNat
    | none => d
  else d

/-- A step from station time `t0` to the present one acts on the entries and outputs (R453). -/
def Dev.steppedActions (d : Dev) (t0 : Nat) : Dev :=
  let one (y : Dev) (e : Nat) : Dev :=
    if (y.sched e).st ≠ 1 then y
    else
      let t := y.schedT e
      if t0 < t ∧ t ≤ y.tmb.now then (if y.schedKind e = 4 then y.ttMissed e else y.setSched e { y.sched e with late := true }) else y
  let d1 := (List.range 16).foldl one d
  (List.range 8).foldl (fun y n => if y.ttMode n = 1 then y.ttFirst n y.tmb.now else y) d1

/-- Lateness in ns at station time `b` of an entry, when it is late (R452, R453). -/
def Dev.lateness (d : Dev) (e b : Nat) : Option Nat :=
  let t := d.schedT e
  if (d.sched e).late ∨ t < (d.sched e).prog then some (min 0xFFFFFFFF ((b - t) / nsU)) else none

/-- An entry is due at a boundary of station time `b` (R52, R85, R452): pending, armed before it (R65), its time reached. -/
def Dev.schedDue (d : Dev) (b e : Nat) : Bool := (d.sched e).st == 1 && decide ((d.sched e).prog < b) && decide (d.schedT e ≤ b)

/-- The pending entry of a kind whose time has come at a boundary of station time `b` (R52). -/
def Dev.dueEntry (d : Dev) (kind b : Nat) : Option Nat :=
  (List.range 16).find? (fun e => d.schedDue b e && d.schedKind e == kind)

end Sys2Proof.Machine
end

