-- ==== Sys2Proof/Machine/Gfe.lean ====
section
/-! DEFINITION. The Terord grid-forming engine (R134–R178): the steps 1 to 9 of R138 as functions of the engine state, the inputs of the epoch
and the active registers. Products and sums are exact; every state item and read-back value is rounded once to binary32 (log 2). -/
namespace Sys2Proof.Machine

/-- The inputs of one GFE step: sequence αβ voltages of V0 and currents from conditioning (R135), the two time constants of the plant, and the sync set. -/
structure GfeIn where
  tc : Rat
  fb : Rat
  vPos : Cx
  vNeg : Cx
  iPos : Cx
  iNeg : Cx
  vMag : Rat
  vdc : Rat
  syncAngle : Rat
  syncFreq : Rat
  syncV : Rat
  syncOk : Bool
deriving DecidableEq, Repr

/-- What the surrounding machine tells a path: the law's mode, FRT, the presets of R106 and R113, the power reference of R184, the limits of
R156 and R161 and the assumed event of a branch (R224). -/
structure GfeCtx where
  mode : Mode
  law : Mode
  causeAc : Bool
  preset : Nat
  src : GfeOut
  powerRef : Rat
  clHold : Bool
  plim : Option Rat
  branch : Option Nat
deriving DecidableEq, Repr

/-- A grid-forming law (R71). -/
def isGf (m : Mode) : Bool := m = .blackstart || m = .gfIsland || m = .gfGrid

/-- A law on the PLL angle (R164). -/
def isPllLaw (m : Mode) : Bool := m = .gfl || m = .dcv || m = .statcom

/-- `GFE_STATUS.LAW` (R179). -/
def lawCode : Mode → Nat
  | .blackstart => 1 | .gfIsland => 2 | .gfGrid => 3 | .gfl => 4 | .dcv => 5 | .statcom => 6
  | .boot | .config | .standby | .precharge | .frt | .service => 0

/-- Angle advance per epoch at speed `w` pu. -/
def advance (fb w tc : Rat) : Rat := 2 * piR * fb * w * tc

/-- A stored binary32 item brought inside ±`lim`; unchanged when it lies inside. -/
def clampW (lim : Rat) (w : Word) : Word := if rabs (fv w) ≤ lim then w else rnd (clamp (-lim) lim (fv w))

/-- An offset stands at its limit (R148, R176, R179). -/
def atLimit (lim x : Word) : Bool := decide (fv lim ≤ rabs (fv x))

/-- The items clamped to the active limits, as after a correction by escrow (R361, R644). -/
def gfeLimits (a : Nat → Word) (s : GfeSt) : GfeSt :=
  { s with
      pllInt := clampW (2 * piR * fv (a R.GFE_PLL_FLIM)) s.pllInt
      dw := clampW (fv (a R.GFE_FREQ_LIM)) s.dw
      dpRest := clampW (fv (a R.GFE_REST_PLIM)) s.dpRest
      dvRest := clampW (fv (a R.GFE_REST_VLIM)) s.dvRest }

/-- Step 1: the PLL (R162, R163). Answers the new integrator and ω_pll. -/
def pllStep (a : Nat → Word) (i : GfeIn) (s : GfeSt) : Word × Rat :=
  let k := 2 * piR * i.fb
  let vq := (cmul i.vPos (cis (-(accAngle s.pll)))).im
  let lim := fv (a R.GFE_PLL_FLIM) / i.fb
  let pint := fv s.pllInt
  let dead := decConst ((fld (a R.GFE_BS_CTRL) 15 8 : Rat) / 100)
  if i.vMag < dead then (s.pllInt, clamp (1 - lim) (1 + lim) (1 + pint / k))
  else
    let w := 1 + (fv (a R.GFE_PLL_KP) * vq + pint) / k
    let c := clamp (1 - lim) (1 + lim) w
    (if c = w then rnd (pint + fv (a R.GFE_PLL_KI) * vq * i.tc) else s.pllInt, c)

/-- Steps 1 and 2 on the state: PLL and power filters (R137, R162). The PLL accumulator is advanced to the next SYNC. -/
def gfeFront (a : Nat → Word) (i : GfeIn) (s : GfeSt) : GfeSt × Rat :=
  let (pint, w) := pllStep a i s
  let sp := cmul i.vPos (conj i.iPos)
  ({ s with
      pllInt := pint
      pll := s.pll + angleAcc (advance i.fb w i.tc)
      pe := rnd (lowpass i.tc (fv (a R.GFE_TF_P)) (fv s.pe) sp.re)
      qe := rnd (lowpass i.tc (fv (a R.GFE_TF_Q)) (fv s.qe) sp.im) }, w)

/-- R145: the rotor follows the PLL, and the integrators of the grid-forming law, the restoration offsets and resynchronization are zero. -/
def gfeTrack (s : GfeSt) (wPll : Rat) : GfeSt :=
  { s with theta := s.pll, dw := rnd (wPll - 1), dpRest := 0, dvRest := 0, restOut := false, rsState := 0, rsHold := 0, vl := [0, 0, 0, 0] }

/-- A ramped reference of R115: its value now, its value in the next epoch, and whether the ramp goes on: it is over once the next value is the end point. -/
def rampRef (slew tc : Rat) (ramping : Bool) (x e : Word) : Word × Word × Bool :=
  if ramping then
    let y := towards (fv x) (fv e) (slew * tc)
    let z : Word := if y = fv e then e else rnd y
    (x, z, decide (fv z ≠ fv e))
  else (e, e, false)

/-- The angle difference of R171. -/
def resyncDang (a : Nat → Word) (i : GfeIn) (pllK : Dword) : Rat :=
  wrapPi (i.syncAngle + (fld (a R.GFE_RESYNC_CFG) 27 24 : Rat) * piR / 6 - accAngle pllK)

/-- The resynchronization state and hold count after one epoch (R170, R173, R174). A set that is invalid or not selected counts as NO_SOURCE (DESIGN CHOICE, log 104). -/
def resyncNext (a : Nat → Word) (i : GfeIn) (mode law : Mode) (dang df dv : Rat) (hold : Nat) : Nat × Nat :=
  if !(bit (a R.GFE_RESYNC_CTRL) 0) || law != .gfIsland then (0, 0)
  else if mode != .gfIsland then (1, 0)
  else if !i.syncOk || decide (i.syncV < decConst ((fld (a R.GFE_BS_CTRL) 15 8 : Rat) / 100)) then (3, 0)
  else
    let t := a R.GFE_RESYNC_TOL
    if rabs dang < (fld t 31 16 : Rat) * piR / 32768 ∧ rabs df < (fld t 15 8 : Rat) / 1000 ∧ rabs dv < (fld t 7 0 : Rat) / 200 then
      let need := ((fld (a R.GFE_RESYNC_CFG) 15 0 : Rat) / 1000 / i.tc).ceil.toNat
      (if need ≤ hold + 1 then 2 else 1, min (hold + 1) (2 ^ 32 - 1))
    else (1, 0)

/-- The black-start ramp of R166–R168 for one epoch: the reference used, and the state after it. -/
def bsRamp (a : Nat → Word) (tc : Rat) (held : Bool) (s : GfeSt) : GfeSt :=
  let v0 := fv (a R.GFE_V0)
  let inc := v0 * tc / ((fld (a R.GFE_BS_CTRL) 31 16 : Rat) / 1000)
  if held then { s with rampHeld := true }
  else if !s.bsRun then { s with ebs := 0, bsRun := true, rampHeld := false }
  else if s.rampDone then { s with ebs := a R.GFE_V0, rampHeld := false }
  else
    let e := fv s.ebs + inc
    if v0 - inc / 2 ≤ e ∨ v0 < fv s.ebs then { s with ebs := a R.GFE_V0, rampDone := true, rampHeld := false }
    else { s with ebs := rnd e, rampHeld := false }

/-- The grid-forming set-point law of step 3 (R146–R150, R166, R172): P_m, E, the new state and the read-back flags. -/
structure SetPoint where
  pm : Rat
  e : Rat
  st : GfeSt
  wSet : Rat
  dang : Rat
  df : Rat
  dv : Rat
deriving DecidableEq, Repr

/-- Step 3 for the grid-forming laws. P_m and E of the epoch use the restoration offsets held from before it (DESIGN CHOICE, log 103); the voltage target of R148 is
`GFE_V0` itself, not the ramped reference of R115 (DESIGN CHOICE, log 105); RAMP_DONE stays in FRT returning to GF_ISLAND (R169; DESIGN CHOICE, log 107). -/
def gfSetPoint (a : Nat → Word) (i : GfeIn) (c : GfeCtx) (pllK : Dword) (wPll : Rat) (s : GfeSt) : SetPoint :=
  let w := 1 + fv s.dw
  let p := rampRef (fv (a R.SYS_HO_SLEW_P)) i.tc s.rampP s.refP (a R.GFE_P0)
  let q := rampRef (fv (a R.SYS_HO_SLEW_Q)) i.tc s.rampQ s.refQ (a R.GFE_Q0)
  let v := rampRef (fv (a R.SYS_HO_SLEW_VAC)) i.tc s.rampV s.refV (a R.GFE_V0)
  let dang := resyncDang a i pllK
  let df := i.syncFreq - i.fb * wPll
  let dv := i.syncV - i.vMag
  let rs := resyncNext a i c.mode c.law dang df dv s.rsHold
  let run := c.mode = .gfIsland ∧ bit (a R.GFE_RESYNC_CTRL) 0
  let slip := fv (a R.GFE_RESYNC_SLIP)
  let wSet := if run then i.syncFreq / i.fb + clamp (-slip) slip (fv (a R.GFE_RESYNC_GAIN) * dang) / i.fb else fv (a R.GFE_F0)
  let vTarget := if run then i.syncV else fv (a R.GFE_V0)
  let plim := fv (a R.GFE_REST_PLIM)
  let vlim := fv (a R.GFE_REST_VLIM)
  let fOn := c.mode = .gfIsland && bit (a R.GFE_CTRL) 4
  let vOn := c.mode = .gfIsland && bit (a R.GFE_CTRL) 5
  let dp := fv s.dpRest
  let dvr := fv s.dvRest
  let dp1 := dp + fv (a R.GFE_REST_KF) * (wSet - w) * i.tc
  let dv1 := dvr + fv (a R.GFE_REST_KV) * (vTarget - i.vMag) * i.tc
  let dpN := if fOn then rnd (clamp (-plim) plim dp1)
    else if s.restOut then rnd (towards dp 0 (fv (a R.SYS_HO_SLEW_P) * i.tc)) else s.dpRest
  let dvN := if vOn then rnd (clamp (-vlim) vlim dv1)
    else if s.restOut then rnd (towards dvr 0 (fv (a R.SYS_HO_SLEW_VAC) * i.tc)) else s.dvRest
  let pm := fv p.1 + dp - (w - wSet) / fv (a R.GFE_DROOP_PF)
  let e := clamp 0 (decConst (13 / 10)) (fv v.1 + dvr - fv (a R.GFE_DROOP_QV) * (fv s.qe - fv q.1))
  let s1 : GfeSt := { s with refP := p.2.1, rampP := p.2.2, dpRest := dpN, dvRest := dvN, rsState := rs.1, rsHold := rs.2,
                             restOut := s.restOut && (decide (fv dpN ≠ 0) || decide (fv dvN ≠ 0)) }
  if c.law = .blackstart then
    let s2 := bsRamp a i.tc (c.mode = .frt || c.branch = some 0) s1
    ⟨pm, fv s2.ebs, s2, wSet, dang, df, dv⟩
  else ⟨pm, e, { s1 with refQ := q.2.1, rampQ := q.2.2, refV := v.2.1, rampV := v.2.2, rampHeld := false,
                         rampDone := s.rampDone && c.law = .gfIsland }, wSet, dang, df, dv⟩

/-- The limiter with fault priority (R157, R158, R161): limited references, P_avail, a, r, the negative-sequence magnitude and the flags. -/
structure Limited where
  iPos : Cx
  iNeg : Cx
  pavail : Rat
  act : Rat
  react : Rat
  neg : Rat
  active : Bool
  negScaled : Bool
deriving DecidableEq, Repr

/-- Step 7. `vd` is the measured positive-sequence voltage in the frame of the references. -/
def limiter (a : Nat → Word) (c : GfeCtx) (vMag : Rat) (vd iPos iNeg : Cx) : Limited :=
  let imax := fv (a R.GFE_IMAX)
  let nmax := min (fv (a R.GFE_INEG_MAX)) imax
  let n0 := cabs iNeg
  let negScaled := decide (nmax < n0)
  let inl := if negScaled then csc (nmax / n0) iNeg else iNeg
  let n := if negScaled then nmax else n0
  let budget := imax - n
  let dir := cdir vd
  let z := cmul iPos (conj dir)
  let a0 := z.re
  let r0 := -z.im
  let db := fv (a R.GFE_FRT_DB)
  let r1 := if c.mode = .frt ∧ c.causeAc ∧ vMag < 1 - db then max r0 (fv (a R.GFE_FRT_K) * (1 - db - vMag)) else r0
  let a1 := match c.plim with
    | none => a0
    | some p => let b := p / max vMag (decConst (5 / 100)); clamp (-b) b a0
  let ovr := decide (budget * budget < a1 * a1 + r1 * r1)
  let prio := fld (a R.GFE_CTRL) 13 12
  let (a2, r2) : Rat × Rat :=
    if !ovr then (a1, r1)
    else if prio = 0 then
      let r := clamp (-budget) budget r1
      (withSign a1 (min (rabs a1) (sqrtR (budget * budget - r * r))), r)
    else if prio = 1 then
      let x := clamp (-budget) budget a1
      (x, withSign r1 (min (rabs r1) (sqrtR (budget * budget - x * x))))
    else
      let k := budget / hypotR a1 r1
      (k * a1, k * r1)
  let pav0 := vMag * sqrtR (budget * budget - min (r2 * r2) (budget * budget))
  let pav := match c.plim with
    | none => pav0
    | some p => min pav0 p
  ⟨cmul ⟨a2, -r2⟩ dir, inl, pav, a2, r2, n, negScaled || decide (a2 ≠ a0) || decide (r2 ≠ r0), negScaled⟩

/-- One voltage loop of R154: the current reference. -/
def vlRef (ff kp : Rat) (im err int : Cx) : Cx := cadd (cadd (csc ff im) (csc kp err)) int

/-- The voltage-loop integrator after the epoch (R154, R159). -/
def vlInt (kp ki tc : Rat) (active : Bool) (err int unl lim : Cx) : Cx :=
  let aw := if active ∧ kp ≠ 0 then csc (ki / kp * tc) (csub unl lim) else cx0
  csub (cadd int (csc (ki * tc) err)) aw

/-- Steps 3 to 9 of R138 for one path. `s` is the state after `gfeFront`, `s0` the state before it; the swing equation is evaluated with the
limiter result of the same epoch (R160), and steps 5 and 8 use ω[k]. With `VI_TRANS_EN` 0 the transient reactance is 0 from the end of the epoch on (R153; DESIGN CHOICE,
log 106); P_m,eff reads 0 where the law forms no P_m (R179; DESIGN CHOICE, log 108). -/
def gfeLaw (a : Nat → Word) (i : GfeIn) (c : GfeCtx) (s0 s : GfeSt) (wPll : Rat) : GfeSt × GfeOut :=
  let gf := isGf c.law
  let th := if gf then accAngle s0.theta else accAngle s0.pll
  let w := if gf then 1 + fv s0.dw else wPll
  let v1 := cmul i.vPos (cis (-th))
  let i1 := cmul i.iPos (cis (-th))
  let v2 := cmul i.vNeg (cis th)
  let i2 := cmul i.iNeg (cis th)
  let trEn := bit (a R.GFE_CTRL) 8
  let xt0 := if trEn ∧ (c.branch = some 0 ∨ c.branch = some 2) then a R.GFE_VI_TR_X else s.xtr
  let sp := gfSetPoint a i c s0.pll wPll s
  let x := fv (a R.GFE_VI_X) + fv xt0
  let rv := fv (a R.GFE_VI_R)
  let vr1 : Cx := ⟨sp.e - rv * i1.re + x * w * i1.im, -(rv * i1.im) - x * w * i1.re⟩
  let xn := fv (a R.GFE_VI_XN)
  let vr2 : Cx := if fld (a R.GFE_CTRL) 17 16 = 1 then ⟨xn * i2.im, -(xn * i2.re)⟩ else cx0
  let e1 := csub vr1 v1
  let e2 := csub vr2 v2
  let ff : Rat := if bit (a R.GFE_CTRL) 0 then 1 else 0
  let kp1 := fv (a R.GFE_VL_KP)
  let kp2 := fv (a R.GFE_VL_KPN)
  let carry := fv c.src.adv
  let tgtI1 := cmul (cxAt c.src.iLim 0) (cis (carry - th))
  let tgtI2 := cmul (cxAt c.src.iLim 2) (cis (th - carry))
  let n1 := if c.preset = 0 then cxAt s.vl 0 else csub (csub tgtI1 (csc ff i1)) (csc kp1 e1)
  let n2 := if c.preset = 0 then cxAt s.vl 2 else csub (csub tgtI2 (csc ff i2)) (csc kp2 e2)
  let vdiv := max i.vMag (decConst (5 / 100))
  let pr := rampRef (fv (a R.SYS_HO_SLEW_P)) i.tc s.rampP s.refP (a R.GFE_GFL_P)
  let qr := rampRef (fv (a R.SYS_HO_SLEW_Q)) i.tc s.rampQ s.refQ (a R.GFE_GFL_Q)
  let pset := if c.law = .gfl then fv pr.1 else c.powerRef
  let u1 := if gf then vlRef ff kp1 i1 e1 n1 else cmul ⟨pset / vdiv, -(fv qr.1 / vdiv)⟩ (cdir v1)
  let u2 := if gf then vlRef ff kp2 i2 e2 n2 else cx0
  let l := limiter a c i.vMag v1 u1 u2
  let vl1 := vlInt kp1 (fv (a R.GFE_VL_KI)) i.tc l.active e1 n1 u1 l.iPos
  let vl2 := vlInt kp2 (fv (a R.GFE_VL_KIN)) i.tc l.active e2 n2 u2 l.iNeg
  -- step 4 (R142, R143, R160)
  let pmEff := if l.active then clamp (-l.pavail) l.pavail sp.pm else sp.pm
  let d := fv (a (if l.active then R.GFE_DAMP_LIM else R.GFE_DAMPING))
  let dwn := fv s0.dw + i.tc / (2 * fv (a R.GFE_INERTIA)) * (pmEff - fv s.pe - d * (1 + fv s0.dw - wPll))
  let flim := fv (a R.GFE_FREQ_LIM)
  let dw1 := clamp (-flim) flim dwn
  let dwW := rnd dw1
  let wOut := if gf then 1 + fv dwW else wPll
  let thN : Dword := if gf then s0.theta + angleAcc (advance i.fb wOut i.tc) else s.pll
  let thOut := accAngle thN + advance i.fb wOut i.tc / 2
  -- step 8 (R155, R156)
  let kc1 := fv (a R.GFE_CL_KP)
  let kc2 := fv (a R.GFE_CL_KPN)
  let leq := fv (a R.GFE_LEQ)
  let f1 := cadd (cadd v1 (csc kc1 (csub l.iPos i1))) (csc (w * leq) ⟨-i1.im, i1.re⟩)
  let f2 := cadd (cadd v2 (csc kc2 (csub l.iNeg i2))) (csc (w * leq) ⟨i2.im, -i2.re⟩)
  let dead := c.preset = 1 ∧ c.mode = .blackstart
  let tgtU1 := if dead then cx0 else cmul (cxAt c.src.u 0) (cis (carry - thOut))
  let tgtU2 := if dead then cx0 else cmul (cxAt c.src.u 2) (cis (thOut - carry))
  let c1 := if c.preset = 0 then cxAt s.cl 0 else csub tgtU1 f1
  let c2 := if c.preset = 0 then cxAt s.cl 2 else csub tgtU2 f2
  let o1 := cadd f1 c1
  let o2 := cadd f2 c2
  let k1 := if c.clHold then c1 else cadd c1 (csc (fv (a R.GFE_CL_KI) * i.tc) (csub l.iPos i1))
  let k2 := if c.clHold then c2 else cadd c2 (csc (fv (a R.GFE_CL_KIN) * i.tc) (csub l.iNeg i2))
  -- step 9 (R139)
  let p := cmul o1 (cis thOut)
  let n := cmul o2 (cis (-thOut))
  let al := p.re + n.re
  let be := p.im + n.im
  let half3 := sqrt3 / 2
  let xtr := if !trEn then (0 : Word) else if l.active || c.mode = .frt then a R.GFE_VI_TR_X
    else rnd (lowpass i.tc (fv (a R.GFE_VI_TR_TC)) (fv xt0) 0)
  let st : GfeSt :=
    if gf then { sp.st with xtr := xtr, dw := dwW, theta := thN, vl := cxWords vl1 ++ cxWords vl2, cl := cxWords k1 ++ cxWords k2 }
    else { gfeTrack s wPll with xtr := xtr, refP := if c.law = .gfl then pr.2.1 else s.refP, rampP := c.law = .gfl && pr.2.2,
                                refQ := qr.2.1, rampQ := qr.2.2, rampV := false, rampDone := false, cl := cxWords k1 ++ cxWords k2 }
  let li1 := cmul l.iPos (cis th)
  let li2 := cmul l.iNeg (cis (-th))
  (st, { thetaK := s0.theta, pllK := s0.pll, freq := rnd (i.fb * (1 + fv s0.dw)), pllFreq := rnd (i.fb * wPll), dwPll := rnd (wPll - 1)
         pm := if gf then rnd pmEff else 0, emf := if gf then rnd sp.e else 0, pavail := rnd l.pavail
         irefA := rnd l.act, irefR := rnd l.react, irefN := rnd l.neg
         dang := rnd sp.dang, df := rnd sp.df, dv := rnd sp.dv, wSync := if gf then rnd (sp.wSet - fv (a R.GFE_F0)) else 0
         limit := l.active, limitNeg := l.negScaled, freqClamp := gf && decide (flim ≤ rabs dwn), pmClamp := gf && decide (pmEff ≠ sp.pm)
         restFSat := atLimit (a R.GFE_REST_PLIM) st.dpRest, restVSat := atLimit (a R.GFE_REST_VLIM) st.dvRest, vlSat := gf && l.active, clHold := c.clHold, frtPrio := c.mode = .frt
         law := lawCode c.law, thetaOut := rnd (wrapPi thOut), iLim := cxWords li1 ++ cxWords li2, u := cxWords p ++ cxWords n
         adv := rnd (advance i.fb wOut i.tc), vabc := [rnd al, rnd (-(al / 2) + half3 * be), rnd (-(al / 2) - half3 * be)] })

/-- Steps 1 and 2 alone, and the rotor following the PLL: blocked modes and PRECHARGE (R139, R145); the transient reactance decays (R153). The measured currents and voltages are kept as
the phasors a deblock preset continues (R106). -/
def gfeIdle (a : Nat → Word) (i : GfeIn) (s0 s : GfeSt) (wPll : Rat) : GfeSt × GfeOut :=
  let xtr : Word := if bit (a R.GFE_CTRL) 8 then rnd (lowpass i.tc (fv (a R.GFE_VI_TR_TC)) (fv s.xtr) 0) else 0
  ({ gfeTrack s wPll with cl := [0, 0, 0, 0], xtr := xtr, rampP := false, rampQ := false, rampV := false, bsRun := false, rampDone := false, rampHeld := false },
   { thetaK := s0.theta, pllK := s0.pll, freq := rnd (i.fb * (1 + fv s0.dw)), pllFreq := rnd (i.fb * wPll), dwPll := rnd (wPll - 1), law := 0
     restFSat := atLimit (a R.GFE_REST_PLIM) 0, restVSat := atLimit (a R.GFE_REST_VLIM) 0
     iLim := cxWords i.iPos ++ cxWords i.iNeg
     u := cxWords (cmul i.vPos (cis (3 / 2 * advance i.fb wPll i.tc))) ++ cxWords (cmul i.vNeg (cis (-(3 / 2 * advance i.fb wPll i.tc))))
     adv := rnd (advance i.fb wPll i.tc) })

end Sys2Proof.Machine
end

