-- ==== Sys2Proof/Machine/Cce.lean ====
section
/-! DEFINITION. The converter control engine (R180–R207): the steps 1 to 7 of R183 as functions of the engine state, the arm ledgers, the
conditioned quantities and the active registers. -/
namespace Sys2Proof.Machine

/-- What MBE delivers with a completed arm ledger (R185, R199): usable count, Σ v, Σ v² and Σ v over usable full-bridge nodes, in volts. -/
structure ArmSum where
  n : Nat
  v : Rat
  v2 : Rat
  fb : Rat
deriving DecidableEq, Repr

/-- The inputs of one CCE step. -/
structure CceIn where
  tc : Rat
  fb : Rat
  vBase : Rat
  kac : Rat
  arms : List ArmSum
  iarm : List Rat
  vdc : Rat
  idcCh : Rat
  trimV : Rat
  trimP : Rat
  c1Fired : Bool
deriving DecidableEq, Repr

/-- A quotient; a division by zero, for which the spec states no value, gives a free value. -/
def qdiv (x y : Rat) : Rat := if y = 0 then Config.divZero x else x / y

/-- The reference cell voltage of R186, volts. -/
def vRef (a : Nat → Word) : Rat :=
  let e := fld (a R.CCE_EN_VCELL) 15 0
  ((if e = 0 then fld (a R.CCE_PRC_VCELL) 15 0 else e : Nat) : Rat) / 20

/-- The arm sums of index `n`. -/
def armAt (l : List ArmSum) (n : Nat) : ArmSum := l.getD n ⟨0, 0, 0, 0⟩

/-- The ratios of R187 and the arm ratios of R186 before filtering: ε_Σ, ε_j, ε_Δ,j, ε of arms 0–5. C_sm cancels in every ratio. -/
def ratios (a : Nat → Word) (arms : List ArmSum) : List Rat :=
  let r2 := vRef a * vRef a
  if r2 = 0 then List.replicate 13 0
  else
    let eps (n : Nat) : Rat := let s := armAt arms n; if s.n = 0 then 0 else s.v2 / (s.n * r2)
    let pair (j : Nat) : Rat :=
      let u := armAt arms (2 * j); let l := armAt arms (2 * j + 1)
      qdiv (u.v2 + l.v2) (((u.n + l.n : Nat) : Rat) * r2)
    let tot := qdiv ((arms.map (·.v2)).sum) ((((arms.map (·.n)).sum : Nat) : Rat) * r2)
    tot :: forN 3 pair ++ forN 3 (fun j => eps (2 * j) - eps (2 * j + 1)) ++ forN 6 eps

/-- N of R188. -/
def meanEpochs (fb tc : Rat) : Nat := (1 / (fb * tc) + 1 / 2).floor.toNat

/-- The mean of a list of words. -/
def meanW (l : List Word) : Rat := qdiv ((l.map fv).sum) (l.length : Rat)

/-- Step 1: the ratios and their filter (R185–R188). -/
def cceFilter (a : Nat → Word) (i : CceIn) (s : CceSt) : CceSt :=
  let r := (ratios a i.arms).map rnd
  let wf := bit (a R.CCE_CTRL) 1
  let n := meanEpochs i.fb i.tc
  if wf then
    let f := if s.wfilt && decide (s.filt.length = 13) then
        forN 13 (fun j => rnd (lowpass i.tc (fv (a R.CCE_W_TF)) (fv (wAt s.filt j)) (fv (wAt r j)))) else r
    { s with wfilt := true, filt := f, hist := [], histN := n }
  else
    let h := (r :: (if s.wfilt || decide (s.histN ≠ n) then [] else s.hist)).take n
    { s with wfilt := false, hist := h, histN := n, filt := forN 13 (fun j => rnd (meanW (h.map (fun x => wAt x j)))) }

/-- The integrators clamped to the active limits, as after a correction by escrow (R361, R644). -/
def cceLimits (a : Nat → Word) (s : CceSt) : CceSt :=
  let bl := clampW (fv (a R.CCE_BAL_ILIM))
  let cl := clampW (fv (a R.CCE_CC_ULIM))
  { s with
      intW := clampW (fv (a R.CCE_W_PLIM)) s.intW
      intDcv := if s.dcvEntry then s.intDcv else clampW (fv (a R.CCE_DCV_PLIM)) s.intDcv
      intH := s.intH.map bl, intV := s.intV.map bl
      ccI := s.ccI.map cl, ccX1 := s.ccX1.map cl, ccX2 := s.ccX2.map cl }

/-- i_c of phase j (R182). -/
def icirc (i : CceIn) (j : Nat) : Rat := (i.iarm.getD (2 * j) 0 + i.iarm.getD (2 * j + 1) 0) / 2

/-- The DC current of R182. -/
def idcOf (a : Nat → Word) (i : CceIn) : Rat :=
  if bit (a R.CCE_CTRL) 0 then i.idcCh else icirc i 0 + icirc i 1 + icirc i 2

/-- Arms above the overcurrent threshold (R204). -/
def armOcMap (a : Nat → Word) (i : CceIn) : Nat := bitmap 6 (fun n => decide (fv (a R.CCE_ARM_IBLK) < rabs (i.iarm.getD n 0)))

/-- The measured read-back values, produced in every mode but BOOT. -/
def cceMeas (a : Nat → Word) (i : CceIn) : CceOut :=
  { vdc := rnd i.vdc, idc := rnd (idcOf a i), icirc := forN 3 (fun j => rnd (icirc i j)), iarm := forN 6 (fun n => rnd (i.iarm.getD n 0)) }

/-- A PI controller with conditional integration and clamp (R189, R191): output, integrator, whether the clamp acts. -/
def piCond (kp ki lim tc err int : Rat) (hold : Bool) : Rat × Rat × Bool :=
  let p := kp * err + int
  let int1 := if rabs p ≤ lim ∧ !hold then int + ki * err * tc else int
  (clamp (-lim) lim p, int1, decide (lim < rabs p))

/-- DC fault handling is active (R200). -/
def dcfActive (c : GfeCtx) (causeDc : Bool) : Bool := (c.mode = .frt && causeDc) || c.branch = some 1

/-- Steps 2 to 7 in an energized mode for one path (R189–R204). `s` is the state after `cceFilter`. -/
def cceLaw (a : Nat → Word) (i : CceIn) (c : GfeCtx) (causeDc : Bool) (g : GfeSt) (go : GfeOut) (vdcBefore : Word) (s : CceSt) : CceSt × CceOut :=
  let tc := i.tc
  let hold := s.tblk
  let noRef := decide (vRef a = 0)
  let dcf := dcfActive c causeDc
  -- step 3, needed by step 2 (R189)
  let pw := if noRef then (0, fv s.intW, false)
    else piCond (fv (a R.CCE_W_KP)) (fv (a R.CCE_W_KI)) (fv (a R.CCE_W_PLIM)) tc (1 - fv (wAt s.filt 0)) (fv s.intW) hold
  -- step 2 (R190, R191)
  let pe := fv g.pe
  let vs := rampRef (fv (a R.SYS_HO_SLEW_VDC)) tc s.rampVdc s.refVdc (a R.CCE_DCV_VSET)
  let vset := fv vs.1 + i.trimV
  let vref := vset + fv (a R.CCE_DCV_DROOP) * (pe - (fv (a R.CCE_DCV_PSET) + i.trimP))
  let errV := i.vdc - vref
  let dlim := fv (a R.CCE_DCV_PLIM)
  let want := fv s.intDcv - fv (a R.CCE_DCV_KP) * errV
  let intD := if s.dcvEntry then clamp (-dlim) dlim want else fv s.intDcv
  let pd := piCond (fv (a R.CCE_DCV_KP)) (fv (a R.CCE_DCV_KI)) dlim tc errV intD false
  let vdiv := max i.vdc (decConst (5 / 100))
  let ir := rampRef (fv (a R.SYS_HO_SLEW_P)) tc s.rampIdc s.refIdc 0
  let idc0 := if c.law = .statcom then fv ir.1 else (pe + pw.1) / vdiv
  let ilim := fv (a R.CCE_IDC_LIM)
  let idc1 := clamp (-ilim) ilim idc0
  let flt := fv (a R.CCE_DCF_ILIM)
  let idcRef := if dcf then clamp (-flt) flt idc1 else idc1
  let pref := if c.law = .dcv then pd.1 else if c.law = .statcom then -pw.1 else 0
  -- step 4 (R195, R196)
  let bl := fv (a R.CCE_BAL_ILIM)
  let epsJ (j : Nat) : Rat := fv (wAt s.filt (1 + j))
  let epsD (j : Nat) : Rat := fv (wAt s.filt (4 + j))
  let mean := (epsJ 0 + epsJ 1 + epsJ 2) / 3
  let hOn := bit (a R.CCE_CTRL) 5 && !noRef
  let vOn := bit (a R.CCE_CTRL) 4 && !noRef
  let hRaw (j : Nat) : Rat := fv (a R.CCE_HB_KP) * (mean - epsJ j) + fv (wAt s.intH j)
  let vRaw (j : Nat) : Rat := fv (a R.CCE_VB_KP) * epsD j + fv (wAt s.intV j)
  let dh (j : Nat) : Rat := if hOn then clamp (-bl) bl (hRaw j) else 0
  let dv (j : Nat) : Rat := if vOn then clamp (-bl) bl (vRaw j) else 0
  let hSat (j : Nat) : Bool := hOn && decide (bl < rabs (hRaw j))
  let vSat (j : Nat) : Bool := vOn && decide (bl < rabs (vRaw j))
  let cj (j : Nat) : Rat := cosR (fv go.thetaOut - (j : Rat) * 2 * piR / 3)
  let mh := (dh 0 + dh 1 + dh 2) / 3
  let mv := (dv 0 * cj 0 + dv 1 * cj 1 + dv 2 * cj 2) / 3
  let icRef (j : Nat) : Rat := idcRef / 3 + (dh j - mh) + (dv j * cj j - mv)
  let intH := forN 3 (fun j => if noRef || hold then wAt s.intH j else if !(bit (a R.CCE_CTRL) 5) then 0
    else if hSat j then wAt s.intH j else rnd (fv (wAt s.intH j) + fv (a R.CCE_HB_KI) * (mean - epsJ j) * tc))
  let intV := forN 3 (fun j => if noRef || hold then wAt s.intV j else if !(bit (a R.CCE_CTRL) 4) then 0
    else if vSat j then wAt s.intV j else rnd (fv (wAt s.intV j) + fv (a R.CCE_VB_KI) * epsD j * tc))
  -- step 5 (R197)
  let cl := fv (a R.CCE_CC_ULIM)
  let w2 := 4 * piR * i.fb * (1 + fv go.dwPll)
  let c2 := bit (a R.CCE_CTRL) 8
  let loop (j : Nat) : Rat × Word × Word × Word :=
    let err := icRef j - icirc i j
    let x1 := if c2 then fv (wAt s.ccX1 j) else 0
    let x2 := if c2 then fv (wAt s.ccX2 j) else 0
    let x1n := if c2 then x1 + tc * (fv (a R.CCE_CC_KR) * err - w2 * x2) else 0
    let x2n := if c2 then x2 + tc * w2 * x1n else 0
    let ci := fv (wAt s.ccI j)
    let v := fv (a R.CCE_CC_KP) * err + ci + x1n
    let lim := s.armLim.testBit (2 * j) || s.armLim.testBit (2 * j + 1)
    if cl < rabs v ∨ lim ∨ hold then
      (clamp (-cl) cl v, rnd ci, rnd x1, rnd x2)
    else (v, rnd (ci + fv (a R.CCE_CC_KI) * err * tc), rnd x1n, rnd x2n)
  let lp := forN 3 loop
  let vc (j : Nat) : Rat := (lp.getD j (0, 0, 0, 0)).1
  -- step 6 (R198, R199)
  let vd := if c.preset = 1 then fv vdcBefore else i.vdc
  let raw (n : Nat) : Rat :=
    let u := vd / 2 - vc (n / 2)
    let e := i.kac * fv (wAt go.vabc (n / 2))
    if n % 2 = 0 then u - e else u + e
  let m := fv (a R.CCE_ARM_MARGIN)
  let hiV (n : Nat) : Rat := m * ((armAt i.arms n).v / i.vBase)
  let loV (n : Nat) : Rat := -(m * ((armAt i.arms n).fb / i.vBase))
  let vArm := forN 6 (fun n => rnd (clamp (loV n) (hiV n) (raw n)))
  let limMap := bitmap 6 (fun n => decide (raw n < loV n) || decide (hiV n < raw n))
  -- step 7 (R200–R204)
  let oc := armOcMap a i
  let run := if dcf && decide (fld (a R.CCE_CTRL) 13 12 = 1) && decide (limMap ≠ 0) then s.clampRun + 1 else 0
  let block0 := dcf && decide (fld (a R.CCE_CTRL) 13 12 = 0) && (c.branch = some 1 || !s.dcfSeen || (i.c1Fired && !s.tblk))
  let block1 := decide (fld (a R.CCE_DCF_TIMING) 7 0 ≤ run) && dcf && decide (fld (a R.CCE_CTRL) 13 12 = 1)
  let block2 := c.mode = .frt && decide (oc ≠ 0)
  let t := s.tblk || block0 || block1 || block2
  let ires := fv (a R.CCE_DCF_IRES)
  let calm := decide (rabs (idcOf a i) ≤ ires) && (List.range 6).all (fun n => decide (rabs (i.iarm.getD n 0) ≤ ires)) && decide (fv (a R.CCE_DCF_VRES) ≤ i.vdc)
  let st : CceSt := { s with
    intW := if noRef then s.intW else rnd pw.2.1
    intDcv := if c.law = .dcv then rnd pd.2.1 else 0
    intH := intH, intV := intV
    ccI := lp.map (·.2.1), ccX1 := lp.map (·.2.2.1), ccX2 := lp.map (·.2.2.2)
    refVdc := if c.law = .dcv then vs.2.1 else s.refVdc, rampVdc := c.law = .dcv && vs.2.2
    refIdc := if c.law = .statcom then ir.2.1 else s.refIdc, rampIdc := c.law = .statcom && ir.2.2
    armLim := if t then 63 else limMap
    clampRun := run, tblk := t, tblkRun := if s.tblk && calm then s.tblkRun + 1 else 0
    dcfSeen := dcf, powerRef := rnd pref, preset := 0, dcvEntry := false }
  (st, { cceMeas a i with
    pW := rnd pw.1, idcRef := rnd idcRef, pref := rnd pref, vArm := vArm, armOc := oc, armLim := if t then 63 else limMap
    presetClamped := s.dcvEntry && c.law = .dcv && decide (dlim < rabs want), dcf := dcf, wSat := pw.2.2, balSat := (List.range 3).any (fun j => hSat j || vSat j)
    law := if c.law = .dcv then 3 else if c.law = .statcom then 4 else 2 })

/-- The active power limit the CCE imposes on the GFE (R161, R200). -/
def dcfLimit (a : Nat → Word) (c : GfeCtx) (causeDc : Bool) (vdc : Rat) : Option Rat :=
  if dcfActive c causeDc then some (max vdc 0 * fv (a R.CCE_DCF_ILIM)) else none

end Sys2Proof.Machine
end

