-- ==== Sys2Proof/Machine/Svi.lean ====
section
/-! DEFINITION. Sampled-value streams (R392–R399): matching, ASDUs, interpolation at SYNC. -/
namespace Sys2Proof.Machine

/-- Stream `s`. -/
def Dev.stream (d : Dev) (s : Nat) : SvStream := nth d.svi s {}
/-- Replace stream `s`. -/
def Dev.setStream (d : Dev) (s : Nat) (x : SvStream) : Dev := { d with svi := setAt d.svi s x }

/-- The svID octets of a stream (R399). -/
def Dev.svid (d : Dev) (s : Nat) : List Nat :=
  (((List.range 16).map (fun w => leBytes 4 (d.act (R.SVI_STRs_SVIDw s w)).toNat)).flatten).take (d.afld (R.SVI_STRs_CFG s) 6 0)

/-- A frame belongs to stream `s` (R392). -/
def Dev.svMatch (d : Dev) (f : SvFrame) (s : Nat) : Bool :=
  d.mode != .boot && d.abit R.SVI_CTRL s && d.domOn 6 && decide (f.eth.port < 4) && (d.afld (R.SVI_STRs_CFG s) 31 28).testBit f.eth.port
    && f.appid == d.afld (R.SVI_STRs_APPID s) 15 0 && f.svid == d.svid s && !f.simulated && !f.secured

/-- A sample time as (second, count), the latest instant at or before `rx` with that count (R394). -/
def sampleSec (rate cnt rx : Nat) : Nat := if cnt * secU ≤ (rx % secU) * rate then rx / secU else rx / secU - 1

/-- Sample time `(s, c)` of a rate in units of 1/(rate · rate') s, for comparing samples of two rates. -/
def SvSample.later (a b : SvSample) : Bool := decide ((b.sec * b.rate + b.cnt) * a.rate < (a.sec * a.rate + a.cnt) * b.rate)

/-- Insert a sample, newest first. -/
def svInsert (x : SvSample) : List SvSample → List SvSample
  | [] => [x]
  | y :: ys => if y.later x then y :: svInsert x ys else x :: y :: ys

/-- A value of an ASDU is valid (R395); validity is bits [1:0] and test bit 11 of the quality word. -/
def Dev.svValid (d : Dev) (s synch : Nat) (q : Word) : Bool :=
  fld q 1 0 == 0 && (!(bit q 11) || d.mode == .service) && (!(d.abit (R.SVI_STRs_RATE s) 24) || synch == 2)

/-- An ASDU of this sample time was received (R396): at another rate the same instant has another count. -/
def SvStream.hasSeen (x : SvStream) (sec cnt rate : Nat) : Bool := x.seen.any (fun p => p.1 == sec && p.2.1 * rate == cnt * p.2.2)

/-- The sample of latest sample time among the values of a stream: t3 (R397, R399). -/
def SvStream.third (x : SvStream) (nval : Nat) : Option SvSample :=
  ((x.vals.take nval).filterMap List.head?).foldl (fun m c => match m with
    | some b => if c.later b then some c else some b
    | none => some c) none

/-- Take one ASDU of a frame received at station time `rx` (R393, R394, R395, R396). -/
def Dev.svAsdu (d : Dev) (s rx : Nat) (a : Asdu) : Dev :=
  let x := d.stream s
  let rate := d.afld (R.SVI_STRs_RATE s) 16 0
  let nval := d.afld (R.SVI_STRs_CFG s) 27 24
  if a.vals.length < nval ∨ rate ≤ a.smpCnt then d.setStream s { x with disc := sat32 x.disc 1 }
  else
    let sec := sampleSec rate a.smpCnt rx
    if x.hasSeen sec a.smpCnt rate then d.setStream s { x with dup := sat32 x.dup 1 }
    else
      let ahead : Int := match x.last with
        | some (s0, c0, r0, _) => if r0 = rate then ((sec * rate + a.smpCnt : Nat) : Int) - ((s0 * rate + c0 : Nat) : Int) else 1
        | none => 1
      let vals := forN 8 (fun v =>
        let l := nth x.vals v []
        match a.vals[v]? with
        | some (y, q) => if v < nval ∧ d.svValid s a.smpSynch q then (svInsert ⟨sec, a.smpCnt, rate, signed 32 y.toNat, a.smpSynch⟩ l).take 3 else l
        | none => l)
      d.setStream s { x with vals := vals, seen := (sec, a.smpCnt, rate) :: x.seen.filter (fun p => decide (tSec d.tmb.now < p.1 + 3))
                             gap := sat32 x.gap (ahead - 1).toNat
                             last := if 0 < ahead then some (sec, a.smpCnt, rate, a.smpSynch) else x.last }

/-- A matched frame carries 1 to 8 ASDUs; any further one is discarded (R393). -/
def Dev.svFrame (d : Dev) (s : Nat) (f : SvFrame) : Dev :=
  let d1 := (f.asdus.take 8).foldl (fun y a => y.svAsdu s (d.rxStamp f.eth.port f.eth.cyc) a) d
  let more := f.asdus.length - 8
  if more = 0 then d1 else d1.setStream s { d1.stream s with disc := sat32 (d1.stream s).disc more }

/-- Sample time in seconds. -/
def SvSample.time (a : SvSample) : Rat := (a.sec : Rat) + (a.cnt : Rat) / (a.rate : Rat)

/-- The value of three samples at SYNC k (R397, R398); none when it is not valid. -/
def svInterp (scale : Rat) (maxAge : Rat) (t : Rat) : List SvSample → Option Rat
  | c :: b :: a :: _ =>
    let t1 := a.time; let t2 := b.time; let t3 := c.time
    let y1 := (a.y : Rat) * scale; let y2 := (b.y : Rat) * scale; let y3 := (c.y : Rat) * scale
    if maxAge < t - t3 then none
    else some (y1 * (t - t2) * (t - t3) / ((t1 - t2) * (t1 - t3)) + y2 * (t - t1) * (t - t3) / ((t2 - t1) * (t2 - t3))
      + y3 * (t - t1) * (t - t2) / ((t3 - t1) * (t3 - t2)))
  | _ => none

/-- The values of every stream for the SYNC of the epoch (R397, R398). -/
def Dev.sviNewEpoch (d : Dev) : Dev :=
  let t : Rat := (d.tmb.sync : Rat) / (secU : Rat)
  { d with svi := forN 16 (fun s =>
      let x := d.stream s
      if !(d.abit R.SVI_CTRL s) || !d.domOn 6 then { x with ok := 0 }
      else
        let cfg := d.act (R.SVI_STRs_CFG s)
        let rate := d.act (R.SVI_STRs_RATE s)
        let age : Rat := (fld rate 31 28 : Rat) / (fld rate 16 0 : Rat)
        let vs := forN 8 (fun v => if v < fld cfg 27 24 then
          svInterp (if (fld cfg 23 16).testBit v then 1 / 100 else 1 / 1000) age t (nth x.vals v []) else none)
        { x with ok := bitmap 8 (fun v => (nth vs v none).isSome)
                 out := forN 8 (fun v => match nth vs v none with | some y => rnd y | none => wAt x.out v)
                 smp3 := ((x.third (fld cfg 27 24)).map (·.cnt)).getD x.smp3, synch3 := ((x.third (fld cfg 27 24)).map (·.synch)).getD x.synch3
                 age := match x.third (fld cfg 27 24) with
                   | some c => min 0xFFFFFFFF ((t - c.time) * 1000000000).floor.toNat
                   | none => x.age }) }

/-- Value `i` = 8·s + v as a source (R401). -/
def Dev.sviValue (d : Dev) (i : Nat) : Option Rat :=
  let x := d.stream (i / 8)
  if x.ok.testBit (i % 8) then some (fv (wAt x.out (i % 8))) else none

end Sys2Proof.Machine
end

