-- ==== Sys2Proof/Machine/Mcd.lean ====
section
/-! DEFINITION. Measurement conditioning (R400–R412): inputs, components, frequency, RMS, rate of change of frequency. -/
namespace Sys2Proof.Machine

/-- AC peak phase voltage in volts (R17). -/
def Dev.vacBase (d : Dev) : Rat := 1000 * sqrt2 * d.aval R.MCD_BASE_VAC / sqrt3
/-- AC peak phase current in amperes (R17). -/
def Dev.iacBase (d : Dev) : Rat := 1000 * sqrt2 * d.aval R.MCD_BASE_S / (sqrt3 * d.aval R.MCD_BASE_VAC)

/-- The base of an input (R400). -/
def Dev.inputBase (d : Dev) (m : Nat) : Rat :=
  if m < 12 then d.vacBase else if m < 15 then d.iacBase else if m < 17 then 1000 * d.aval R.MCD_BASE_VDC else d.idcBase

/-- The value a measurement node reported for the epoch before (R401, R403). -/
def Dev.measNode (d : Dev) (i : Nat) : Option Rat :=
  match findNode d.ikl.nodes (0x1200 + i) with
  | some e => match e.prevValue with
    | some v => if e.adm = 1 then some ((v : Rat) * (e.mant : Rat) * (if (signed 6 e.exp) < 0 then 1 / ((10 : Rat) ^ (-(signed 6 e.exp)).toNat) else (10 : Rat) ^ (signed 6 e.exp).toNat)) else none
    | none => none
  | none => none

/-- A source code of R401: its value before scaling when valid. -/
def Dev.source (d : Dev) (code : Nat) : Option Rat :=
  let i := code % 4096
  match code / 4096 with
  | 1 => if i < 48 then d.adcChannel i else none
  | 2 => if i < 128 then d.sviValue i else none
  | 3 => if i < 64 then d.measNode i else none
  | _ => none

/-- Conditioning input `m` in the epoch (R401, R402); INVALID is set by `inputInvalid`. -/
def Dev.mcdInput (d : Dev) (m : Nat) (x : McdIn) : McdIn :=
  let w := d.act (R.MCD_INm_SRC m)
  let pri := d.source (fld w 15 0)
  let alt := d.source (fld w 31 16)
  match pri.orElse (fun _ => alt) with
  | some v => { val := rnd (qdiv (d.aval (R.MCD_INm_GAIN m) * v + d.aval (R.MCD_INm_OFS m)) (d.inputBase m)), hold := 0, invalid := false, alt := pri.isNone, held := false }
  | none => { x with hold := sat16 x.hold 1, held := true, alt := false }

/-- After HOLD_EP consecutive held epochs an input is INVALID (R401). -/
def Dev.markInvalid (d : Dev) (x : McdIn) : McdIn := if d.afld R.MCD_TIMING 15 0 ≤ x.hold then { x with invalid := true } else x

/-- The inputs of set `s` (V0–V3, I0, DC) (R400, R406). -/
def Dev.setInputs (d : Dev) (s : Nat) : List Nat :=
  if s < 4 then [3 * s, 3 * s + 1, 3 * s + 2] else if s = 4 then (if d.abit R.MCD_CTRL 8 then [12, 13, 14] else [18, 19, 20, 21, 22, 23])
  else [15, 16, 17, 18, 19, 20, 21, 22, 23]

/-- Set `s` is enabled (R411). -/
def Dev.setOn (d : Dev) (s : Nat) : Bool := s == 0 || decide (4 ≤ s) || d.abit R.MCD_CTRL s

/-- The quadrature filter after one epoch (R405): the filter, positive and negative sequence, and e_α·q_α + e_β·q_β. -/
def quadStep (wt : Rat) (al be : Rat) (f : McdFilt) : McdFilt × Cx × Cx × Rat :=
  let ea := al - fv f.ya
  let ya := rnd (fv f.ya + wt * (sqrt2 * ea - fv f.qa))
  let qa := rnd (fv f.qa + wt * fv ya)
  let eb := be - fv f.yb
  let yb := rnd (fv f.yb + wt * (sqrt2 * eb - fv f.qb))
  let qb := rnd (fv f.qb + wt * fv yb)
  ({ f with ya := ya, qa := qa, yb := yb, qb := qb }, ⟨(fv ya - fv qb) / 2, (fv qa + fv yb) / 2⟩, ⟨(fv ya + fv qb) / 2, (fv yb - fv qa) / 2⟩, ea * fv qa + eb * fv qb)

/-- Add a square to a history of at most `n` epochs (R407). -/
def sqPush (n : Nat) (x : Rat) (l : List Word) : List Word := (rnd (x * x) :: l).take n

/-- The RMS of a history (R407). -/
def rmsOf (l : List Word) : Rat := sqrtR (2 * meanW l)

/-- The rate of change of frequency (R408); 0 until 2·N_r epochs are available. -/
def rocof (nr : Nat) (tc : Rat) (l : List Word) : Rat :=
  if l.length < 2 * nr ∨ nr = 0 then 0 else (meanW (l.take nr) - meanW ((l.drop nr).take nr)) / ((nr : Rat) * tc)

/-- Replace quantities from index `lo` on. -/
def putQ (q : List Word) (lo : Nat) (vs : List Rat) : List Word := forN 88 (fun i => if lo ≤ i ∧ i < lo + vs.length then rnd (vs.getD (i - lo) 0) else wAt q i)

/-- One voltage set of phases `a`, `b`, `c` (R405–R408). -/
def Dev.mcdVset (d : Dev) (n nr : Nat) (s : Nat) (a b c : Rat) (x : McdSt) : McdSt :=
  let f := nth x.filt s {}
  let tc := d.tcs
  let (g, p, m, cross) := quadStep (2 * piR * d.aval R.MCD_BASE_F * fv f.wf * tc) ((2 * a - b - c) / 3) ((b - c) / sqrt3) f
  let hold := decide (cabs p < d.aval R.MCD_FLL_VMIN)
  let m2 := fv g.ya * fv g.ya + fv g.yb * fv g.yb + fv g.qa * fv g.qa + fv g.qb * fv g.qb
  let wf := if hold then f.wf
    else rnd (clamp (decConst (8 / 10)) (decConst (12 / 10)) (fv f.wf - qdiv (d.aval R.MCD_FLL_GAIN * tc * sqrt2 * fv f.wf * cross) m2))
  let ph := [a, b, c]
  let sq := forN 3 (fun j => sqPush n (ph.getD j 0) (nth f.sq j []))
  let wfs := (wf :: f.wfs).take (2 * nr)
  { x with filt := setAt x.filt s { g with wf := wf, flh := hold, sq := sq, wfs := wfs }
           q := putQ x.q (16 * s) ([p.re, p.im, m.re, m.im, (a + b + c) / 3, cabs p, cabs m, atan2R p.im p.re] ++ sq.map rmsOf ++ [fv wf, rocof nr tc wfs, 0, 0, 0]) }

/-- The current set I0 with the wf of V0 before its update and θ+ of V0 (R405, R406). -/
def Dev.mcdI0 (d : Dev) (n : Nat) (wf0 : Rat) (a b c : Rat) (x : McdSt) : McdSt :=
  let f := nth x.filt 4 {}
  let (g, p, m, _) := quadStep (2 * piR * d.aval R.MCD_BASE_F * wf0 * d.tcs) ((2 * a - b - c) / 3) ((b - c) / sqrt3) f
  let th := fv (wAt x.q 7)
  let dp := cmul p (cis (-th))
  let dn := cmul m (cis th)
  let ph := [a, b, c]
  let sq := forN 3 (fun j => sqPush n (ph.getD j 0) (nth f.sq j []))
  { x with filt := setAt x.filt 4 { g with sq := sq }
           q := putQ x.q 64 ([p.re, p.im, m.re, m.im, (a + b + c) / 3, cabs p, cabs m, dp.re, dp.im, dn.re, dn.im] ++ sq.map rmsOf) }

/-- N of R407 and N_r of R408. -/
def Dev.mcdN (d : Dev) : Nat := (qdiv 1 (d.aval R.MCD_BASE_F * d.tcs) + 1 / 2).floor.toNat
/-- N_r of R408. -/
def Dev.mcdNr (d : Dev) : Nat := (qdiv ((d.afld R.MCD_TIMING 31 16 : Rat) / 1000) d.tcs + 1 / 2).floor.toNat

/-- The means restart when N or N_r changes (R409). -/
def McdSt.restart (n nr : Nat) (x : McdSt) : McdSt :=
  { x with n := n, nr := nr, filt := x.filt.map (fun f => { f with sq := if x.n = n then f.sq else [[], [], []], wfs := if x.nr = nr then f.wfs else [] }) }

/-- The whole of conditioning for the epoch (R401–R410). -/
def Dev.mcdEval (d : Dev) : McdSt :=
  let x0 := d.mcd.st.restart d.mcdN d.mcdNr
  let ins := forN 24 (fun m => d.markInvalid (d.mcdInput m (nth x0.ins m {})))
  let v (m : Nat) : Rat := fv (nth ins m {}).val
  let inv := forN 6 (fun s => d.setOn s && (d.setInputs s).any (fun m => (nth ins m {}).invalid))
  let ok (s : Nat) : Bool := d.setOn s && !(nth inv s false)
  let wf0 := fv (nth x0.filt 0 {}).wf
  let x1 : McdSt := { x0 with ins := ins, inv := inv }
  let x2 := (List.range 4).foldl (fun x s => if ok s then d.mcdVset d.mcdN d.mcdNr s (v (3 * s)) (v (3 * s + 1)) (v (3 * s + 2)) x else x) x1
  let k := qdiv d.idcBase d.iacBase
  let ph (j : Nat) : Rat := if d.abit R.MCD_CTRL 8 then v (12 + j) else (v (18 + 2 * j) - v (19 + 2 * j)) * k
  let x3 := if ok 4 then d.mcdI0 d.mcdN wf0 (ph 0) (ph 1) (ph 2) x2 else x2
  if ok 5 then { x3 with q := putQ x3.q 78 ([v 15, v 16, v 15 - v 16, v 17] ++ forN 6 (fun n => v (18 + n))) } else x3

/-- Events of sets that become invalid (R404). -/
def Dev.mcdEvents (d : Dev) (before after : List Bool) : Dev :=
  (List.range 6).foldl (fun y s => if nth after s false && !(nth before s false) then y.raise Sub.mcd s R.MCD_STATUS (2 ^ (31 - s)) [] else y) d

/-- Conditioning runs once an epoch, after the last regular result or the ADC cut-off (R377); ledgers that waited for the arm currents complete (R261, R266). -/
def Dev.condition (d : Dev) : Dev :=
  if d.mode == .boot || d.mcd.next.isSome || !(d.adcDone || d.adc.cut) then d
  else
    let x := d.mcdEval
    (({ d with mcd := { d.mcd with next := some x } }).mcdEvents d.mcd.st.inv x.inv).completeReady

/-- An input held for HOLD_EP epochs becomes INVALID and its sets with it (R401, R404). -/
def Dev.inputInvalid (d : Dev) (m : Nat) : Dev :=
  let upd (x : McdSt) : McdSt :=
    let ins := modAt x.ins m d.markInvalid
    { x with ins := ins, inv := forN 6 (fun s => nth x.inv s false || (d.setOn s && (d.setInputs s).any (fun j => (nth ins j {}).invalid))) }
  match d.mcd.next with
  | some x => ({ d with mcd := { d.mcd with next := some (upd x) } }).mcdEvents x.inv (upd x).inv
  | none => ({ d with mcd := { d.mcd with st := upd d.mcd.st } }).mcdEvents d.mcd.st.inv (upd d.mcd.st).inv

/-- The boundary takes conditioning over (R241). -/
def Dev.mcdTake (d : Dev) : Dev := { d with mcd := { st := d.mcdNow, next := none } }

end Sys2Proof.Machine
end

