-- ==== Sys2Proof/Machine/Ddp.lean ====
section
/-! DEFINITION. Direct-drive outputs and chopper protection (R458–R483): sources, dead time, blanking, trips, forcing, off-state test, chopper controller. -/
namespace Sys2Proof.Machine

/-- Pair `n`. -/
def Dev.pair (d : Dev) (n : Nat) : Pair := nth d.ddp.pairs n {}
/-- Replace pair `n`. -/
def Dev.setPair (d : Dev) (n : Nat) (p : Pair) : Dev := { d with ddp := { d.ddp with pairs := setAt d.ddp.pairs n p } }
/-- Configuration of pair `n`. -/
def Dev.pairCfg (d : Dev) (n : Nat) : Word := d.act (R.DDP_PAIRn_CFG n)

/-- Every output is held off by the pull-downs (R460). -/
def Dev.ddHeld (d : Dev) : Bool := d.pwr.porb || !d.domOn 7 || d.mode == .boot

/-- The level of a source for output H (or L) of pair `n` (R464). -/
def Dev.srcLevel (d : Dev) (n code : Nat) (low : Bool) : Bool :=
  if code = 1 then d.abit R.DDP_HOST (if low then 16 + n else n)
  else if code = 2 then d.ddp.chop
  else if 4 ≤ code ∧ code ≤ 11 then d.ttLevel (code - 4) else false

/-- The commands of pair `n`: H and L (R463). -/
def Dev.pairCmd (d : Dev) (n : Nat) : Bool × Bool :=
  let cfg := d.pairCfg n
  let h := d.srcLevel n (fld cfg 23 20) false
  if fld cfg 29 28 = 1 then (h, !h) else if fld cfg 29 28 = 2 then (h, d.srcLevel n (fld cfg 19 16) true) else (false, false)

/-- Both outputs off at elapsed time `t`. -/
def Pair.off (p : Pair) (t : Nat) : Pair :=
  { p with h := false, l := false, offH := if p.h then t else p.offH, offL := if p.l then t else p.offL, blankEnd := none }

/-- The role of the epoch is neither ACTIVE nor SOLO (R473). -/
def Dev.roleOff (d : Dev) : Bool := !(d.rdn.role == 0 || d.rdn.role == 1)

/-- Pair `n` is forced off (R473), by the active BLK_OFF and ACT_ONLY. -/
def Dev.forced (d : Dev) (n : Nat) : Bool :=
  (d.ddp.blk && bit (d.pairCfg n) 27) || d.ddp.loss || (d.roleOff && bit (d.pairCfg n) 26) || d.ddp.uvlo

/-- The desaturation count has reached DS_FILT (R469). -/
def Pair.desatDue (cfg : Word) (t : Nat) (p : Pair) : Bool :=
  match p.dsFrom with
  | none => false
  | some f =>
    let start := max f (p.blankEnd.getD f)
    (p.h || p.l) && decide (start + (fld cfg 11 6 - 1) * 5 * nsU ≤ t)

/-- HOCn is at its active level (R470). -/
def Pair.hocOn (cfg : Word) (p : Pair) : Bool := p.hoc != bit cfg 24

/-- The cause bits of the tripped pairs, four bits a pair, eight pairs a word, in the order given (DESIGN CHOICE, log 100). -/
def tripCauses : List Pair → Nat
  | [] => 0
  | p :: ps => 4 * b2n p.conflict + 2 * b2n p.desat + b2n p.hocTrip + 16 * tripCauses ps

/-- Raise the trip event of this tick, one for all pairs that trip on it (R472). -/
def Dev.tripEvent (d : Dev) : Dev :=
  let t := d.stampNow
  let map := bitmap 12 (fun n => (d.pair n).tripAt == some t)
  let causes := tripCauses (((List.range 12).filter (fun n => map.testBit n)).map d.pair)
  let mine (e : Ev) : Bool := e.stamp == t && e.subsys == Sub.ddp && e.ref == R.DDP_TRIP_STICKY
  let had := d.pci.evq.any mine
  let d1 := { d with pci := { d.pci with evq := d.pci.evq.filter (fun e => !(mine e)) } }
  let d2 := d1.raise Sub.ddp ((firstN 12 (fun n => map.testBit n)).getD 0) R.DDP_TRIP_STICKY map [word map, lo32 causes, hi32 causes]
  if had then d2 else d2.trigger 4 20 t d2.tmb.epoch

/-- A pair trips (R467, R469–R471): causes conflict, desaturation, overcurrent. -/
def Dev.tripPair (d : Dev) (n : Nat) (c ds hoc : Bool) : Dev :=
  let p := (d.pair n).off d.tmb.up
  let q := { p with st := 3, conflict := p.conflict || c, desat := p.desat || ds, hocTrip := p.hocTrip || hoc
                    trips := sat16 p.trips 1, tripNs := tNs d.stampNow, tripAt := some d.stampNow }
  ((d.setPair n q).setSticky R.DDP_TRIP_STICKY (word (2 ^ n))).tripEvent

/-- Drive the outputs of an ENABLED pair from its commands (R465, R468). -/
def Pair.drive (cfg : Word) (t : Nat) (cH cL : Bool) (p : Pair) : Pair :=
  let dead := 1000 * 2 ^ fld cfg 31 30 * nsU
  let h := p.h && cH
  let l := p.l && cL
  let offH := if p.h && !cH then t else p.offH
  let offL := if p.l && !cL then t else p.offL
  let onH := cH && !h && !l && decide (offL + dead ≤ t)
  let onL := cL && !l && !h && !onH && decide (offH + dead ≤ t)
  { p with h := h || onH, l := l || onL, offH := offH, offL := offL, cmdH := cH, cmdL := cL
           blankEnd := if onH || onL then some (t + fld cfg 15 12 * 500 * nsU) else if h || l then p.blankEnd else none }

/-- One tick of a pair, in the order of R466. -/
def Dev.pairTick (d : Dev) (n : Nat) : Dev :=
  let p := d.pair n
  let cfg := d.pairCfg n
  let t := d.tmb.up
  let c := d.pairCmd n
  if p.st ≠ 2 then d.setPair n { p.off t with cmdH := c.1, cmdL := c.2 }
  else
    let hoc := p.hocOn cfg
    let ds := p.desatDue cfg t
    let conf := decide (fld cfg 29 28 = 2) && c.1 && c.2
    if hoc || ds || conf then d.tripPair n conf ds hoc
    else if d.ddHeld || d.forced n then d.setPair n { p.off t with cmdH := c.1, cmdL := c.2 }
    else d.setPair n (p.drive cfg t c.1 c.2)

/-- Every pair. -/
def Dev.ddpTick (d : Dev) : Dev := (List.range 12).foldl Dev.pairTick d

/-- HOCn active (R470): a trip in the tick, whatever the outputs. -/
def Dev.hocActive (d : Dev) (n : Nat) : Dev := (d.setPair n { d.pair n with hoc := !bit (d.pairCfg n) 24 }).pairTick n
/-- HOCn inactive. -/
def Dev.hocInactive (d : Dev) (n : Nat) : Dev := d.setPair n { d.pair n with hoc := bit (d.pairCfg n) 24 }

/-- The level of DSn is held against DS_POL of a configuration word (R469). -/
def Pair.dsAgain (cfg : Word) (t : Nat) (p : Pair) : Pair := { p with dsFrom := if p.ds != bit cfg 25 then some t else none }

/-- DSn changes (R469): the level is active high or low by DS_POL. -/
def Dev.dsChange (d : Dev) (n : Nat) (level : Bool) : Dev :=
  (d.setPair n ({ d.pair n with ds := level }.dsAgain (d.pairCfg n) d.tmb.up)).pairTick n

/-- The blanking window closes (R468): DSn is counted from there. -/
def Dev.blankOver (d : Dev) (n : Nat) : Dev :=
  let p := d.pair n
  match p.blankEnd with
  | some e => if e ≤ d.tmb.up then (d.setPair n { p with blankEnd := none, dsFrom := p.dsFrom.map (max e) }).pairTick n else d
  | none => d

/-- The chopper on-time of the period ends (R479). -/
def Dev.chopOver (d : Dev) : Dev :=
  match d.ddp.chopEnd with
  | some t => if t ≤ d.tmb.up then { d with ddp := { d.ddp with chop := false, chopEnd := none } }.ddpTick else d
  | none => d

/-- Start the off-state test of an output, or find the next one (R475). -/
def Dev.testFrom (d : Dev) (n out : Nat) : Option TestRun :=
  let cfg := d.pairCfg n
  let comp := fld cfg 29 28 = 1
  let on (o : Nat) : Bool := decide comp || decide (fld cfg (23 - 4 * o) (20 - 4 * o) ≠ 0)
  if out = 0 ∧ on 0 then some ⟨0, 0, d.tmb.up + 50000 * nsU, 0⟩
  else if out ≤ 1 ∧ on 1 then some ⟨1, 0, d.tmb.up + 50000 * nsU, 0⟩ else none

/-- Begin a test now, or once undervoltage is over (R477). -/
def Dev.testBegin (d : Dev) (n : Nat) (only : Bool) : Dev :=
  let p := (d.pair n).off d.tmb.up
  let q := { p with st := if only then p.st else 1, testOnly := only, testDone := false, resH := 0, resL := 0, ohmH := 0, ohmL := 0, testWait := d.ddp.uvlo, test := none }
  if d.ddp.uvlo then d.setPair n q
  else let r := d.testFrom n 0; d.setPair n { q with test := r, testDone := r.isNone }

/-- The result of an output (R476): voltages in millivolts. -/
def testResult (cfg : Word) (vs vk vdd : Nat) : Nat :=
  if vdd < vk + 1000 then 3 else if min vs 8000 < fld cfg 15 0 then 1 else if fld cfg 31 16 < min vs 8000 ∨ 8000 ≤ vs then 2 else 0

/-- The test of pair `n` has its last result (R477). -/
def Dev.testFinish (d : Dev) (n : Nat) : Dev :=
  let p := { d.pair n with test := none }
  if p.testOnly then d.setPair n { p with testOnly := false }
  else if p.resH = 0 ∧ p.resL = 0 then d.setPair n { p with testDone := true }
  else (d.setPair n { p with st := 3, testFail := true }).raise Sub.ddp n (R.DDP_PAIRn_STAT n) 0x01000000 []

/-- A test phase ends (R475, R476). -/
def Dev.testPhase (d : Dev) (n mv vdd : Nat) : Dev :=
  let p := d.pair n
  match p.test with
  | none => d
  | some r =>
    if d.tmb.up < r.phaseEnd then d
    else if r.phase = 0 then d.setPair n { p with test := some { r with phase := 1, phaseEnd := r.phaseEnd + 50000 * nsU, vs := mv } }
    else
      let res := testResult (d.act R.DDP_TEST_CFG) r.vs mv vdd
      let ohm := min r.vs 8000
      let q := if r.out = 0 then { p with resH := res, ohmH := ohm } else { p with resL := res, ohmL := ohm }
      let nxt := if r.out = 0 then (d.testFrom n 1).map (fun x => { x with phaseEnd := r.phaseEnd + 50000 * nsU }) else none
      match nxt with
      | some x => d.setPair n { q with test := some x }
      | none => (d.setPair n q).testFinish n

/-- VDD_DD below 9.0 V (R461). -/
def Dev.uvloOn (d : Dev) : Dev :=
  if d.ddp.uvlo then d else ({ d with ddp := { d.ddp with uvlo := true } }.raise Sub.ddp 0 R.DDP_STATUS 0x80000000 []).ddpTick

/-- The dead time is counted from the release of forcing (R473). -/
def Dev.released (d o : Dev) : Dev :=
  (List.range 12).foldl (fun y n => if o.forced n && !(d.forced n) then y.setPair n { y.pair n with offH := y.tmb.up, offL := y.tmb.up } else y) d

/-- The hold of undervoltage is released; deferred tests begin (R461, R477). -/
def Dev.uvloOff (d : Dev) : Dev :=
  let d1 := ({ d with ddp := { d.ddp with uvlo := false } }).released d
  (List.range 12).foldl (fun y n => if (y.pair n).testWait then y.testBegin n (y.pair n).testOnly else y) d1

/-- A protective block cause other than CLOCK forces pairs with BLK_OFF; loss of lock forces every pair (R473). -/
def Dev.ddpForce (d : Dev) (loss : Bool) : Dev :=
  ({ d with ddp := { d.ddp with loss := d.ddp.loss || loss, blk := d.ddp.blk || !loss } }).ddpTick

/-- The trip latch clears (R473). -/
def Dev.ddpUnforce (d : Dev) : Dev :=
  ({ d with ddp := { d.ddp with blk := false, loss := d.ddp.loss && !d.clk.lock } }).released d

/-- Pairs whose test has ended with every result OK become ENABLED at the boundary (R462, R477); their outputs have been off throughout (R465). -/
def Dev.ddpEnable (d : Dev) : Dev :=
  { d with ddp := { d.ddp with pairs := d.ddp.pairs.map (fun (p : Pair) => if p.st = 1 ∧ p.testDone then { p with st := 2, testDone := false } else p) } }

/-- The pairs named by the requests that arrived before station time `b` (R65). -/
def pairsBefore (b : Nat) (rs : List (Nat × Nat)) : Nat := rs.foldl (fun m r => if r.1 < b then m ||| r.2 else m) 0

/-- The REENABLE and TEST requests of the epoch that ended at station time `b` (R474, R477). -/
def Dev.ddpBoundary (d : Dev) (b : Nat) : Dev :=
  let reen := pairsBefore b d.ddp.reen
  let tests := pairsBefore b d.ddp.tests
  let re (y : Dev) (n : Nat) : Dev :=
    let p := y.pair n
    if !(reen.testBit n) || p.st ≠ 3 then y
    else if p.hocOn (y.pairCfg n) then y.raise Sub.ddp n (R.DDP_PAIRn_STAT n) 0x02000000 [] else y.testBegin n false
  let te (y : Dev) (n : Nat) : Dev := if tests.testBit n && (y.pair n).st == 0 && (y.pair n).test.isNone then y.testBegin n true else y
  let d1 := (List.range 12).foldl te ((List.range 12).foldl re d)
  { d1 with ddp := { d1.ddp with reen := d1.ddp.reen.filter (fun r => !decide (r.1 < b)), tests := d1.ddp.tests.filter (fun r => !decide (r.1 < b)) } }

/-- The consequences of a commit for the pairs (R462, R469, R473, R474); `o` is the device before it. -/
def Dev.ddpCommitted (d o : Dev) : Dev :=
  let one (y : Dev) (n : Nat) : Dev :=
    let cfg := d.pairCfg n
    let p := if bit cfg 25 = bit (o.pairCfg n) 25 then y.pair n else (y.pair n).dsAgain cfg y.tmb.up
    let z := y.setPair n p
    if fld cfg 29 28 = 0 then
      (if p.st = 0 then z else z.setPair n { (p.off y.tmb.up) with st := 0, test := none, testWait := false, testDone := false, conflict := false, desat := false, hocTrip := false, testFail := false })
    else if p.st = 0 then z.testBegin n false else z
  ((List.range 12).foldl one d).released o

/-- The chopper controller of the epoch that ends (R478–R480): duty for the next epoch and heat account. -/
def Dev.chopBoundary (d : Dev) : Dev :=
  let x := d.ddp
  let bad := nth d.mcdNow.inv 5 false
  if d.mode == .boot || !d.domOn 7 then d
  else if !(d.abit R.DDP_CHOP_CFG 0) then { d with ddp := { x with active := false, duty := 0, chopInv := false } }
  else
    let v := d.qty 80
    let von := d.aval R.DDP_CHOP_VON
    let voff := d.aval R.DDP_CHOP_VOFF
    let act := !bad && (if von ≤ v then true else if v < voff then false else x.active)
    let u : Word := if !act || x.thermal then 0 else if !(d.abit R.DDP_CHOP_CFG 1) then f32One
      else rnd (clamp 0 1 (qdiv (v - voff) (d.aval R.DDP_CHOP_VFULL - voff)))
    let h := rnd (fv x.heat * (1 - d.tcs / d.aval R.DDP_CHOP_TAU) + fv x.dutyCur * v * v * d.tcs)
    let hmax := d.aval R.DDP_CHOP_HMAX
    let th := if x.thermal then decide (decConst (9 / 10) * hmax ≤ fv h) else decide (hmax ≤ fv h)
    let d1 := { d with ddp := { x with active := act, chopInv := bad, duty := u, heat := h, thermal := th, onCnt := if 0 < fv u then sat32 x.onCnt 1 else x.onCnt } }
    if th && !x.thermal then d1.raise Sub.ddp 0 R.DDP_CHOP_STATUS 0x40000000 [] else d1

/-- The duty decided takes effect at SYNC (R479). -/
def Dev.chopNewEpoch (d : Dev) : Dev :=
  let x := d.ddp
  let ticks := (fv x.duty * (d.cycles : Rat) / 12 + 1 / 2).floor.toNat
  { d with ddp := { x with dutyCur := x.duty, chop := decide (0 < ticks)
                           chopEnd := if ticks = 0 ∨ 1 ≤ fv x.duty then none else some (d.tmb.syncUp + ticks * 5 * nsU) } }

end Sys2Proof.Machine
end

