-- ==== Sys2Proof/Machine/Ptp.lean ====
section
/-! DEFINITION. Precision time (R436–R444): two tracked domains, peer delay, path-delay steps, switch of the servo input, cross-check. -/
namespace Sys2Proof.Machine

/-- Domain `x`. -/
def Dev.dom (d : Dev) (x : Nat) : Dom := nth d.ptp.doms x {}
/-- Replace domain `x`. -/
def Dev.setDom (d : Dev) (x : Nat) (y : Dom) : Dev := { d with ptp := { d.ptp with doms := setAt d.ptp.doms x y } }
/-- A domain is enabled and its power domain on; PTP runs in every mode except BOOT (R73). -/
def Dev.domEn (d : Dev) (x : Nat) : Bool := decide (x < 2) && d.abit (R.PTP_DOMx_CFG x) 0 && d.domOn 6 && d.mode != .boot

/-- The mean of delays in 2⁻¹⁷ ns; 0 while there is none. -/
def meanI (l : List Int) : Rat := if l.isEmpty then 0 else ((l.sum : Int) : Rat) / (l.length : Rat)
/-- mpd_ref of a domain in ns (R438). -/
def Dom.mpdRef (y : Dom) : Rat := meanI y.hist / 131072

/-- LOCKED (R439). -/
def Dev.domLocked (d : Dev) (x : Nat) : Bool :=
  let y := d.dom x
  y.st == 2 && decide ((y.ofs.natAbs : Nat) < (d.act (R.PTP_DOMx_LOCK_LIM x)).toNat * 65536)

/-- Time units as 2⁻¹⁶ ns, rounded down. -/
def toNs16 (t : Int) : Int := t * 65536 / (nsU : Int)
/-- 2⁻¹⁶ ns as time units. -/
def ofNs16 (t : Int) : Int := t * (nsU : Int) / 65536

/-- The servo input: offset of the active domain less the remaining slew (R442), 2⁻¹⁶ ns. -/
def Dev.servo (d : Dev) : Int := (d.dom d.ptp.active).ofs - toNs16 d.ptp.rem

/-- Switch the servo input to domain `x` (R443). -/
def Dev.ptpSwitch (d : Dev) (x : Nat) : Dev :=
  if x = d.ptp.active then d
  else { d with ptp := { d.ptp with active := x, rem := ofNs16 ((d.dom x).ofs - d.servo), switches := sat16 d.ptp.switches 1 } }

/-- The automatic switch of R442. -/
def Dev.ptpAuto (d : Dev) : Dev :=
  let a := d.ptp.active
  if d.abit R.PTP_SEL 4 && (d.dom a).st != 2 && d.domLocked (1 - a) then d.ptpSwitch (1 - a) else d

/-- The time sample of a Sync (R534), dropped when there is no room (R517). -/
def Dev.timeSample (d : Dev) (x seq t2 : Nat) : Dev :=
  let y := d.dom x
  let q := d.afld R.PTP_CTRL 20 16
  let act := d.ptp.active == x && y.st == 2
  let w := [word (put 31 31 x + put 30 30 (b2n act) + put 29 28 y.st + put 27 27 (b2n (d.domLocked x)) + put 26 26 (b2n y.frozen) + put 15 0 seq),
    lo32 (wrapInt 64 y.ofs), hi32 (wrapInt 64 y.ofs), lo32 (tSec t2), hi32 (tSec t2), word (tNs t2), word (put 31 16 (tFrac t2)), rnd y.mpdRef,
    lo32 (wrapInt 64 d.servo), hi32 (wrapInt 64 d.servo), rnd ((d.ptp.rem : Rat) / (nsU : Rat))]
  if d.hasRoom q 1 then d.deliver q 4 [w] else d.setQueue q { d.queue q with drop := sat32 (d.queue q).drop 1 }

/-- The cross-check of the two domains (R444). -/
def Dev.crossCheck (d : Dev) : Dev :=
  if (d.dom 0).st ≠ 2 ∨ (d.dom 1).st ≠ 2 then d
  else
    let x := (d.dom 0).ofs - (d.dom 1).ofs
    let far := !d.ptp.xs.isEmpty && decide (((d.act R.PTP_XCHK_LIM).toNat : Rat) * 65536 < rabs ((x : Rat) - meanI d.ptp.xs))
    if far then (d.setSticky R.PTP_STATUS 0x20000000).raise Sub.ptp 0 R.PTP_STATUS 0x20000000 []
    else { d with ptp := { d.ptp with xs := (x :: d.ptp.xs).take 16 } }

/-- A Sync is used: offset, state, time sample (R438, R439). Times in time units, correction in 2⁻¹⁶ ns. -/
def Dev.useSync (d : Dev) (x seq t1 t2 : Nat) (corr : Int) : Dev :=
  let y := d.dom x
  let ofs := (((t2 : Nat) : Rat) - (t1 : Rat)) * 65536 / (nsU : Rat) - meanI y.hist / 2 - (corr : Rat)
  let z := { y with ofs := ofs.floor, st := if y.st = 3 then 3 else 2, lastSync := d.tmb.up, wait := none
                    frozen := y.frozen && !y.unfreeze, unfreeze := false }
  ((d.setDom x z).crossCheck.ptpAuto).timeSample x seq t2

/-- A domain takes a message of its port and number (R438). -/
def Dev.takes (d : Dev) (m : PtpMsg) (x : Nat) : Bool :=
  d.domEn x && m.eth.good && d.afld (R.PTP_DOMx_CFG x) 17 16 == m.eth.port && d.afld (R.PTP_DOMx_CFG x) 31 24 == m.domain

/-- A Sync message (R438). -/
def Dev.ptpSync (d : Dev) (m : PtpMsg) : Dev :=
  let t2 := d.rxStamp m.eth.port m.eth.cyc
  let one (y : Dev) (x : Nat) : Dev :=
    if !(y.takes m x) then y
    else if m.twoStep then y.setDom x { y.dom x with wait := some ⟨m.seq, t2, m.corr⟩ }
    else y.useSync x m.seq (tOf m.sec m.ns) t2 m.corr
  ((List.range 2).foldl one d).ethRx m.eth

/-- A Follow_Up message (R438). -/
def Dev.ptpFollow (d : Dev) (m : PtpMsg) : Dev :=
  let one (y : Dev) (x : Nat) : Dev :=
    match (y.dom x).wait with
    | some w => if y.takes m x && w.seq == m.seq then y.useSync x m.seq (tOf m.sec m.ns) w.t2 (w.corr + m.corr) else y
    | none => y
  ((List.range 2).foldl one d).ethRx m.eth

/-- No Sync used for SYNC_TO (R439). A SUSPECT domain leaves that state only by a command (R441). -/
def Dev.syncTimeout (d : Dev) (x : Nat) : Dev :=
  let y := d.dom x
  if d.domEn x && y.st == 2 && decide (y.lastSync + (d.act (R.PTP_DOMx_SYNC_TO x)).toNat * msU ≤ d.tmb.up) then (d.setDom x { y with st := 1 }).ptpAuto else d

/-- A peer-delay measurement of a domain, 2⁻¹⁷ ns (R440). -/
def Dev.measure (d : Dev) (x : Nat) (m : Int) : Dev :=
  let y := { d.dom x with mpd := m }
  let far := !y.hist.isEmpty && decide (((d.act (R.PTP_DOMx_ASYM_LIM x)).toNat : Rat) * 131072 < rabs ((m : Rat) - meanI y.hist))
  if y.st = 3 then d.setDom x { y with kept := (m :: y.kept).take 8 }
  else if !far then d.setDom x { y with hist := (m :: y.hist).take 8, cand := none, steps := if y.cand.isSome then sat16 y.steps 1 else y.steps }
  else match y.cand with
    | none => d.setDom x { y with cand := some m }
    | some c =>
      (((d.setDom x { y with cand := none, kept := [m, c], st := 3, frozen := true, unfreeze := false, steps := sat16 y.steps 1 }).raiseT
        8 24 Sub.ptp x (R.PTP_DOMx_STATE x) 0xF4000000 [])).ptpAuto

/-- Commands of a SUSPECT domain (R441). -/
def Dev.domCmd (d : Dev) (x : Nat) (accept : Bool) : Dev :=
  let y := d.dom x
  if y.st ≠ 3 then d
  else d.setDom x { y with st := 2, unfreeze := true, hist := if accept then y.kept else y.hist, kept := [], cand := none }

/-- A port's peer-delay engine. -/
def Dev.pdel (d : Dev) (p : Nat) : Pdel := nth d.ptp.ports p {}
/-- Replace it. -/
def Dev.setPdel (d : Dev) (p : Nat) (x : Pdel) : Dev := { d with ptp := { d.ptp with ports := setAt d.ptp.ports p x } }
/-- Peer delay runs in hardware on a port (R437). -/
def Dev.p2p (d : Dev) (p : Nat) : Bool := decide (p < 4) && d.abit R.PTP_CTRL p && d.domOn 6 && d.mode != .boot

/-- The clockIdentity of the answers (R437, R456). -/
def Dev.clockId (d : Dev) : Dword := BitVec.ofNat 64 ((d.act R.PTP_CLOCK_ID_HI).toNat * 2 ^ 32 + (d.act R.PTP_CLOCK_ID_LO).toNat)

/-- 2^LOG_PD s in time units (R437). -/
def Dev.pdInterval (d : Dev) : Nat :=
  let l := signed 4 (d.afld R.PTP_CTRL 27 24)
  if 0 ≤ l then secU * 2 ^ l.toNat else secU / 2 ^ (-l).toNat

/-- A Pdelay_Req is answered in two-step form (R437): the receive and transmit stamps of the answer. -/
def Dev.pdelayReq (d : Dev) (m : PtpMsg) : Dev :=
  let p := m.eth.port
  let d1 := if d.p2p p && m.eth.good then
      d.tookFree.setPdel p { d.pdel p with answered := sat32 (d.pdel p).answered 1, lastReq := some ⟨m.seq, d.clockId, d.rxStamp p m.eth.cyc, d.txStamp p⟩ } else d
  d1.ethRx m.eth

/-- A Pdelay_Req is sent (R437). -/
def Dev.pdelaySend (d : Dev) (p : Nat) : Dev :=
  let x := d.pdel p
  if !(d.p2p p) || decide (d.tmb.up < x.nextReq) then d
  else d.tookFree.setPdel p { x with seq := (x.seq + 1) % 65536, t1 := some (d.txStamp p), t2 := none, gaveUp := none, nextReq := d.tmb.up + d.pdInterval, sent := sat32 x.sent 1 }

/-- The request an arriving answer belongs to: the one in flight, or one whose timeout expired in this very instant, the arrival being evaluated first (R67). -/
def Dev.awaited (d : Dev) (p : Nat) : Pdel :=
  let x := d.pdel p
  match x.t1, x.gaveUp with
  | none, some (at_, t1) => if at_ = d.tmb.up then { x with t1 := some t1 } else x
  | _, _ => x

/-- A Pdelay_Resp gives t2 and t4 (R437). -/
def Dev.pdelayResp (d : Dev) (m : PtpMsg) : Dev :=
  let p := m.eth.port
  let x := d.awaited p
  let d1 := if d.p2p p && m.eth.good && x.t1.isSome && x.seq == m.seq then
      d.setPdel p { x with t2 := some (tOf m.sec m.ns), t4 := d.rxStamp p m.eth.cyc, corr := m.corr } else d
  d1.ethRx m.eth

/-- A Pdelay_Resp_Follow_Up completes the measurement (R437, R440). -/
def Dev.pdelayFollow (d : Dev) (m : PtpMsg) : Dev :=
  let p := m.eth.port
  let x := d.awaited p
  let d1 := match x.t1, x.t2 with
    | some t1, some t2 =>
      if d.p2p p && m.eth.good && x.seq == m.seq then
        let t3 := tOf m.sec m.ns
        let v := ((((x.t4 : Nat) : Int) - (t1 : Nat)) - (((t3 : Nat) : Int) - (t2 : Nat))) * 65536 / (nsU : Int) - 2 * (x.corr + m.corr)
        (List.range 2).foldl (fun (y : Dev) i => if y.domEn i && y.afld (R.PTP_DOMx_CFG i) 17 16 == p then y.measure i v else y)
          (d.setPdel p { x with t1 := none, t2 := none, gaveUp := none })
      else d
    | _, _ => d
  d1.ethRx m.eth

/-- The response has not come in time (R437). An answer that arrives in the same instant is still used (R67). -/
def Dev.pdelayTimeout (d : Dev) (p : Nat) : Dev :=
  match (d.pdel p).t1 with
  | some t1 => d.setPdel p { d.pdel p with t1 := none, gaveUp := some (d.tmb.up, t1) }
  | none => d

/-- The consequences of a commit: domains enabled and disabled, the selected domain (R439, R442). `o` is the device before it. -/
def Dev.ptpCommitted (d o : Dev) : Dev :=
  let one (y : Dev) (x : Nat) : Dev :=
    if !(y.abit (R.PTP_DOMx_CFG x) 0) then y.setDom x {}
    else if (y.dom x).st = 0 then y.setDom x { y.dom x with st := 1, lastSync := y.tmb.up } else y
  let d1 := (List.range 2).foldl one d
  (if d1.afld R.PTP_SEL 0 0 ≠ o.afld R.PTP_SEL 0 0 then d1.ptpSwitch (d1.afld R.PTP_SEL 0 0) else d1).ptpAuto

end Sys2Proof.Machine
end

