-- ==== Sys2Proof/Machine/Lpe.lean ====
section
/-! DEFINITION. The loop engine (R209–R221): one evaluation of one slot, and the pulse inputs. -/
namespace Sys2Proof.Machine

/-- The coefficients of a bank (R222). -/
structure Coef where
  kp : Rat
  ki : Rat
  kd : Rat
  tf : Rat
  b : Rat
  tt : Rat
  umin : Rat
  umax : Rat
deriving DecidableEq, Repr

/-- The coefficients of bank A or B of slot `n`. -/
def coefOf (a : Nat → Word) (n : Nat) (bankB : Bool) : Coef :=
  let o := if bankB then 0x20 else 0
  let g (k : Nat) : Rat := fv (a (R.LPE_SLOTn_KP_A n + o + 4 * k))
  ⟨g 0, g 1, g 2, g 3, g 4, g 5, g 6, g 7⟩

/-- The bank in use (R215): true for B. -/
def bankInUse (a : Nat → Word) (n : Nat) (frt : Bool) : Bool :=
  bit (a (R.LPE_SLOTn_CTRL n)) 29 || (bit (a (R.LPE_SLOTn_CTRL n)) 28 && frt)

/-- Scale a source (R210); kind 0 is taken as written. -/
def scaleSrc (kind : Nat) (gain ofs x : Rat) : Rat := if kind = 0 then x else gain * x + ofs

/-- One evaluation of an enabled slot with valid sources (R213–R219), with the bank in use since the boundary. `frozen` and `forced` are the latched FROZEN and
FORCED_MAN bits. Answers the slot and whether the window count has just exceeded COUNT (R220). -/
def slotEval (a : Nat → Word) (n epoch : Nat) (tc0 : Rat) (frozen forced : Bool) (sp pv : Rat) (s : Slot) : Slot × Bool :=
  let ctrl := a (R.LPE_SLOTn_CTRL n)
  let div := fld ctrl 9 0
  let tc := (div : Rat) * tc0
  let k := coefOf a n s.bank
  let e := sp - pv
  let p := k.kp * (k.b * sp - pv)
  let pvPrev := if s.first then pv else fv s.pvPrev
  let d := qdiv (k.tf * fv s.d - k.kd * (pv - pvPrev)) (k.tf + tc)
  let man := !(bit ctrl 30) || forced
  let i0 := if s.changed && bit ctrl 27 then fv s.u - p - d else fv s.i
  let i1 := if s.changed then clamp k.umin k.umax i0 else fv s.i
  let u0 := fv s.u
  let slew := fv (a (R.LPE_SLOTn_MAN_SLEW n))
  let tgt := fv (a (R.LPE_SLOTn_MAN n))
  let uMan := clamp k.umin k.umax (if slew = 0 then tgt else towards u0 tgt (slew * tc))
  let vAuto := p + i1 + d
  let rmax := fv (a (R.LPE_SLOTn_RMAX n))
  let uTgt := clamp k.umin k.umax vAuto
  let uAuto := if rmax = 0 then uTgt else towards u0 uTgt (rmax * tc)
  let u := if man then uMan else uAuto
  let v := if man then u else vAuto
  let i2 := if frozen then i1 else
    let x := i1 + k.ki * e * tc
    if 0 < k.tt then x + tc / k.tt * (u - v) else x
  let i := if man then clamp k.umin k.umax (u - p - d) else clamp k.umin k.umax i2
  -- oscillation detector (R218, R219)
  let win := fld (a (R.LPE_SLOTn_OSC_CFG n)) 31 16
  let newWin := decide (epoch % (win * div) = 0)
  let c0 := if newWin then 0 else s.count
  let rep0 := if newWin then false else s.reported
  let det := bit ctrl 24 && !man && decide (fv (a (R.LPE_SLOTn_OSC_AMP n)) < rabs e)
  let sgn := decide (e < 0)
  let c1 := if det then (match s.sign with | some z => if z = sgn then c0 else c0 + 1 | none => c0) else c0
  let trip := bit ctrl 24 && decide (fld (a (R.LPE_SLOTn_OSC_CFG n)) 7 0 < c1) && !rep0
  ({ s with u := rnd u, i := rnd i, d := rnd d, pvPrev := rnd pv, err := rnd e, first := false, changed := false
            sat := decide (rnd u ≠ rnd v), iSat := decide (i = k.umin) || decide (i = k.umax), srcInvalid := false
            sign := if det then some sgn else s.sign, count := c1, reported := rep0 || trip }, trip)

/-- An evaluation with an invalid source (R211): everything holds but the window (R219) and SRC_INVALID. -/
def slotInvalid (a : Nat → Word) (n epoch : Nat) (s : Slot) : Slot :=
  let ctrl := a (R.LPE_SLOTn_CTRL n)
  let newWin := decide (epoch % (fld (a (R.LPE_SLOTn_OSC_CFG n)) 31 16 * fld ctrl 9 0) = 0)
  { s with srcInvalid := true, count := if newWin then 0 else s.count, reported := if newWin then false else s.reported }

/-- The bank in use from SYNC on (R215), and whether the coefficients or limits in use changed at the boundary (R216); `o` are the active copies before it. A slot
enabled at the boundary starts with its bank. -/
def Slot.rebank (a o : Nat → Word) (n : Nat) (frt : Bool) (s : Slot) : Slot :=
  if !s.on then s
  else
    let bb := bankInUse a n frt
    let base := R.LPE_SLOTn_KP_A n + (if bb then 0x20 else 0)
    let moved := decide (s.bank ≠ bb) || (List.range 8).any (fun k => a (base + 4 * k) != o (base + 4 * k))
    { s with bank := bb, fresh := false, changed := s.changed || (!s.fresh && moved) }

/-- A change of the level of a pulse input pin at time `t` (R212): a start edge closes a cycle and opens the next. -/
def pulseEdge (enabled falling : Bool) (hz : Nat → Rat) (t : Nat) (level : Bool) (p : Pulse) : Pulse :=
  if level = p.level then p
  else if !enabled then { p with level := level, startAt := none, midAt := none }
  else
    let isStart := level != falling
    if !isStart then { p with level := level, midAt := some t }
    else
      let p1 := { p with level := level, startAt := some t, midAt := none, timedOut := p.timedOut }
      match p.startAt, p.midAt with
      | some t0, some m =>
        let cyc := t - t0
        let hi := if falling then t - m else m - t0
        { p1 with freq := rnd (hz cyc), duty := rnd (qdiv (hi : Rat) (cyc : Rat)), valid := true, timedOut := false }
      | _, _ => p1

end Sys2Proof.Machine
end

