-- ==== Sys2Proof/Machine/Protect.lean ====
section
/-! DEFINITION. The protective block and the trip latch (R128–R133), overruns (R33, R34), loss of lock (R424), arm nodes below the minimum (R283),
precharge faults (R105). -/
namespace Sys2Proof.Machine

/-- The bits of `SYS_TRIP_CAUSE` (R130). WATCHDOG is raised by a tick (log 94). -/
def Cause.overrun : Nat := 0
def Cause.emergency : Nat := 1
def Cause.clock : Nat := 2
def Cause.thermal : Nat := 3
def Cause.prechargeTimeout : Nat := 4
def Cause.prechargeFault : Nat := 5
def Cause.frtTimeout : Nat := 6
def Cause.armNodes : Nat := 8
def Cause.watchdog : Nat := 9
def Cause.redundancy : Nat := 10
def Cause.host : Nat := 11

/-- A cause of a protective block arises (R128, R339, R346, R473): it waits for the boundary; the emergency block goes out at once, except for CLOCK,
whose lanes have stopped, and FRT_TIMEOUT, whose block is sent at the boundary (R127); the claim becomes 0. -/
def Dev.raiseCause (d : Dev) (bit : Nat) : Dev :=
  if d.sys.raised.any (fun r => r.bit == bit) then d
  else
    let d1 := { d with sys := { d.sys with raised := d.sys.raised ++ [({ bit := bit, epoch := d.tmb.epoch, stamp := d.stampNow } : Raised)] }, rdn := { d.rdn with nextClaim := 0 } }
    let d2 := if bit = Cause.clock then d1.ddpForce true else d1.ddpForce false
    let d3 := if bit = Cause.clock ∨ bit = Cause.frtTimeout then d2 else d2.sendEblk bit
    d3.raiseT 0 16 Sub.sys 0 R.SYS_TRIP_CAUSE (2 ^ bit) [word bit]

/-- An arm whose usable nodes are below a non-zero minimum (R283). -/
def Dev.armShort (d : Dev) : Bool :=
  (List.range 6).any (fun n => decide ((nth d.mbe.arms n {}).nUsable < d.afld (R.MBE_ARMn_CFG n) 9 0))

/-- R283, on completed ledgers. -/
def Dev.armNodes (d : Dev) : Dev := if d.mode.energized && d.armShort then d.raiseCause Cause.armNodes else d

/-- The condition of a cause is still present (R130). -/
def Dev.causePresent (d : Dev) (bit : Nat) : Bool :=
  if bit = Cause.clock then !d.clk.lock else if bit = Cause.emergency then d.pins.emblkLow else if bit = Cause.thermal then d.thm.warn
  else if bit = Cause.armNodes then d.armShort else false

/-- The causes raised before station time `b`, the end of the epoch (R65). -/
def Sys.causesBefore (s : Sys) (b : Nat) : List Raised := s.raised.filter (fun r => decide (r.stamp < b))

/-- The clear requests received before station time `b`. -/
def Sys.clearsBefore (s : Sys) (b : Nat) : List (Nat × Option CompRef) := s.tripClears.filter (fun c => decide (c.1 < b))

/-- Boundary step 1 at station time `b` (R35, R128, R130, R131): causes latch, then clear requests act. -/
def Dev.protectStep (d : Dev) (b : Nat) : Dev :=
  let s := d.sys
  let rs := s.causesBefore b
  let cs := s.clearsBefore b
  let new := bitmap 12 (fun n => rs.any (fun r => r.bit == n))
  let latched := s.tripCause ||| new
  let kept := bitmap 12 (fun n => latched.testBit n && (cs.isEmpty || new.testBit n || d.causePresent n))
  let ep := match rs with
    | r :: _ => if s.tripCause = 0 then r.epoch else s.tripEpoch
    | [] => s.tripEpoch
  let d1 := { d with sys := { s with tripCause := kept, tripEpoch := ep, tripRefs := s.tripRefs.filter (fun c => !decide (c.1 < b))
                                     tripDone := (s.tripRefs.filter (fun c => decide (c.1 < b))).map (·.2) ++ cs.filterMap (·.2)
                                     tripClears := s.tripClears.filter (fun c => !decide (c.1 < b)), raised := s.raised.filter (fun r => !decide (r.stamp < b)) } }
  if latched ≠ 0 ∧ kept = 0 then d1.ddpUnforce else d1

/-- TRIP descriptors complete behind the digest of the epoch, with the epoch that begins (R519, R529). -/
def Dev.tripAnswers (d : Dev) (epoch : Nat) : Dev :=
  let s := d.sys
  s.tripDone.foldl (fun x r => x.complete r 0 1 epoch [word s.tripCause]) { d with sys := { s with tripDone := [] } }

/-- A clear request is received (R131). -/
def Dev.clearTrip (d : Dev) (r : Option CompRef) : Dev := { d with sys := { d.sys with tripClears := d.sys.tripClears ++ [(d.stampNow, r)] } }

/-- A third consecutive overrun (R34). -/
def Dev.overrunBlock (d : Dev) : Dev :=
  if 3 ≤ d.sys.overrunRun then ({ d with sys := { d.sys with overrunRun := 0 } }).raiseCause Cause.overrun else d

/-- The period is an overrun (R33, R344). -/
def Dev.overrun (d : Dev) : Dev :=
  let s := d.sys
  let d1 := { d with sys := { s with overruns := sat16 s.overruns 1, overrunRun := s.overrunRun + 1 }, rdn := { d.rdn with overrunAt := some d.tmb.up } }
  ((d1.setSticky R.SYS_OVERRUN 0x80000000).raiseT 6 22 Sub.sys 0 R.SYS_OVERRUN 0x80000000 []).overrunBlock

/-- PRECHARGE ends with a protective block (R105). -/
def Dev.prcAbort (d : Dev) (cause : Nat) : Dev :=
  if d.mode = .precharge ∧ d.prc.stage ≠ 4 then ({ d with prc := { d.prc with stage := 4 } }).raiseCause cause else d

/-- PRECHARGE has not reached DONE in time (R105). -/
def Dev.prcTimeout (d : Dev) : Dev :=
  if d.prc.stage ≠ 3 ∧ d.prc.entry + d.afld R.CCE_PRC_TIMEOUT 15 0 * secU ≤ d.tmb.up then d.prcAbort Cause.prechargeTimeout else d

/-- An admitted cell reports above VCELL × (1 + 2 × TOL) (R105). -/
def Dev.prcOver (d : Dev) : Dev :=
  let lim := d.afld R.CCE_PRC_VCELL 15 0 * (1000 + 2 * d.afld R.CCE_PRC_CTRL 7 0)
  if d.mbe.arms.any (fun a => a.cells.any (fun c => match c.got with | some v => decide (lim < v * 1000) | none => false)) then d.prcAbort Cause.prechargeFault else d

/-- Loss of PLL lock (R416, R422, R424). -/
def Dev.lossOfLock (d : Dev) : Dev :=
  if !d.clk.lock then d
  else
    let d1 := d.gatedChange
    let d2 := { d1 with clk := { d1.clk with lockLoss := sat16 d1.clk.lockLoss 1 } }
    (d2.raiseT 7 23 Sub.clk 0 R.CLK_STATUS 0x80000000 []).raiseCause Cause.clock

/-- `EMBLK_N` sampled low (R627). -/
def Dev.emblk (d : Dev) : Dev := ({ d with pins := { d.pins with emblkLow := true } }).raiseCause Cause.emergency

end Sys2Proof.Machine
end

