-- ==== Sys2Proof/Machine/Rae.lean ====
section
/-! DEFINITION. The engines of an epoch: inputs, the normal path and the branches C0–C3 (R138, R183, R224–R236), detectors (R227), selection (R237),
modulation (R268–R281), loop slots (R209–R221) and pulse inputs (R212). Path 0 is the normal path, path n + 1 branch Cn. -/
namespace Sys2Proof.Machine

-- Inputs ---------------------------------------------------------------------------------------------------------------

/-- A pair of conditioned quantities. -/
def Dev.qtyCx (d : Dev) (x : Nat) : Cx := ⟨d.qty x, d.qty (x + 1)⟩

/-- The inputs of the Terord engine in the epoch (R135, R171). -/
def Dev.gfeIn (d : Dev) : GfeIn :=
  let s := d.afld R.GFE_RESYNC_CFG 17 16
  let fb := d.aval R.MCD_BASE_F
  { tc := d.tcs, fb := fb, vPos := d.qtyCx 0, vNeg := d.qtyCx 2, iPos := d.qtyCx 64, iNeg := d.qtyCx 66, vMag := d.qty 5, vdc := d.qty 80
    syncAngle := d.qty (16 * s + 7), syncFreq := d.qty (16 * s + 11) * fb, syncV := d.qty (16 * s + 5)
    syncOk := s != 0 && d.setOn s && !(nth d.mcdNow.inv s false) }

/-- What MBE delivers with a completed ledger (R262), without the nodes of `skip` (R236). -/
def Arm.sums (skip : List Nat) (a : Arm) : ArmSum :=
  let u := a.cells.filter (fun c => c.usable && !(skip.contains c.addr))
  let v (c : Cell) : Rat := (c.volt : Rat) / 20
  ⟨u.length, (u.map v).sum, (u.map (fun c => v c * v c)).sum, ((u.filter (·.fb)).map v).sum⟩

/-- A trim of R194: the named slot's output as it stood at SYNC. -/
def Dev.trim (d : Dev) (en hi lo : Nat) : Rat :=
  let w := d.act R.CCE_DCV_TRIM
  let s := nth d.lpe.slots (fld w hi lo) {}
  if bit w en && s.on then fv s.u else 0

/-- The inputs of the CCE; branch C3 leaves the nodes `skip` of arm `arm` out. -/
def Dev.cceIn (d : Dev) (arm : Nat) (skip : List Nat) (c1 : Bool) : CceIn :=
  { tc := d.tcs, fb := d.aval R.MCD_BASE_F, vBase := 1000 * d.aval R.MCD_BASE_VDC, kac := qdiv (sqrt2 * d.aval R.MCD_BASE_VAC) (sqrt3 * d.aval R.MCD_BASE_VDC)
    arms := forN 6 (fun n => (nth d.mbe.arms n {}).sums (if n = arm then skip else [])), iarm := forN 6 (fun n => d.qty (82 + n))
    vdc := d.qty 80, idcCh := d.qty 81, trimV := d.trim 15 13 8, trimP := d.trim 31 29 24, c1Fired := c1 }

/-- The context of a path: the normal path, or the assumed event of a branch (R224). -/
def Dev.gfeCtx (d : Dev) (br : Option Nat) : GfeCtx :=
  let frt := decide (d.mode = .frt)
  let c : GfeCtx :=
    { mode := if br = some 0 ∨ br = some 1 then .frt else d.mode, law := d.law, causeAc := (frt && d.frt.causeAc) || br == some 0
      preset := d.gc.c.preset, src := d.gc.go, powerRef := fv d.gc.c.powerRef, clHold := decide (d.gc.c.armLim ≠ 0), plim := none, branch := br }
  { c with plim := dcfLimit d.act c (frt && d.frt.causeDc) (d.qty 80) }

-- Detectors ------------------------------------------------------------------------------------------------------------

/-- φ of C2 (R227): the angle of the positive-sequence voltage in the frame of the PLL angle predicted for SYNC k. -/
def Dev.phi (d : Dev) : Rat := let v := cmul (d.qtyCx 0) (cis (-(accAngle d.gc.g.pll))); atan2R v.im v.re

/-- Detector C0. -/
def Dev.c0 (d : Dev) : Bool :=
  let vref : Rat := if d.law = .blackstart then fv ((((nth d.rae.paths 0 none).map (·.g.ebs)).getD d.gc.g.ebs)) else 1
  let vneg := d.aval R.RAE_C0_VNEG
  decide (d.qty 5 < d.aval R.RAE_C0_VDIP * vref) || (decide (vneg ≠ 0) && decide (vneg < d.qty 6))

/-- Detector C1. -/
def Dev.c1 (d : Dev) : Bool :=
  let idc := rabs (idcOf d.act (d.cceIn 6 [] false))
  let pole := d.aval R.RAE_C1_VPOLE
  let rise := d.aval R.RAE_C1_DIDT
  (d.law != .statcom && (decide (d.qty 80 < d.aval R.RAE_C1_VUV) || (decide (pole ≠ 0) && (decide (rabs (d.qty 78) < pole) || decide (rabs (d.qty 79) < pole)))))
    || decide (d.aval R.RAE_C1_IOC < idc)
    || (decide (rise ≠ 0) && (match d.rae.prevIdc with | some w => decide (rise < qdiv (idc - rabs (fv w)) (1000 * d.tcs)) | none => false))

/-- Detector C2. -/
def Dev.c2 (d : Dev) : Bool :=
  let w := d.act R.RAE_C2_CFG
  d.abit R.RAE_CTRL 8 && !(decide (d.qty 5 < decConst ((d.afld R.GFE_BS_CTRL 15 8 : Rat) / 100))) &&
    (decide ((fld w 31 16 : Rat) * piR / 32768 < rabs d.phi) ||
      (decide (fld w 15 0 ≠ 0) && decide (decConst ((fld w 15 0 : Rat) / 100) < rabs (d.qty 12) * d.aval R.MCD_BASE_F)))

/-- The nodes of arm `n` that C3 counts as missing, and whether a criterion holds on the arm (R227). -/
def Dev.c3Arm (d : Dev) (n : Nat) : List Nat × Bool :=
  let a := nth d.mbe.arms n {}
  let late := a.missing
  let onLost := if d.abit R.RAE_C3_CFG 16 then a.cells.filter (fun c => (nth d.ikl.lanes c.lane {}).lostNow) else []
  let lane := (onLost.filter (fun c => c.st != 3 || c.cut)).map (·.addr)
  (late ++ lane.filter (fun x => !(late.contains x)), decide (d.afld R.RAE_C3_CFG 9 0 ≤ late.length) || !onLost.isEmpty)

/-- Detector C3 (R228, R229): the arm with the most missing nodes and those nodes. It is evaluated with the arm references (R226) and holds for the epoch. -/
def Dev.c3 (d : Dev) : Option (Nat × List Nat) :=
  if !(d.abit R.RAE_CTRL 9) then none
  else (List.range 6).foldl (fun best n =>
    let x := d.c3Arm n
    if !x.2 then best else match best with
      | some b => if b.2.length < x.1.length then some (n, x.1) else best
      | none => some (n, x.1)) none

/-- FIRED (R225, R230). -/
def Dev.firedMap (d : Dev) : Nat :=
  if d.mode.energized then put 0 0 (b2n d.c0) + put 1 1 (b2n d.c1) + put 2 2 (b2n d.c2) + put 3 3 (b2n d.rae.c3.isSome) else 0

/-- The enabled branches. -/
def Dev.brEn (d : Dev) : Nat := if d.mode.energized then d.afld R.RAE_CTRL 3 0 else 0

/-- The branch of a path. -/
def branchOf (p : Nat) : Option Nat := if p = 0 then none else some (p - 1)

-- GFE and CCE steps ----------------------------------------------------------------------------------------------------

/-- The terminals' phasors in place of the law's output while a temporary block holds (R202). -/
def GfeOut.terminals (o t : GfeOut) : GfeOut := { o with iLim := t.iLim, u := t.u, adv := t.adv }

/-- Steps 3 to 9 on one path (R138, R231, R232). -/
def Dev.gfePath (d : Dev) (i : GfeIn) (s0 s : GfeSt) (w : Rat) (p : Nat) : Path :=
  let br := branchOf p
  let (a0, a) : GfeSt × GfeSt :=
    if br = some 2 then
      let ph := angleAcc d.phi
      ({ s0 with pll := s0.pll + ph }, { s with pll := s.pll + ph, rsHold := 0 })
    else (s0, s)
  let r := gfeLaw d.act i (d.gfeCtx br) a0 a w
  let o := if d.gc.c.tblk then r.2.terminals (gfeIdle d.act i s0 s w).2 else r.2
  { g := r.1, go := o, c := d.gc.c, co := d.gc.co }

/-- The Terord engine's step on every path (R138, R139). -/
def Dev.gfeStep (d : Dev) : Dev :=
  if d.mode == .boot || d.mcd.next.isNone || (nth d.rae.paths 0 none).isSome then d
  else
    let i := d.gfeIn
    let s0 := d.gc.g
    let (s, w) := gfeFront d.act i s0
    let ps : List (Option Path) :=
      if d.mode.energized then forN 5 (fun p => if p = 0 ∨ d.brEn.testBit (p - 1) then some (d.gfePath i s0 s w p) else none)
      else
        let r := gfeIdle d.act i s0 s w
        [some { g := r.1, go := r.2, c := d.gc.c, co := d.gc.co }, none, none, none, none]
    { d with rae := { d.rae with paths := ps, front := nth ps 0 none } }

/-- Resynchronization is in step after HOLD_MS of epochs within tolerance (R173). -/
def Dev.resyncInStep (d : Dev) : Dev :=
  let g := d.gc.g
  let need := qdiv ((d.afld R.GFE_RESYNC_CFG 15 0 : Rat) / 1000) d.tcs
  if d.mode = .gfIsland ∧ d.abit R.GFE_RESYNC_CTRL 0 ∧ g.rsState = 1 ∧ need ≤ (g.rsHold : Rat) then { d with gc := { d.gc with g := { g with rsState := 2 } } } else d

/-- The CCE of a mode without a law: filter and measurements; the integrators are at zero (R183, R193). -/
def Dev.cceIdle (d : Dev) (i : CceIn) (s : CceSt) : CceSt × CceOut :=
  let pre := decide (d.mode = .precharge)
  ({ hist := s.hist, histN := s.histN, wfilt := s.wfilt, filt := s.filt },
   { cceMeas d.act i with armOc := if pre then armOcMap d.act i else 0, law := b2n pre })

/-- The ledgers of every arm are complete. -/
def Dev.ledgersDone (d : Dev) : Bool := (List.range 6).all (fun n => (nth d.mbe.arms n {}).complete)

/-- The event of arm overcurrent, once an epoch (R204). -/
def Dev.armOcEvent (d : Dev) (oc : Nat) : Dev :=
  if oc = 0 then d else d.raise Sub.cce ((firstN 6 oc.testBit).getD 0) R.CCE_STATUS (put 21 16 oc) []

/-- The converter control engine's step on every path, once the Terord engine has run and the ledgers are complete (R183, R235); on the
fallback clock the lanes are silent and no ledger is awaited (R420, DEDUCED). Branch C3 leaves the missing nodes out of the energies too (R236; DEDUCED, log 42). -/
def Dev.cceStep (d0 : Dev) : Dev :=
  let d := if d0.mode == .boot then d0 else d0.completeReady
  if d.mode == .boot || d.rae.front.isNone || !(d.ledgersDone || d.clk.fallback) then d
  else
    let i := d.cceIn 6 [] d.c1
    let c3 := d.c3
    let s := cceFilter d.act i d.gc.c
    let one (p : Nat) (x : Path) : Path :=
      if d.mode.energized then
        let ip := if p = 4 then (match c3 with | some m => d.cceIn m.1 m.2 i.c1Fired | none => i) else i
        let sp := if p = 4 then cceFilter d.act ip d.gc.c else s
        let r := cceLaw d.act ip (d.gfeCtx (branchOf p)) (decide (d.mode = .frt) && d.frt.causeDc) x.g x.go d.gc.co.vdc sp
        { x with c := r.1, co := r.2 }
      else let r := d.cceIdle i s; { x with c := r.1, co := r.2 }
    let ps : List (Option Path) := forN 5 (fun p => (nth d.rae.paths p none).map (one p))
    let d1 := { d with rae := { d.rae with paths := ps, front := none, c3 := c3 } }
    let oc : Nat := ((nth ps 0 none).map (fun (x : Path) => x.co.armOc)).getD 0
    let d2 := if d.mode = .precharge ∧ oc ≠ 0 then (d1.armOcEvent oc).prcAbort Cause.prechargeFault else d1
    d2.armNodes

/-- CLAMP_EP consecutive clamped epochs in CONTROL mode decide a temporary block (R200, R201). -/
def Dev.clampBlock (d : Dev) : Dev :=
  let f (c : CceSt) : CceSt :=
    if d.mode = .frt ∧ d.frt.causeDc ∧ d.afld R.CCE_CTRL 13 12 = 1 ∧ d.afld R.CCE_DCF_TIMING 7 0 ≤ c.clampRun then { c with tblk := true, armLim := 63 } else c
  { d with gc := { d.gc with c := f d.gc.c } }

/-- A temporary block ends with the deblock preset (R202). -/
def Dev.tblkRelease (d : Dev) : Dev :=
  let z : List Word := [0, 0, 0]
  let c := { d.gc.c with tblk := false, tblkRun := 0, armLim := 0, preset := 1, intH := z, intV := z, ccI := z, ccX1 := z, ccX2 := z }
  { d with gc := { d.gc with c := c, co := { d.gc.co with armLim := 0 } } }

/-- N consecutive epochs within the resume limits end a temporary block (R202). -/
def Dev.tblkEnd (d : Dev) : Dev :=
  if d.gc.c.tblk ∧ qdiv ((d.afld R.CCE_DCF_TIMING 31 16 : Rat) / 1000000) d.tcs ≤ (d.gc.c.tblkRun : Rat) then d.tblkRelease else d

-- Selection ------------------------------------------------------------------------------------------------------------

/-- The selected path of fixed priority C1, C0, C3, C2 (R237), as a SEL code. -/
def selectOf (can : Nat) : Nat := if can.testBit 1 then 2 else if can.testBit 0 then 1 else if can.testBit 3 then 4 else if can.testBit 2 then 3 else 0

/-- The branch selection point (R237, R238, R246). -/
def Dev.branchSelect (d : Dev) : Dev :=
  if d.mode == .boot || (nth d.rae.paths 0 none).isNone || d.rae.front.isSome || d.rae.selected then d
  else
    let f := d.firedMap
    let can := f &&& d.brEn
    let sel := selectOf can
    let sup := bitmap 4 (fun n => can.testBit n && decide (n + 1 ≠ sel))
    let arm := (d.rae.c3.map (·.1)).getD 0
    let c3arm := if f.testBit 3 then arm else 0
    let r := d.rae
    let d1 := { d with rae := { r with sel := sel, fired := f, computed := d.brEn, suppressed := sup, c3arm := c3arm, selected := true }
                       rdn := { d.rdn with c3At := if sel = 4 then some d.tmb.up else d.rdn.c3At } }
    let d2 := if f ≠ 0 ∧ !r.firedBefore then
        d1.raiseT 2 18 Sub.rae 0 R.RAE_STATUS 0 ([word f, word sup, word sel] ++ (if f.testBit 3 then [word c3arm] else [])) else d1
    if d.mode.energized then d2.armOcEvent (((nth r.paths sel none).map (·.co.armOc)).getD 0) else d2

/-- The selected path's result. -/
def Dev.selPath (d : Dev) : Option Path := nth d.rae.paths d.rae.sel none

-- Modulation -----------------------------------------------------------------------------------------------------------

/-- The number of cells the active stage of precharge inserts (R102): the most whose mean lies at or below the reference (DESIGN CHOICE, log 102: no count need
give the reference exactly). -/
def prcCount (vref : Rat) (a : Arm) : Nat :=
  let cs := (ranked (a.cells.filter Cell.usable)).map (fun c => (c.volt : Rat) / 20)
  (List.range (cs.length + 1)).foldl (fun m n => if decide ((cs.take n).sum ≤ (n : Rat) * vref) then n else m) 0

/-- A standby unit takes K, the bypass paths and the directions from the latest complete escrow (R280, R363). -/
def Dev.escK (d : Dev) (n : Nat) (a : Arm) : Arm :=
  match d.rdn.esc with
  | some e =>
    if d.rdn.role ≠ 2 then a
    else
      let w := nth e.arms n 0
      let neg := w.testBit 62
      { a with dir := w.testBit 63, neg := neg, ran := true
               cells := a.cells.map (fun c =>
                 let b := nth e.cells c.addr 0
                 let path := b.testBit 0
                 let codes := if b.testBit 1 then insCodes c.fb neg else bypCodes c.fb path
                 { c with cur := ⟨codes.1, codes.2, codes.1, codes.2, false⟩, path := path, pathUsed := c.pathUsed || path }) }
  | none => a

/-- The nodes of arm `n` that the selected path assumes LOST from the next SYNC on (R224, R236). -/
def Dev.lostBy (d : Dev) (n : Nat) : List Nat :=
  if d.rae.sel = 4 then (match d.rae.c3 with | some m => if m.1 = n then m.2 else [] | none => []) else []

/-- The commands of arm `n` for the next period (R268–R281); every leg is blocked once the unit has sent an EBLK in the epoch (R339). -/
def Dev.armCommands (d : Dev) (n : Nat) : Arm :=
  let a := nth d.mbe.arms n {}
  let p := d.selIn n
  let held := d.gc.c.tblk || ((d.selPath.map (·.c.tblk)).getD false) || d.ikl.eblk
  if d.mode = .precharge ∧ (d.prc.stage = 2 ∨ d.prc.stage = 3) ∧ !d.ikl.eblk then a.precharge p (prcCount (fv d.prc.vref) a)
  else if !d.mode.energized || held then (a.assumeLost (d.lostBy n)).blocked p
  else
    let v := fv (wAt ((d.selPath.map (·.co.vArm)).getD []) n)
    let b := ((d.escK n a).assumeLost (d.lostBy n)).select p v (d.qty (82 + n))
    { b with cells := b.cells.map (fun c => { c with cur := ((a.cells.find? (fun x => x.addr == c.addr)).map (·.cur)).getD c.cur }) }

/-- Selection and command assembly of all arms, once the path is selected (R268, R32). -/
def Dev.assemble (d : Dev) : Dev :=
  if d.mode == .boot || !d.rae.selected || !d.ledgersDone || d.mbe.next.isSome then d
  else { d with mbe := { d.mbe with next := some (forN 6 d.armCommands) } }

-- Loop engine ----------------------------------------------------------------------------------------------------------

/-- A source of R209 as it stands for the epoch, before scaling; none when it is invalid (R210, R211). -/
def Dev.lpeSource (d : Dev) (n code : Nat) : Option Rat :=
  let i := code % 4096
  match code / 4096 with
  | 0 => some (d.aval (R.LPE_SLOTn_SP_CONST n))
  | 1 => d.adcChannel i
  | 2 => let p := nth d.lpe.pulses i {}; if p.validSync then some (fv p.freqSync) else none
  | 3 => let p := nth d.lpe.pulses i {}; if p.validSync then some (fv p.dutySync) else none
  | 4 => let s := nth d.lpe.slots i {}; if s.on then some (fv s.u) else none
  | 5 => let set := if i < 64 then i / 16 else if i < 78 then 4 else 5
    if d.setOn set && !(nth d.mcd.st.inv set false) then some (fv (wAt d.mcd.st.q i)) else none
  | 6 => if i < 6 then some (fv (wAt d.gc.c.filt (7 + i))) else if i = 6 then some (fv (wAt d.gc.c.filt 0)) else if i = 7 then some (fv d.gc.co.vdc)
    else if i = 8 then some (fv d.gc.co.idc) else if i = 9 ∧ d.mode.energized then some (fv d.gc.co.pW) else none
  | _ => none

/-- One evaluation of slot `n` (R213). -/
def Dev.lpeEval (d : Dev) (n : Nat) : Dev :=
  let s := nth d.lpe.slots n {}
  let ctrl := d.act (R.LPE_SLOTn_CTRL n)
  if d.mode == .boot || decide (64 ≤ n) || !s.on || decide (d.tmb.epoch % fld ctrl 9 0 ≠ 0) then d
  else
    let st := d.stk (R.LPE_SLOTn_STAT n)
    let src := d.act (R.LPE_SLOTn_SRC n)
    let sp := (d.lpeSource n (fld src 31 16)).map (scaleSrc (fld src 31 28) (d.aval (R.LPE_SLOTn_SP_GAIN n)) (d.aval (R.LPE_SLOTn_SP_OFS n)))
    let pv := (d.lpeSource n (fld src 15 0)).map (scaleSrc (fld src 15 12) (d.aval (R.LPE_SLOTn_PV_GAIN n)) (d.aval (R.LPE_SLOTn_PV_OFS n)))
    let put1 (x : Slot) : Dev := { d with lpe := { d.lpe with next := setAt d.lpe.next n x } }
    match sp, pv with
    | some x, some y =>
      let r := slotEval d.act n d.tmb.epoch d.tcs (bit st 27) (bit st 28) x y s
      put1 { r.1 with tripAt := if r.2 then some d.stampNow else none }
    | _, _ => put1 (slotInvalid d.act n d.tmb.epoch s)

/-- The oscillation slot `n` found at station time `t` is reported and its action applies (R220). -/
def Dev.lpeTrip (d : Dev) (n t : Nat) : Dev :=
  let act := d.afld (R.LPE_SLOTn_CTRL n) 26 25
  let bits := 2 ^ 26 + (if act = 1 then 2 ^ 27 else 0) + (if act = 2 then 2 ^ 28 else 0)
  ((d.setStickyAt t (R.LPE_SLOTn_STAT n) (word bits)).setStickyAt t (if n < 32 then R.LPE_OSC_LO else R.LPE_OSC_HI) (word (2 ^ (n % 32)))).raiseAt t d.tmb.epoch
    Sub.lpe n (R.LPE_SLOTn_STAT n) (2 ^ 26) []

/-- The evaluations of the epoch become the state of record, their oscillations with them (R220, R241); those of an overrun are discarded (R33). -/
def Dev.lpeRecord (d : Dev) (void : Bool) : Dev :=
  let ss := if void then d.lpe.slots else d.lpe.next
  let kept := ss.map (fun (s : Slot) => { s with tripAt := none })
  (List.range 64).foldl (fun x n => match (nth ss n {}).tripAt with | some t => x.lpeTrip n t | none => x) { d with lpe := { d.lpe with slots := kept, next := kept } }

/-- OSC cleared through either register clears FROZEN and FORCED_MAN too (R221). -/
def Dev.lpeClears (d : Dev) : Dev :=
  (List.range 64).foldl (fun y n =>
    let m := if n < 32 then R.LPE_OSC_LO else R.LPE_OSC_HI
    if bit (y.stk (R.LPE_SLOTn_STAT n)) 26 && bit (y.stk m) (n % 32) then y
    else if y.stk (R.LPE_SLOTn_STAT n) = 0 ∧ !(bit (y.stk m) (n % 32)) then y
    else (y.dropSticky (R.LPE_SLOTn_STAT n) 0x1C000000).dropSticky m (word (2 ^ (n % 32)))) d

/-- The consequences of a commit for the slots (R214): enabled and disabled slots, and pulse inputs. -/
def Dev.lpeCommitted (d : Dev) : Dev :=
  let f (n : Nat) (s : Slot) : Slot :=
    let on := d.abit (R.LPE_SLOTn_CTRL n) 31
    if !on then {} else if !s.on then { on := true, fresh := true } else s
  let ps := forN 8 (fun n => let p := nth d.lpe.pulses n {}; if d.abit (R.LPE_PIn_CFG n) 0 then p else { level := p.level })
  let ss := forN 64 (fun n => f n (nth d.lpe.slots n {}))
  { d with lpe := { slots := ss, next := ss, pulses := ps } }

/-- The level of pulse input `n` changes (R212); a start edge is an injected-sequence trigger (R381). -/
def Dev.pulse (d : Dev) (n : Nat) (level : Bool) : Dev :=
  let cfg := d.act (R.LPE_PIn_CFG n)
  let p := nth d.lpe.pulses n {}
  let tick := d.tmb.up / (5 * nsU)
  let hz (c : Nat) : Rat := qdiv 200000000 (c : Rat)
  let d1 := { d with lpe := { d.lpe with pulses := setAt d.lpe.pulses n (pulseEdge (bit cfg 0) (bit cfg 1) hz tick level p) } }
  if 8 ≤ n ∨ level = p.level ∨ level = bit cfg 1 then d1 else d1.injTriggers (10 + n)

/-- A pulse input with no start edge for TIMEOUT_MS is timed out (R212). -/
def Dev.pulseTimeout (d : Dev) (n : Nat) : Dev :=
  let cfg := d.act (R.LPE_PIn_CFG n)
  let p := nth d.lpe.pulses n {}
  let due := match p.startAt with
    | some t => decide (t + fld cfg 31 16 * 200000 ≤ d.tmb.up / (5 * nsU))
    | none => true
  if bit cfg 0 && due then { d with lpe := { d.lpe with pulses := setAt d.lpe.pulses n { p with timedOut := true, valid := false } } } else d

/-- SYNC: pulse values are taken over (R210) and the banks in use settle (R215, R216); `o` is the device before the boundary's commit. -/
def Dev.lpeNewEpoch (d o : Dev) : Dev :=
  let ps := d.lpe.pulses.map (fun (p : Pulse) => { p with freqSync := p.freq, dutySync := p.duty, validSync := p.valid })
  let ss := forN 64 (fun n => (nth d.lpe.slots n {}).rebank d.act o.act n (decide (d.mode = .frt)))
  { d with lpe := { slots := ss, next := ss, pulses := ps } }

end Sys2Proof.Machine
end

