-- ==== Sys2Proof/Machine/Rdn.lean ====
section
/-! DEFINITION. Redundant pairs (R343–R369): grade and claim, roles and states, PAIR blocks, escrow built, accepted and applied, joining. -/
namespace Sys2Proof.Machine

-- Grade and claim ------------------------------------------------------------------------------------------------------

/-- Pair operation. -/
def Dev.pairEn (d : Dev) : Bool := d.abit R.RDN_CFG 0
/-- UNIT. -/
def Dev.unitNo (d : Dev) : Nat := d.afld R.RDN_CFG 8 8
/-- Mirror lane `n` is enabled, running and in block lock. -/
def Dev.mirOk (d : Dev) (n : Nat) : Bool := decide (n < 2) && d.lanesRun && d.domOn 14 && d.abit R.RDN_MIR_EN n && nth d.rdn.mirLock n false
/-- The mirror link is up (R353). -/
def Dev.link (d : Dev) : Bool := d.mirOk 0 || d.mirOk 1
/-- A mode code of an energized mode. -/
def codeEnergized (c : Nat) : Bool := decide (4 ≤ c) && decide (c ≤ 10)
/-- The partner is energized (R354). -/
def Dev.partnerEn (d : Dev) : Bool := d.pairEn && d.link && codeEnergized d.rdn.pMode

/-- Enabled lanes that carry admitted nodes and have no receive lock (R344). -/
def Dev.lanesDown (d : Dev) : Nat :=
  countN 12 (fun n => d.laneOn n && !(nth d.ikl.lanes n {}).lock && d.ikl.nodes.any (fun p => p.2.lane == n && p.2.adm != 0))
/-- Arms with RED_LOW. -/
def Dev.redLow (d : Dev) : Nat := bitmap 6 (fun n => (nth d.mbe.arms n {}).redLow)
/-- An instant lies within the last HOLD_MS. -/
def Dev.held (d : Dev) : Option Nat → Bool
  | some t => decide (d.tmb.up < t + d.afld R.RDN_GRADE_CFG 15 0 * msU)
  | none => false
/-- Both PTP domains are SUSPECT or unlocked. -/
def Dev.noTime (d : Dev) : Bool := !(d.domLocked 0) && !(d.domLocked 1)
/-- The grade cap of a state (R345). -/
def gradeCap : Nat → Nat
  | 3 => 0x10 | 4 => 0x14 | 5 => 0x18 | _ => 0x40
/-- The health grade (R344). -/
def Dev.grade (d : Dev) : Nat :=
  let red := countN 6 d.redLow.testBit
  let g : Int := 0x40 - 8 * d.lanesDown - 4 * red - 0x10 * b2n (d.held d.rdn.c3At) - 8 * b2n (d.held d.rdn.overrunAt) - 4 * b2n d.thm.warn - 2 * b2n d.noTime
  min (clampI 1 0x40 g).toNat (gradeCap d.rdn.state)
/-- `RDN_DEDUCT`. -/
def Dev.deductWord (d : Dev) : Word :=
  word (put 15 12 (min 15 d.lanesDown) + put 11 6 d.redLow + put 5 5 (b2n (d.held d.rdn.c3At)) + put 4 4 (b2n (d.held d.rdn.overrunAt))
    + put 3 3 (b2n d.thm.warn) + put 2 2 (b2n d.noTime))
/-- The claim formed at the dispatch release (R343, R346, R347, R128, R424, R593). -/
def Dev.claimNow (d : Dev) : Nat :=
  if !d.mode.live || !d.clk.lock || d.ikl.eblk || !d.sys.raised.isEmpty || d.pwr.stopAt.isSome then 0
  else
    let withheld := d.rdn.baseEqual && d.unitNo == 1
    (if d.afld R.RDN_CFG 23 16 ≤ d.grade ∧ !withheld then d.afld R.RDN_CFG 31 24 * 256 else 0) + d.grade
/-- Command assembly and dispatch release: the claim for the next sequence number, the command frames of all lanes, and management frames behind them (R32, R305, R346). -/
def Dev.modulate (d : Dev) : Dev :=
  let d1 := d.assemble
  match d.mbe.next, d1.mbe.next with
  | none, some arms => (({ d1 with rdn := { d1.rdn with nextClaim := d1.claimNow } } : Dev).sendFrames arms).sendPart d1.tmb.up
  | _, _ => d1

-- Roles and states -----------------------------------------------------------------------------------------------------

/-- A role change (R348, R366, R367), with the pairs it releases (R473). -/
def Dev.setRole (d : Dev) (role : Nat) : Dev :=
  let r := d.rdn
  if r.role = role then d
  else
    let st := if role = 1 then 1 else if r.role = 1 then 4 else if d.mode.energized then r.state else role
    let r1 := { r with role := role, state := st, failover := if role = 1 then sat32 r.failover 1 else r.failover
                       joinAt := if role = 1 then none else r.joinAt, holdoffAt := if st = 4 ∧ r.state ≠ 4 then d.tmb.up else r.holdoffAt, staleRun := 0 }
    (({ d with rdn := r1 } : Dev).released d).raiseT 5 21 Sub.rdn 0 R.RDN_STATUS 0xF0000000 [word role, word r.role]

/-- The role of a unit with the link down from a count of reports (R348). -/
def Dev.roleBySrc (d : Dev) (own other : Nat) : Dev := if own + other = 0 then d else d.setRole (if other < own then 1 else 2)

/-- SOLO while PAIR_EN is 0 (R345); a unit outside the energized modes is in HOLDOFF or in the state of its role (R367, R368). -/
def Dev.rdnSettle (d : Dev) : Dev :=
  let r := d.rdn
  let y : Dev :=
    if !d.pairEn then { d with rdn := { r with role := 0, state := 0, joinAt := none } }
    else
      let role := if r.role = 0 then 2 else r.role
      if d.mode.energized then { d with rdn := { r with role := role, state := if r.state = 0 then role else r.state } }
      else { d with rdn := { r with role := role, state := if r.state = 4 then 4 else role, joinAt := none, staleRun := 0, joinRun := 0 } }
  y.released d

/-- The unit leaves the energized modes: its state is that of its role (R368). -/
def Dev.rdnLeave (d : Dev) : Dev := ({ d with rdn := { d.rdn with state := d.rdn.role } }).rdnSettle

/-- Entry to an energized mode other than by a join (R349). -/
def Dev.rdnEntry (d : Dev) : Dev :=
  if !d.pairEn || d.link then d
  else if d.ikl.srcOwn < d.ikl.srcOther then let y := d.setRole 2; { y with rdn := { y.rdn with state := 5, joinAt := none } }
  else d.setRole 1

/-- The mirror link goes down (R365, R366). `o` is the device before. -/
def Dev.linkLost (d o : Dev) : Dev :=
  if o.link && !d.link && d.pairEn && d.mode.energized && (d.rdn.role == 2 || d.rdn.state == 3) then { d with rdn := { d.rdn with state := 5, joinAt := none } } else d

/-- A timing check fails (R354, R359). -/
def Dev.timingFail (d : Dev) : Dev :=
  let r := d.rdn
  let d1 := { d with rdn := { r with timingNow := true } }
  if r.timingNow || r.timing then d1 else d1.raise Sub.rdn 0 R.RDN_STATUS 0x00800000 []

/-- A code error on a mirror lane (R353). -/
def Dev.mirError (d : Dev) (n : Nat) : Dev := { d with rdn := { d.rdn with mirErr := modAt d.rdn.mirErr n (fun x => sat16 x 1) } }

/-- A PAIR block is received (R347, R348, R354). -/
def Dev.pairBlock (d : Dev) (lane : Nat) (b : Dword) : Dev :=
  if !(d.pairEn && d.mirOk lane) then d
  else if blockType b ≠ 0x99 ∨ !(crcOk b) then d.mirError lane
  else
    let seqOk := decide (bfld b 55 40 = d.tmb.epoch % 65536)
    let claim := bfld b 39 24
    let unit := bfld b 23 23
    let base := claim / 256
    let r := d.rdn
    let eq := if base = 0 then r.baseEqual else decide (base = d.afld R.RDN_CFG 31 24)
    let uc := decide (unit = d.unitNo)
    let d1 := { d with rdn := { r with pClaim := claim, pUnit := unit, pMode := bfld b 22 19, pState := bfld b 18 16, pBase := if base = 0 then r.pBase else base
                                       pEpoch := if seqOk then some d.tmb.epoch else r.pEpoch, baseEqual := eq, unitConflict := uc } }
    let d2 := if uc && !r.unitConflict then d1.raise Sub.rdn 0 R.RDN_STATUS 0x00100000 [] else d1
    let d3 := if eq && !r.baseEqual then d2.raise Sub.rdn 0 R.RDN_STATUS 0x00200000 [] else d2
    if seqOk then d3.setRole (if claim < r.own then 1 else 2) else d3.timingFail

-- DIGEST (R357) ----------------------------------------------------------------------------------------------------------

/-- Insert into an ascending list. -/
def natInsert (x : Nat) : List Nat → List Nat
  | [] => [x]
  | y :: ys => if x ≤ y then x :: y :: ys else y :: natInsert x ys

/-- The offsets of a register group from an offset on. -/
def dimOffsets : List (Nat × Nat) → Nat → List Nat
  | [], b => [b]
  | (n, s) :: ds, b => (List.range n).flatMap (fun i => dimOffsets ds (b + i * s))

/-- The Retained RWS registers of a block, ascending. -/
def retainedRws (block : Nat) : List Nat :=
  (((blockRegs block).filter (fun r => r.retained && r.flds.any (fun f => f.acc == .rws))).flatMap (fun r => dimOffsets r.dims (block * 0x10000 + r.base))).foldr natInsert []

/-- The registers DIGEST covers. -/
def digestRegs : List Nat :=
  ((retainedRws 0).filter (fun o => decide (0x80 ≤ o) && decide (o ≤ 0x9C))) ++ [11, 12, 13, 14, 15, 16].flatMap retainedRws

/-- DIGEST. -/
def Dev.digest (d : Dev) : Nat := crc32c (wordBytes (digestRegs.map d.act))

-- Escrow items (R356) ----------------------------------------------------------------------------------------------------

/-- The GFE items as 22 words. -/
def gfeItems (s : GfeSt) : List Word :=
  [s.dw, hi32 s.theta.toNat, lo32 s.theta.toNat, hi32 s.pll.toNat, lo32 s.pll.toNat, s.pllInt, s.pe, s.qe, s.dpRest, s.dvRest,
   word (put 31 30 s.rsState), word s.rsHold, s.ebs, s.xtr] ++ forN 4 (wAt s.vl) ++ forN 4 (wAt s.cl)

/-- A 64-bit item of two words. -/
def pairDword (l : List Word) (i : Nat) : Dword := BitVec.ofNat 64 ((wAt l i).toNat * 2 ^ 32 + (wAt l (i + 1)).toNat)

/-- The GFE state of record with its items replaced by those of a list. -/
def GfeSt.withItems (s : GfeSt) (l : List Word) : GfeSt :=
  { s with dw := wAt l 0, theta := pairDword l 1, pll := pairDword l 3, pllInt := wAt l 5, pe := wAt l 6, qe := wAt l 7, dpRest := wAt l 8, dvRest := wAt l 9
           rsState := fld (wAt l 10) 31 30, rsHold := (wAt l 11).toNat, ebs := wAt l 12, xtr := wAt l 13, vl := forN 4 (fun i => wAt l (14 + i)), cl := forN 4 (fun i => wAt l (18 + i)) }

/-- The CCE items and ramped references as 23 words. -/
def cceItems (p : Path) : List Word :=
  let c := p.c
  [c.intW, c.intDcv, c.refVdc] ++ forN 3 (wAt c.intH) ++ forN 3 (wAt c.intV) ++ forN 3 (wAt c.ccI) ++ forN 3 (wAt c.ccX1) ++ forN 3 (wAt c.ccX2)
    ++ [p.g.refP, p.g.refQ, p.g.refV, c.refVdc, c.refIdc]

/-- The state of record with the CCE items replaced by those of a list. -/
def Path.withCce (p : Path) (l : List Word) : Path :=
  let t (i : Nat) : List Word := forN 3 (fun j => wAt l (i + j))
  { p with g := { p.g with refP := wAt l 18, refQ := wAt l 19, refV := wAt l 20 }
           c := { p.c with intW := wAt l 0, intDcv := wAt l 1, refVdc := wAt l 2, intH := t 3, intV := t 6, ccI := t 9, ccX1 := t 12, ccX2 := t 15, refIdc := wAt l 22 } }

/-- The LPE items, four words a slot. -/
def lpeItems (ss : List Slot) : List Word := ss.flatMap (fun s => [s.u, s.i, s.d, s.pvPrev])

/-- The status item of slot `n`. -/
def Dev.lpeStatItem (d : Dev) (n : Nat) (s : Slot) : Nat :=
  let st := d.stk (R.LPE_SLOTn_STAT n)
  put 15 14 (match s.sign with | none => 0 | some false => 1 | some true => 2) + put 13 13 (fld st 26 26) + put 12 12 (fld st 27 27) + put 11 11 (fld st 28 28) + put 7 0 s.count

/-- RAMPING (R115). -/
def Dev.ramping (d : Dev) : Bool := d.gc.g.rampP || d.gc.g.rampQ || d.gc.g.rampV || d.gc.c.rampVdc || d.gc.c.rampIdc
/-- RETURN (R77). -/
def Dev.retCode (d : Dev) : Nat := if d.mode = .frt then d.sys.ret.code else d.mode.code
/-- Epochs since FRT entry, 0 outside FRT: the number of periods nearest to the time passed. -/
def Dev.frtSince (d : Dev) : Nat := if d.mode = .frt then (d.tmb.syncUp + d.tc / 2 - d.frt.entryTime) / d.tc else 0
/-- The exit count, 0 outside FRT. -/
def Dev.frtCount (d : Dev) : Nat := if d.mode = .frt then d.frt.count else 0

/-- The discrete items of R361. -/
def Dev.discrete (d : Dev) : List Nat :=
  let frt := decide (d.mode = .frt)
  [d.mode.code, d.retCode, b2n (frt && d.frt.causeAc), b2n (frt && d.frt.causeDc), b2n d.ramping, d.frtCount, d.frtSince, d.gc.g.rsState, d.gc.g.rsHold,
   b2n d.gc.c.tblk, d.gc.c.tblkRun, d.gc.c.clampRun % 256] ++ forN 64 (fun n => d.lpeStatItem n (nth d.lpe.slots n {}))

/-- The discrete items of an escrow epoch. -/
def Escrow.discrete (e : Escrow) : List Nat :=
  [e.mode, e.ret, b2n e.causeAc, b2n e.causeDc, b2n e.ramping, e.frtCount, e.frtSince, fld (wAt e.gfe 10) 31 30, (wAt e.gfe 11).toNat,
   b2n e.tblk, e.tblkRun, e.clampRun] ++ e.lpeStat

-- Escrow blocks ----------------------------------------------------------------------------------------------------------

/-- A block of two words. -/
def dwordOf (hi lo : Nat) : Dword := BitVec.ofNat 64 ((hi % 2 ^ 32) * 2 ^ 32 + lo % 2 ^ 32)
/-- Blocks of words, two each. -/
def packWords : List Word → List Dword
  | a :: b :: r => dwordOf a.toNat b.toNat :: packWords r
  | [a] => [dwordOf a.toNat 0]
  | [] => []
/-- The words of blocks. -/
def unpackWords (bs : List Dword) : List Word := bs.flatMap (fun b => [hi32 b.toNat, lo32 b.toNat])
/-- Pad a list of blocks with zeros. -/
def padBlocks (n : Nat) (bs : List Dword) : List Dword := (bs ++ List.replicate (n - bs.length) 0).take n
/-- Numbers of `w` bits packed from the first bit of a block on, `n` in a block. -/
def packBits (w n : Nat) : Nat → List Nat → List Dword
  | 0, _ => []
  | k + 1, xs => BitVec.ofNat 64 ((forN n (fun i => (xs.getD i 0) % 2 ^ w)).foldl (fun a x => a * 2 ^ w + x) 0) :: packBits w n k (xs.drop n)
/-- Numbers of `w` bits read from blocks. -/
def unpackBits (w n : Nat) (bs : List Dword) : List Nat := bs.flatMap (fun b => forN n (fun i => bitsOf b.toNat (63 - w * i) (64 - w * (i + 1))))

/-- The block of an arm. -/
def armBlock (a : Arm) : Dword :=
  BitVec.ofNat 64 (put 63 63 (b2n a.dir) + put 62 62 (b2n a.neg) + put 61 61 (b2n a.pwm)
    + put 60 48 (((a.cells.find? (fun (c : Cell) => c.cur.pwm)).map (·.addr)).getD 0) + put 47 32 a.on + put 31 16 a.off)

/-- The cell bits of R356, address by address: K in bit 1, PATH in bit 0. -/
def cellBits (arms : List Arm) : List Nat :=
  let l : List (Nat × Nat) := arms.flatMap (fun a => a.cells.map (fun c => (c.addr, 2 * b2n (inK a.neg c) + b2n c.path)))
  forN 4608 (fun a => ((l.find? (fun p => p.1 == a)).map (·.2)).getD 0)

/-- The frame and item blocks 1 to 326 of E_j. -/
def Dev.escrowBody (d : Dev) (j : Nat) : List Dword :=
  let frt := decide (d.mode = .frt)
  let c := d.gc.c
  [BitVec.ofNat 64 j,
   BitVec.ofNat 64 (put 63 47 d.cycles + put 46 43 d.mode.code + put 42 39 d.retCode + put 38 38 (b2n (frt && d.frt.causeAc)) + put 37 37 (b2n (frt && d.frt.causeDc))
     + put 36 36 (b2n d.ramping) + put 31 0 d.digest),
   dwordOf (d.act R.TMB_EPOCH_ORIGIN_HI).toNat (d.act R.TMB_EPOCH_ORIGIN_LO).toNat, dwordOf d.frtCount d.frtSince]
  ++ padBlocks 12 (packWords (gfeItems d.gc.g))
  ++ padBlocks 16 (packWords (cceItems d.gc) ++ [BitVec.ofNat 64 (put 63 63 (b2n c.tblk) + put 62 32 c.tblkRun + put 31 24 c.clampRun)])
  ++ padBlocks 128 (packWords (lpeItems d.lpe.slots))
  ++ packBits 16 4 16 (forN 64 (fun n => d.lpeStatItem n (nth d.lpe.slots n {})))
  ++ forN 6 (fun n => armBlock (nth d.mbe.arms n {}))
  ++ packBits 2 32 144 (cellBits d.mbe.arms)

/-- The CRC-32C of the trailer over header and body. -/
def escrowCrc (h : Dword) (body : List Dword) : Nat := crc32c (blockBytes 7 h ++ body.flatMap (blockBytes 8))

/-- E_j as sent (R355, R356). -/
def Dev.escrowBlocks (d : Dev) (j : Nat) : List Dword :=
  let h := withCrc (put 47 40 0x87 + put 39 24 j + put 23 8 d.rdn.own + put 7 0 1)
  let b := d.escrowBody j
  h :: b ++ [BitVec.ofNat 64 (escrowCrc h b * 2 ^ 32 + 328 * 2 ^ 16)]

/-- An escrow run is complete: all blocks in order with valid sync headers, header and trailer CRC (R359). A sync header is 2 for a control block,
1 for a data block. -/
def escrowComplete (bs : List (Nat × Dword)) : Bool :=
  match bs with
  | [] => false
  | h :: rest =>
    h.1 == 2 && rest.all (fun (x : Nat × Dword) => x.1 == 1) && decide (rest.length = 327) && blockType h.2 == 0x87 && crcOk h.2 &&
      decide ((nth (rest.map (fun (x : Nat × Dword) => x.2)) 326 0).toNat / 2 ^ 32 = escrowCrc h.2 ((rest.map (fun (x : Nat × Dword) => x.2)).take 326))

/-- Read a complete run. -/
def readEscrow (bs : List Dword) : Escrow :=
  let b (i : Nat) : Dword := nth bs i 0
  let part (i n : Nat) : List Dword := (bs.drop i).take n
  let w := unpackWords (part 17 12)
  { epoch := (b 1).toNat, tc := bfld (b 2) 63 47, mode := bfld (b 2) 46 43, ret := bfld (b 2) 42 39, causeAc := bfld (b 2) 38 38 == 1, causeDc := bfld (b 2) 37 37 == 1
    ramping := bfld (b 2) 36 36 == 1, digest := bfld (b 2) 31 0, origin := (b 3).toNat, frtCount := bfld (b 4) 63 32, frtSince := bfld (b 4) 31 0
    gfe := (unpackWords (part 5 11)).take 22, cce := w.take 23, tblk := bfld (b 29) 63 63 == 1, tblkRun := bfld (b 29) 62 32, clampRun := bfld (b 29) 31 24
    lpe := unpackWords (part 33 128), lpeStat := unpackBits 16 4 (part 161 16), arms := (part 177 6).map (·.toNat), cells := unpackBits 2 32 (part 183 144) }

/-- An escrow epoch arrives on a mirror lane (R359, R360). A torn run counts at the cut-off, once an epoch, when no lane delivers a complete one. -/
def Dev.escrowIn (d : Dev) (lane : Nat) (bs : List (Nat × Dword)) : Dev :=
  let r := d.rdn
  if !(d.pairEn && d.mirOk lane) || r.unitConflict || r.escGot then d
  else if !(escrowComplete bs) then
    (if r.escTorn then d else { d with rdn := { r with escTorn := true, torn := if r.cutPassed then sat32 r.torn 1 else r.torn } })
  else
    let e := readEscrow (bs.map (·.2))
    if e.epoch + 1 ≠ d.tmb.epoch ∨ e.tc ≠ d.cycles ∨ e.origin ≠ (d.act R.TMB_EPOCH_ORIGIN_HI).toNat * 2 ^ 32 + (d.act R.TMB_EPOCH_ORIGIN_LO).toNat then d.timingFail
    else
      let cut : Int := ((d.tmb.syncUp + d.tc : Nat) : Int) - 50 * (nsU : Int)
      { d with rdn := { r with esc := some e, escAt := d.tmb.up, escGot := true, escIn := !r.cutPassed, margin := (cut - (d.tmb.up : Int)) / (nsU : Int)
                               late := if r.cutPassed then sat32 r.late 1 else r.late } }

/-- The escrow cut-off of the epoch (R360). -/
def Dev.escrowCut (d : Dev) : Dev :=
  let r := d.rdn
  if r.cutPassed then d
  else { d with rdn := { r with cutPassed := true, torn := if r.escTorn && !r.escGot then sat32 r.torn 1 else r.torn } }

-- Application ------------------------------------------------------------------------------------------------------------

/-- The first three conditions of R360 but for the DIGEST: E_{k−1} accepted in epoch k by the cut-off, with an energized MODE. -/
def Dev.escFresh (d : Dev) : Option Escrow :=
  match d.rdn.esc with
  | some e => if d.rdn.escIn && e.epoch + 1 == d.tmb.epoch && codeEnergized e.mode then some e else none
  | none => none

/-- A correction of a binary32 item (R361). -/
def fixW (sel esc rec : Word) : Word := rnd (fv sel + (fv esc - fv rec))
/-- A correction item by item. -/
def fixWs (sel esc rec : List Word) : List Word := forN sel.length (fun i => fixW (wAt sel i) (wAt esc i) (wAt rec i))

/-- The GFE state after a correction or, `whole`, a realign (R361, R362). -/
def GfeSt.fromEscrow (s rec : GfeSt) (e : List Word) (whole : Bool) : GfeSt :=
  let x := s.withItems e
  let y := if whole then x else { s.withItems (fixWs (gfeItems s) e (gfeItems rec)) with rsState := s.rsState, rsHold := s.rsHold }
  { y with theta := s.theta + (x.theta - rec.theta), pll := s.pll + (x.pll - rec.pll) }

/-- The limits of R644 for slot `n`. -/
def Dev.slotLimits (d : Dev) (n : Nat) (s : Slot) : Slot :=
  let k := coefOf d.act n s.bank
  let f (w : Word) : Word := if k.umin ≤ fv w ∧ fv w ≤ k.umax then w else rnd (clamp k.umin k.umax (fv w))
  { s with u := f s.u, i := f s.i }

/-- The slots after a correction or realign; `o` is the device with the state of record at SYNC k. -/
def Dev.slotsFrom (d o : Dev) (e : Escrow) (whole : Bool) : List Slot :=
  forN 64 (fun n =>
    let s := nth d.lpe.slots n {}
    let r := nth o.lpe.slots n {}
    let g (i : Nat) : Word := wAt e.lpe (4 * n + i)
    if !s.on then s
    else if whole then
      let st := nth e.lpeStat n 0
      let code := bitsOf st 15 14
      { s with u := g 0, i := g 1, d := g 2, pvPrev := g 3, first := false, sign := if code = 0 then none else some (code == 2), count := st % 256, reported := st.testBit 13 }
    else d.slotLimits n { s with u := fixW s.u (g 0) r.u, i := fixW s.i (g 1) r.i, d := fixW s.d (g 2) r.d, pvPrev := fixW s.pvPrev (g 3) r.pvPrev })

/-- The latched slot flags of a realign. -/
def Dev.slotFlags (d : Dev) (e : Escrow) : Dev :=
  (List.range 64).foldl (fun y n =>
    let st := nth e.lpeStat n 0
    let bits := put 26 26 (b2n (st.testBit 13)) + put 27 27 (b2n (st.testBit 12)) + put 28 28 (b2n (st.testBit 11))
    let m := if n < 32 then R.LPE_OSC_LO else R.LPE_OSC_HI
    let z := (y.dropSticky (R.LPE_SLOTn_STAT n) 0x1C000000).dropSticky m (word (2 ^ (n % 32)))
    let z1 := if bits = 0 then z else z.setSticky (R.LPE_SLOTn_STAT n) (word bits)
    if st.testBit 13 then z1.setSticky m (word (2 ^ (n % 32))) else z1) d

/-- The ramps that go on after a realign (R115, R362). -/
def Path.ramps (law : Mode) (on : Bool) (p : Path) : Path :=
  let gf := law == .gfIsland || law == .gfGrid
  { p with g := { p.g with rampP := on && (gf || law == .blackstart || law == .gfl), rampQ := on && law != .blackstart, rampV := on && gf }
           c := { p.c with rampVdc := on && law == .dcv, rampIdc := on && law == .statcom, preset := 0, dcvEntry := false } }

/-- Apply an escrow epoch to the engines at step 2: `o` is the device with the state of record at SYNC k. -/
def Dev.applyEscrow (d o : Dev) (e : Escrow) (whole : Bool) : Dev :=
  let p := d.gc
  let before := o.gc
  let g := p.g.fromEscrow before.g e.gfe whole
  let law : Mode := (Mode.ofCode (if e.mode = 10 then e.ret else e.mode)).getD d.law
  let d1 :=
    if whole then
      let q := ({ p with g := g } : Path).withCce e.cce
      let q1 := { q with g := { q.g with bsRun := law == Mode.blackstart, rampDone := law == Mode.blackstart && q.g.ebs == d.act R.GFE_V0, restOut := law != Mode.gfIsland }
                         c := { q.c with tblk := e.tblk, tblkRun := e.tblkRun, clampRun := e.clampRun } }
      ({ d with gc := q1.ramps law e.ramping }).slotFlags e
    else
      let q := ({ p with g := g } : Path).withCce (fixWs (cceItems p) e.cce (cceItems before))
      { d with gc := { q with g := gfeLimits d.act q.g, c := cceLimits d.act q.c } }
  let r := d1.rdn
  let ss := d.slotsFrom o e whole
  { d1 with lpe := { d1.lpe with slots := ss, next := ss }
            rdn := { r with used := sat32 r.used 1, age := 0, realigns := if whole then sat32 r.realigns 1 else r.realigns } }

/-- The boundary of the escrow of the ended epoch (R360–R366), the state of record at SYNC k being that of `o`: the device, and the escrow whose mode a realign takes
over at step 6. -/
def Dev.escrowStep (d o : Dev) : Dev × Option Escrow :=
  if !d.pairEn then ({ d with rdn := { d.rdn with age := sat16 d.rdn.age 1 } }, none)
  else
    let cmp : Option (Escrow × Bool) := d.escFresh.map (fun (e : Escrow) => (e, e.digest != d.digest))
    let bad : Bool := (cmp.map (·.2)).getD d.rdn.digestBad
    let d0 := { d with rdn := { d.rdn with digestBad := bad } }
    let d1 : Dev := if bad && !d.rdn.digestBad then d0.raise Sub.rdn 0 R.RDN_STATUS 0x00400000 [] else d0
    let fit : Option Escrow := match cmp with | some (e, false) => some e | _ => none
    let use : Option Escrow := if d1.rdn.role == 2 && d1.mode.energized then fit else none
    match use with
    | some e =>
      let back := d1.rdn.state == 5 && d1.link
      let whole := back || (e.discrete != d1.rdn.disc)
      let y := d1.applyEscrow o e whole
      let run := if whole then 0 else d1.rdn.joinRun + 1
      ({ y with rdn := { y.rdn with staleRun := 0, joinRun := run, state := if back then 3 else y.rdn.state, joinAt := if back then none else y.rdn.joinAt } },
       if whole then some e else none)
    | none =>
      let r := d1.rdn
      ({ d1 with rdn := { r with age := sat16 r.age 1, joinRun := 0, staleRun := if r.role = 2 ∧ d1.mode.energized then r.staleRun + 1 else 0 } }, none)

/-- STALE_EP boundaries without escrow (R366). -/
def Dev.staleEp (d : Dev) : Dev :=
  let r := d.rdn
  if d.pairEn && r.role == 2 && d.mode.energized && r.state != 5 && r.state != 1 && decide (d.afld R.RDN_HOLD 7 0 ≤ r.staleRun) then { d with rdn := { r with state := 5 } } else d

/-- JOIN_EP consecutive corrections (R365). -/
def Dev.joinEp (d : Dev) : Dev :=
  let r := d.rdn
  if r.state = 3 ∧ d.afld R.RDN_JOIN 15 0 ≤ r.joinRun then { d with rdn := { r with state := 4, holdoffAt := d.tmb.up, joinAt := none, joinRun := 0 } } else d

/-- JOIN_MS has passed since a join (R365). -/
def Dev.joinMs (d : Dev) : Dev :=
  match d.rdn.joinAt with
  | some t => if t + d.afld R.RDN_JOIN 31 16 * msU ≤ d.tmb.up then ({ d with rdn := { d.rdn with joinAt := none } }).raiseCause Cause.redundancy else d
  | none => d

/-- JOIN_MS has passed before the boundary, the present instant (R65, R365): the cause belongs to the epoch that ends. -/
def Dev.joinOver (d : Dev) : Dev :=
  match d.rdn.joinAt with
  | some t => if t + d.afld R.RDN_JOIN 31 16 * msU < d.tmb.up then d.joinMs else d
  | none => d

/-- REVERT_MS of HOLDOFF has passed (R367). -/
def Dev.revertMs (d : Dev) : Dev :=
  let r := d.rdn
  if r.state = 4 ∧ r.holdoffAt + d.afld R.RDN_HOLD 31 16 * msU ≤ d.tmb.up then { d with rdn := { r with state := 2 } } else d

/-- The deductions for C3 and overruns expire (R344). -/
def Dev.gradeHold (d : Dev) : Dev :=
  let r := d.rdn
  { d with rdn := { r with c3At := if d.held r.c3At then r.c3At else none, overrunAt := if d.held r.overrunAt then r.overrunAt else none } }

/-- Whether a join to a target is allowed, but for the conditions of the matrix cell (R364). -/
def Dev.joinOk (d : Dev) (target : Nat) : Bool :=
  match d.escFresh with
  | some e => d.link && !d.rdn.digestBad && !d.rdn.timingNow && !d.rdn.baseEqual && !d.rdn.unitConflict &&
      decide (target = if d.rdn.pMode = 10 then e.ret else d.rdn.pMode)
  | none => false

/-- The link has been up all the epoch that ends and no valid PAIR block of it came: its role is STANDBY (R348). In the epoch in which the link comes up the role is
that of a link down (DEDUCED, log 109). -/
def Dev.roleMissing (d : Dev) : Dev :=
  if d.pairEn && d.link && d.rdn.linkSync && decide (d.rdn.pEpoch ≠ some d.tmb.epoch) then d.setRole 2 else d

/-- The role of the epoch that begins while the link is down, by the reports of the epoch that ends (R348). -/
def Dev.roleBoundary (d : Dev) : Dev :=
  if d.pairEn && !d.link then d.roleBySrc d.ikl.srcOwn d.ikl.srcOther else d

/-- The mirror lanes are driven: lanes running, their domain on, one enabled. -/
def Dev.mirSends (d : Dev) : Bool := d.pairEn && d.lanesRun && d.domOn 14 && (List.range 2).any (fun n => d.abit R.RDN_MIR_EN n)

/-- The PAIR block of the epoch (R354). -/
def Dev.pairSent (d : Dev) : Dword := pairBlockOf (d.tmb.epoch % 65536) d.rdn.own d.unitNo d.mode.code d.rdn.state

/-- SYNC: the claim of the new period, the epoch's collection of PAIR and escrow (`d.tmb.epoch` is the new epoch, `ended` the one that ended). The unit
sends its PAIR block (R354), and one that was ACTIVE in `ended` its escrow (R355). -/
def Dev.rdnNewEpoch (d : Dev) (ended : Nat) (wasActive : Bool) : Dev :=
  let r := d.rdn
  let d1 := { d with rdn := { r with own := if d.mode.live then r.nextClaim else 0, nextClaim := 0, timing := r.timingNow, timingNow := false
                                     linkSync := d.link
                                     escIn := false, escGot := false, escTorn := false, cutPassed := false, disc := if d.pairEn then d.discrete else [] } }
  if !d.mirSends then { d1 with rdn := { d1.rdn with sentPair := none, sentBlocks := [] } }
  else if wasActive then { d1 with rdn := { d1.rdn with sentPair := some d1.pairSent, sent := sat32 r.sent 1, sentBlocks := d1.escrowBlocks ended } }
  else { d1 with rdn := { d1.rdn with sentPair := some d1.pairSent, sentBlocks := [] } }

end Sys2Proof.Machine
end

