-- ==== Sys2Proof/Machine/Commit.lean ====
section
/-! DEFINITION. The commit of the staging bank (R38–R53): range checks, cross-register checks, CONFIG-only checks, the register a refusal names,
and the combined commit or abandon of a boundary. -/
namespace Sys2Proof.Machine

-- Ranges -----------------------------------------------------------------------------------------------------------------

/-- A staged field lies in its stated range (R45, R643). -/
def Chk.ok (c : Chk) (v : Nat) : Bool :=
  match c with
  | .any => true
  | .rng lo hi => decide (lo ≤ v) && decide (v ≤ hi)
  | .oneOf vs => vs.contains v
  | .aligned n => v % n == 0
  | .f32 lo hi => f32InRange lo hi (word v)

/-- The staged value at an offset fails a range. -/
def Dev.rangeBad (d : Dev) (off : Nat) : Bool :=
  match findReg off with
  | some r => r.flds.any (fun f => isStaged f.acc && !(f.chk.ok (fld (d.stg off) f.hi f.lo)))
  | none => false

/-- A field that may be committed in CONFIG only differs from its active copy. -/
def Dev.cfgOnlyBad (d : Dev) (off : Nat) : Bool :=
  match findReg off with
  | some r => r.flds.any (fun f => f.cfgOnly && fld (d.stg off) f.hi f.lo != fld (d.act off) f.hi f.lo)
  | none => false

/-- The keys of two tables in ascending order. -/
def mergeKeys (a b : List (Nat × Word)) : List Nat := b.foldl (fun l x => natInsert x.1 l) (a.map (·.1))

-- Cross-register checks ----------------------------------------------------------------------------------------------------

/-- A check across registers: the registers it names, and whether it fails. -/
structure Cross where
  names : List Nat
  bad : Bool

/-- The register a failed check is charged to (R45). -/
def Dev.charge (d : Dev) (c : Cross) : Option Nat :=
  match minOf (c.names.filter (fun o => d.stg o != d.act o)) with
  | some o => some o
  | none => minOf c.names


/-- Checks of GFE, CCE, RAE and MBE (R178, R207, R248, R287) on the staged values `z`. -/
def crossEngines (z : Dev) : List Cross :=
  [⟨[R.GFE_IMAX, R.GFE_INEG_MAX], decide (z.aval R.GFE_IMAX < z.aval R.GFE_INEG_MAX)⟩,
   ⟨[R.GFE_RESYNC_CTRL, R.GFE_RESYNC_CFG], z.abit R.GFE_RESYNC_CTRL 0 && z.afld R.GFE_RESYNC_CFG 17 16 == 0⟩,
   ⟨[R.SYS_FRT_TIMING, R.CCE_DCF_TIMING], decide (z.afld R.SYS_FRT_TIMING 15 0 ≤ z.afld R.CCE_DCF_TIMING 31 16)⟩,
   ⟨[R.RAE_CTRL], z.abit R.RAE_CTRL 2 && !(z.abit R.RAE_CTRL 8)⟩,
   ⟨[R.RAE_CTRL], z.abit R.RAE_CTRL 3 && !(z.abit R.RAE_CTRL 9)⟩,
   ⟨[R.SYS_FRT_EXIT_VAC, R.RAE_C0_VDIP], decide (z.aval R.SYS_FRT_EXIT_VAC ≤ z.aval R.RAE_C0_VDIP)⟩] ++
  forN 6 (fun n => ⟨[R.TMB_PERIOD, R.MBE_ARMn_CFG n], decide (z.cycles / 3 ≤ z.afld (R.MBE_ARMn_CFG n) 31 16)⟩) ++
  [⟨[R.MBE_VLIM], let w := z.act R.MBE_VLIM; fld w 31 16 != 0 && fld w 15 0 != 0 && decide (fld w 31 16 ≤ fld w 15 0)⟩]

/-- A loop source code names no source (R209); `self` is the slot, `pv` tells a process variable. -/
def lpeCodeBad (self : Nat) (pv : Bool) (code : Nat) : Bool :=
  let k := code / 4096
  let i := code % 4096
  match k with
  | 0 => pv
  | 1 => decide (47 < i)
  | 2 => decide (7 < i)
  | 3 => decide (7 < i)
  | 4 => decide (63 < i) || i == self
  | 5 => decide (87 < i)
  | 6 => decide (9 < i)
  | _ => true

/-- Checks of the loop engine (R209, R223). -/
def crossLpe (z : Dev) : List Cross :=
  (List.range 64).flatMap (fun n =>
    let w := z.act (R.LPE_SLOTn_SRC n)
    [⟨[R.LPE_SLOTn_SRC n], lpeCodeBad n false (fld w 31 16) || lpeCodeBad n true (fld w 15 0)⟩,
     ⟨[R.LPE_SLOTn_UMIN_A n, R.LPE_SLOTn_UMAX_A n], decide (z.aval (R.LPE_SLOTn_UMAX_A n) ≤ z.aval (R.LPE_SLOTn_UMIN_A n))⟩,
     ⟨[R.LPE_SLOTn_UMIN_B n, R.LPE_SLOTn_UMAX_B n], decide (z.aval (R.LPE_SLOTn_UMAX_B n) ≤ z.aval (R.LPE_SLOTn_UMIN_B n))⟩])

/-- A conditioning source code names no source (R401, R412). -/
def mcdCodeBad (code : Nat) : Bool :=
  let i := code % 4096
  match code / 4096 with
  | 0 => false
  | 1 => decide (47 < i)
  | 2 => decide (127 < i)
  | 3 => decide (63 < i)
  | _ => true

/-- Checks of ADC, SVI and MCD (R376, R412). -/
def crossMeasure (z : Dev) : List Cross :=
  forN 4 (fun c =>
    let regs := forN (z.regLen c) (fun e => z.act (R.ADC_COREc_REGe c e))
    let sum := (regs.map (fun w => fld w 20 16 * (fld w 15 8 + 14))).sum
    ⟨[R.TMB_PERIOD, R.ADC_CTRL, R.ADC_COREc_CFG c] ++ forN 16 (R.ADC_COREc_REGe c), z.abit R.ADC_CTRL c && decide (z.cycles < 48 * sum)⟩) ++
  forN 24 (fun m => ⟨[R.MCD_INm_SRC m], let w := z.act (R.MCD_INm_SRC m); mcdCodeBad (fld w 31 16) || mcdCodeBad (fld w 15 0)⟩) ++
  (List.range 16).flatMap (fun a => (List.range 16).flatMap (fun b =>
    if a < b ∧ z.abit R.SVI_CTRL a ∧ z.abit R.SVI_CTRL b then
      [⟨[R.SVI_CTRL, R.SVI_STRs_CFG a, R.SVI_STRs_APPID a, R.SVI_STRs_CFG b, R.SVI_STRs_APPID b] ++ forN 16 (R.SVI_STRs_SVIDw a) ++ forN 16 (R.SVI_STRs_SVIDw b),
        z.afld (R.SVI_STRs_APPID a) 15 0 == z.afld (R.SVI_STRs_APPID b) 15 0 && z.svid a == z.svid b⟩]
    else [])) ++
  [⟨[R.MCD_CTRL, R.GFE_RESYNC_CTRL, R.GFE_RESYNC_CFG],
    let s := z.afld R.GFE_RESYNC_CFG 17 16
    z.abit R.GFE_RESYNC_CTRL 0 && s != 0 && !(z.abit R.MCD_CTRL s)⟩]

/-- The least DIV of a clock output format (R433). -/
def leastDiv (fmt : Nat) : Nat := match fmt with | 0 => 3 | 1 => 6 | 2 => 12 | _ => 20

/-- Checks of CLK, TMB and PTP (R311, R429, R433, R434, R457) on the staged values `z` of device `o`. -/
def crossTime (z o : Dev) : List Cross :=
  let moved := z.cycles != o.cycles
  [⟨[R.TMB_PERIOD], moved && !(o.mode == .config || o.mode == .standby || o.mode == .service)⟩,
   ⟨[R.TMB_PERIOD], moved && o.mode != .config && !(o.setFits (fun n => z.abit R.IKL_LANE_EN n) z.cycles)⟩] ++
  forN 4 (fun n => ⟨[R.CLK_CKOn_CFG n], let w := z.act (R.CLK_CKOn_CFG n); decide (fld w 11 0 < leastDiv (fld w 29 28))⟩) ++
  forN 4 (fun n => ⟨[R.CLK_CKOn_CFG n, R.TMB_PERIOD], let w := z.act (R.CLK_CKOn_CFG n); bit w 30 && z.cycles % fld w 11 0 != 0⟩) ++
  forN 8 (fun n => ⟨[R.TMB_TTn_PERIOD n, R.TMB_TTn_WIDTH n], decide ((z.act (R.TMB_TTn_PERIOD n)).toNat ≤ (z.act (R.TMB_TTn_WIDTH n)).toNat)⟩) ++
  [⟨[R.PTP_DOMx_CFG 0, R.PTP_DOMx_CFG 1],
    let a := z.act (R.PTP_DOMx_CFG 0); let b := z.act (R.PTP_DOMx_CFG 1)
    bit a 0 && bit b 0 && fld a 31 24 == fld b 31 24 && fld a 17 16 == fld b 17 16⟩,
   ⟨[R.PTP_SEL, R.PTP_DOMx_CFG 0, R.PTP_DOMx_CFG 1], !(z.abit (R.PTP_DOMx_CFG (z.afld R.PTP_SEL 0 0)) 0)⟩]

/-- A recorder tap code names no tap (R484). -/
def tapBad (code : Nat) : Bool :=
  let i := code % 4096
  match code / 4096 with
  | 1 => decide (47 < i)
  | 2 => decide (87 < i)
  | 3 => !(decide (i ≤ 10) || (decide (12 ≤ i) && decide (i ≤ 14)))
  | 4 => !(decide (i ≤ 11) || (decide (16 ≤ i) && decide (i ≤ 21)) || (decide (24 ≤ i) && decide (i ≤ 26)) || (decide (28 ≤ i) && decide (i ≤ 33)))
  | 5 => decide (63 < i)
  | 6 => decide (29 < i)
  | 7 => false
  | 8 => decide (127 < i)
  | 9 => decide (8 < i)
  | 10 => decide (0x1FF < i)
  | _ => true

/-- ROW_WORDS (R487). -/
def Dev.rowWords (d : Dev) : Nat := 3 + ((List.range (d.afld R.REC_CFG 6 0)).map (fun c => if d.afld (R.REC_CHc_CFG c) 2 0 = 4 then 2 else 1)).sum
/-- The segment size S in bytes (R488). -/
def Dev.segSize (d : Dev) : Nat := 268435456 / 2 ^ d.afld R.REC_SEG_CFG 3 0
/-- The capacity C in rows (R488). -/
def Dev.segCap (d : Dev) : Nat := (d.segSize - 512) / (4 * d.rowWords)

/-- Checks of the recorder (R484, R486, R489, R496, R498). -/
def crossRec (z o : Dev) : List Cross :=
  let nch := z.afld R.REC_CFG 6 0
  forN (min nch 64) (fun c =>
    let w := z.act (R.REC_CHc_CFG c)
    ⟨[R.REC_CHc_CFG c], tapBad (fld w 31 16) || (fld w 31 28 == 9 && fld w 2 0 != 0)⟩) ++
  [⟨[R.REC_CFG, R.REC_SEG_CFG, R.REC_PRE] ++ forN (min nch 64) R.REC_CHc_CFG, decide (z.segCap ≤ (z.act R.REC_PRE).toNat)⟩,
   ⟨[R.REC_SEG_CFG], z.afld R.REC_SEG_CFG 3 0 != o.afld R.REC_SEG_CFG 3 0 && o.recd.st != 0⟩] ++
  (List.range 8).flatMap (fun t =>
    let w := z.act (R.REC_TRIGt_CFG t)
    [⟨[R.REC_CFG, R.REC_TRIGt_CFG t], decide (nch ≤ fld w 5 0)⟩,
     ⟨[R.REC_CHc_CFG (fld w 5 0), R.REC_TRIGt_CFG t], z.afld (R.REC_CHc_CFG (fld w 5 0)) 31 28 == 9⟩,
     ⟨[R.REC_TRIGt_CFG t, R.REC_TRIGt_A t, R.REC_TRIGt_B t], fld w 30 28 == 2 && decide (z.aval (R.REC_TRIGt_B t) ≤ z.aval (R.REC_TRIGt_A t))⟩])

/-- Bytes of a scan space (R566). -/
def spaceSize (s : Nat) : Nat := match s with | 0 => 0x180000 | 1 => 12582912 | 2 => 8388608 | 3 => 268435456 | _ => 4194304

/-- Checks of DDP, PCI, APU, TLY, PWR and THM (R483, R514, R538, R575, R580, R604). -/
def crossRest (z o : Dev) : List Cross :=
  [⟨[R.DDP_CHOP_VON, R.DDP_CHOP_VOFF, R.DDP_CHOP_VFULL],
    !(decide (z.aval R.DDP_CHOP_VOFF < z.aval R.DDP_CHOP_VON) && decide (z.aval R.DDP_CHOP_VON < z.aval R.DDP_CHOP_VFULL))⟩,
   ⟨[R.DDP_TEST_CFG], decide (z.afld R.DDP_TEST_CFG 31 16 ≤ z.afld R.DDP_TEST_CFG 15 0)⟩] ++
  forN 32 (fun q =>
    let regs := [R.PCI_Qq_CFG q, R.PCI_Qq_SQ_LO q, R.PCI_Qq_SQ_HI q, R.PCI_Qq_CQ_LO q, R.PCI_Qq_CQ_HI q]
    let moved := (regs.drop 1).any (fun r => z.act r != o.act r) || z.afld (R.PCI_Qq_CFG q) 11 8 != o.afld (R.PCI_Qq_CFG q) 11 8 ||
      z.afld (R.PCI_Qq_CFG q) 3 0 != o.afld (R.PCI_Qq_CFG q) 3 0
    ⟨regs, z.abit (R.PCI_Qq_CFG q) 31 && o.abit (R.PCI_Qq_CFG q) 31 && moved⟩) ++
  forN 15 (fun i => ⟨[R.PCI_DIGEST_SELi i], z.abit (R.PCI_DIGEST_SELi i) 31 && (findReg (z.afld (R.PCI_DIGEST_SELi i) 23 0)).isNone⟩) ++
  forN 64 (fun n => ⟨[R.APU_RGNn_BASE n, R.APU_RGNn_END n, R.APU_RGNn_CFG n],
    z.abit (R.APU_RGNn_CFG n) 31 && decide ((z.act (R.APU_RGNn_END n)).toNat ≤ (z.act (R.APU_RGNn_BASE n)).toNat)⟩) ++
  forN 8 (fun j =>
    let c := z.act (R.TLY_JOBj_CFG j)
    let s := (z.act (R.TLY_JOBj_START j)).toNat
    let l := (z.act (R.TLY_JOBj_LEN j)).toNat
    let g := if bit c 22 then 8 else 4
    ⟨[R.TLY_JOBj_CFG j, R.TLY_JOBj_START j, R.TLY_JOBj_LEN j],
      (bit c 31 && decide (spaceSize (fld c 27 24) < s + l)) || s % g != 0 || l % g != 0 || (bit c 22 && fld c 27 24 == 0)⟩) ++
  forN 4 (fun r => ⟨[R.THM_RMTr_CFG r],
    let w := z.act (R.THM_RMTr_CFG r)
    bit w 0 && !(decide (fld w 15 8 < fld w 23 16) && decide (fld w 23 16 < fld w 31 24))⟩) ++
  [⟨[R.PWR_DOMAIN_EN, R.PTP_DOMx_CFG 0, R.PTP_DOMx_CFG 1, R.PCI_ETH_CFG, R.SVI_CTRL],
    !(z.abit R.PWR_DOMAIN_EN 0) && (z.afld R.SVI_CTRL 15 0 != 0 || z.abit (R.PTP_DOMx_CFG 0) 0 || z.abit (R.PTP_DOMx_CFG 1) 0 ||
      [7, 15, 23, 31].any (fun b => z.abit R.PCI_ETH_CFG b))⟩,
   ⟨[R.PWR_DOMAIN_EN, R.ADC_CTRL] ++ forN 24 R.MCD_INm_SRC ++ forN 64 R.LPE_SLOTn_SRC ++ forN 64 R.REC_CHc_CFG,
    !(z.abit R.PWR_DOMAIN_EN 1) && (z.afld R.ADC_CTRL 3 0 != 0 ||
      (List.range 24).any (fun m => z.afld (R.MCD_INm_SRC m) 31 28 == 1 || z.afld (R.MCD_INm_SRC m) 15 12 == 1) ||
      (List.range 64).any (fun n => z.afld (R.LPE_SLOTn_SRC n) 31 28 == 1 || z.afld (R.LPE_SLOTn_SRC n) 15 12 == 1) ||
      (List.range 64).any (fun c => z.afld (R.REC_CHc_CFG c) 31 28 == 1))⟩,
   ⟨[R.PWR_DOMAIN_EN], !(z.abit R.PWR_DOMAIN_EN 2) && o.recd.st != 0⟩,
   ⟨[R.PWR_DOMAIN_EN, R.IKL_LANE_EN], !(z.abit R.PWR_DOMAIN_EN 3) && z.afld R.IKL_LANE_EN 11 6 != 0⟩,
   ⟨[R.PWR_DOMAIN_EN, R.RDN_CFG], !(z.abit R.PWR_DOMAIN_EN 4) && z.abit R.RDN_CFG 0⟩]

/-- The offsets that fail a cross-register check. -/
def Dev.crossFails (d : Dev) : List Nat :=
  let z := { d with active := d.staging }
  (crossEngines z ++ crossLpe z ++ crossMeasure z ++ crossTime z d ++ crossRec z d ++ crossRest z d).filterMap (fun c => if c.bad then d.charge c else none)

/-- The second stage of the checks (R45): the result code and the offset of the first failing register; RANGE before CONFIG_ONLY at one register. Of the registers at their
reset values in both banks only `SVI_STRs_CFG` can fail a range (R399), so these stand beside the listed ones (log 50). -/
def Dev.commitFault (d : Dev) : Option (Nat × Nat) :=
  let offs := (forN 16 R.SVI_STRs_CFG).foldl (fun l o => natInsert o l) (mergeKeys d.active d.staging)
  let cross := d.crossFails
  let range := minOf (cross ++ (offs.find? d.rangeBad).toList)
  let cfg := if d.mode == .config then none else offs.find? d.cfgOnlyBad
  match range, cfg with
  | none, none => none
  | some a, none => some (3, a)
  | none, some b => some (4, b)
  | some a, some b => if a ≤ b then some (3, a) else some (4, b)

-- The commit or abandon of a boundary --------------------------------------------------------------------------------------

/-- The expected generation of a request (R47, R52, R448). -/
def Dev.expected (d : Dev) (r : CommitReq) : Option Word :=
  match r.origin with
  | .entry e => if (d.schedTarget e).testBit 0 then some (d.schedValue e) else none
  | _ => r.expectGen

/-- A request is due at a boundary of station time `b` (R43, R52): it arrived before the boundary (R65), and a scheduled one has reached its time. -/
def Dev.commitDue (d : Dev) (b : Nat) (r : CommitReq) : Bool :=
  decide (r.stamp < b) && match r.origin with
    | .entry e => decide (d.schedT e ≤ b)
    | _ => true

/-- The lateness of a scheduled request (R53). -/
def Dev.reqLate (d : Dev) (b : Nat) (r : CommitReq) : Option Nat :=
  match r.origin with
  | .entry e => d.lateness e b
  | _ => none

/-- The outcome of a request, told with the epoch that begins (R519, R645): its code, fault address, generation, and whether it had effect. -/
def Dev.commitAnswer (d : Dev) (b : Nat) (r : CommitReq) (code fault : Nat) (gen : Word) (effect : Bool) (kNext : Nat) (x : Dev) : Dev :=
  let ep := if effect then kNext else 0
  match r.origin with
  | .desc c => x.complete c 0 code ep [word fault, gen]
  | .entry e =>
    match d.reqLate b r with
    | some l => if code = 1 then x.schedFinal e 3 2 l ep else x.schedFinal e 5 code l ep
    | none => x.schedFinal e (if code = 1 then 2 else 5) code 0 ep
  | .bar0 => x

/-- What step 5 did: the device, whether a commit was applied, and the answers to give once the epoch that begins is known. -/
structure CommitOut where
  dev : Dev
  applied : Bool
  answers : Nat → Dev → Dev

/-- Requests of one kind answered in order. -/
def answerAll (fs : List (Nat → Dev → Dev)) (k : Nat) (x : Dev) : Dev := fs.foldl (fun y f => f k y) x

/-- Step 5: the pending abandon or commit (R44–R53). An abandon leaves DONE in `SYS_COMMIT_STATUS.RESULT`, also where it supersedes commits, whose own requests
complete with SUPERSEDED (DESIGN CHOICE, log 95). -/
def Dev.commitStep (d : Dev) (b : Nat) : CommitOut :=
  let due := d.sys.commitReqs.filter (d.commitDue b)
  let d0 := { d with sys := { d.sys with commitReqs := d.sys.commitReqs.filter (fun r => !(d.commitDue b r)) } }
  match due.getLast? with
  | none => ⟨d0, false, fun _ x => x⟩
  | some last =>
    let win := due.filter (fun r => r.abandon == last.abandon)
    let lose := due.filter (fun r => r.abandon != last.abandon)
    if last.abandon then
      let s := { d0.sys with stageGen := d0.sys.stageGen + 1, dirty := false, commitResult := 1, faultAddr := 0 }
      let g := s.stageGen
      ⟨{ d0 with staging := d0.active, sys := s }, false,
        answerAll (due.map (fun r => if r.abandon then d.commitAnswer b r 1 0 g true else d.commitAnswer b r 7 0 g false))⟩
    else
      let g := d0.sys.stageGen
      let bad : Option (Nat × Nat) := if win.any (fun r => (d.expected r).any (fun x => x != g)) then some (5, 0) else d0.commitFault
      match bad with
      | some (code, addr) =>
        ⟨{ d0 with sys := { d0.sys with commitResult := code, faultAddr := addr } }, false,
          answerAll (win.map (fun r => d.commitAnswer b r code addr g false) ++ lose.map (fun r => d.commitAnswer b r 7 0 g false))⟩
      | none =>
        let lates := win.filterMap (d.reqLate b)
        let s := { d0.sys with dirty := false, commitResult := if lates.isEmpty then 1 else 2, faultAddr := 0, commitLateNs := lates.getLastD d0.sys.commitLateNs }
        ⟨{ d0 with active := d0.staging, sys := s }, true,
          answerAll (due.map (fun r => if r.abandon then d.commitAnswer b r 7 0 g false else d.commitAnswer b r 1 0 g true))⟩

/-- A request is pending for the next boundary (R43, R49). -/
def Dev.commitRequest (d : Dev) (abandon : Bool) (gen : Option Word) (o : Origin) : Dev :=
  { d with sys := { d.sys with commitReqs := d.sys.commitReqs ++ [⟨abandon, gen, o, d.stampNow⟩] } }

end Sys2Proof.Machine
end

