-- ==== Sys2Proof/Machine/Rsv.lean ====
section
/-! DEFINITION. The reserve store (R93, R595–R602): journal records, the ring, compaction, erase, and the restore of a boot. -/
namespace Sys2Proof.Machine

/-- Bytes of a record in the ring (R596). -/
def JRec.size (r : JRec) : Nat := 4 * (9 + 2 * r.entries.length)
/-- Bytes of the journal ring (R595). -/
def ringBytes : Nat := 0x500000
/-- Bytes of the ring in use. -/
def Mram.used (m : Mram) : Nat := (m.ring.map JRec.size).sum
/-- The valid header copy of higher SEQ. -/
def Mram.header (m : Mram) : Option RsvHdr :=
  let a := m.hdrs.getD 0 ⟨false, 0, 0, false, 0, 0⟩
  let b := m.hdrs.getD 1 ⟨false, 0, 0, false, 0, 0⟩
  if a.ok && b.ok then some (if a.seq < b.seq then b else a) else if a.ok then some a else if b.ok then some b else none
/-- The header copy that the next write replaces: an invalid one, or the one of older SEQ. -/
def Mram.older (m : Mram) : Nat :=
  let a := m.hdrs.getD 0 ⟨false, 0, 0, false, 0, 0⟩
  let b := m.hdrs.getD 1 ⟨false, 0, 0, false, 0, 0⟩
  if !a.ok then 0 else if !b.ok then 1 else if a.seq < b.seq then 0 else 1
/-- Write a header copy with the next SEQ. -/
def Mram.writeHeader (m : Mram) (image : Nat) (erased : Bool) (commit start : Nat) : Mram :=
  let q := match m.header with
    | some h => h.seq + 1
    | none => 1
  { m with hdrs := setAt m.hdrs m.older ⟨true, q, image, erased, commit, start⟩ }

/-- A Retained register (R13, R595). -/
def isRetained (off : Nat) : Bool := match findReg off with | some r => r.retained | none => false

/-- Registers written into a table of Retained registers; an unlisted one stands at its factory default. -/
def putRegs (es : List (Nat × Word)) (t : List (Nat × Word)) : List (Nat × Word) := es.foldl (fun m e => spPut resetOf e.1 e.2 m) t

/-- The records of commit `c` in the ring are complete: parts 0 to last, each with a valid CRC (R599). -/
def commitWhole (rs : List JRec) : Bool :=
  !rs.isEmpty && rs.all (·.ok) && (rs.map (·.part) == List.range rs.length) && (match rs.getLast? with | some r => r.last | none => false)

/-- Replay of the commits after `c` (R599): the table, the last commit applied, the number applied. -/
def replay : Nat → List JRec → Nat → List (Nat × Word) → Nat → List (Nat × Word) × Nat × Nat
  | 0, _, c, t, n => (t, c, n)
  | fuel + 1, ring, c, t, n =>
    let rs := ring.filter (fun r => r.commit == (c + 1) % 2 ^ 32)
    if commitWhole rs then replay fuel ring ((c + 1) % 2 ^ 32) (putRegs (rs.flatMap (·.entries)) t) (n + 1) else (t, c, n)

/-- The Retained registers as the MRAM holds them, with the commit they stand at, or none when it holds no image. -/
def Mram.contents (m : Mram) : Option (List (Nat × Word) × Nat × Nat) :=
  match m.header with
  | none => none
  | some h =>
    if h.erased then none
    else
      let im := m.imgs.getD h.image ⟨false, []⟩
      if im.ok then some (replay m.ring.length m.ring h.commit im.regs 0) else none

/-- A reserve-store event (R598, R599, R642). -/
def Dev.rsvEvent (d : Dev) (ref mask : Nat) (data : List Word) : Dev := d.raise Sub.thm 0x100 ref mask data

-- Restore ------------------------------------------------------------------------------------------------------------------

/-- The header and image of a restore (R599). -/
def Mram.choice (m : Mram) : Option (RsvHdr × RsvImg) :=
  match m.header with
  | none => none
  | some h =>
    let im := m.imgs.getD h.image ⟨false, []⟩
    if im.ok then some (h, im)
    else
      match m.hdrs.find? (fun x => x.ok && x.seq != h.seq && !x.erased && (m.imgs.getD x.image ⟨false, []⟩).ok) with
      | some x => some (x, m.imgs.getD x.image ⟨false, []⟩)
      | none => none

/-- Step 5 of BOOT (R93, R94, R599). The restore codes are 0 FACTORY_EMPTY, 1 RESTORED, 2 ROLLED_BACK, 3 FACTORY_ERASED. -/
def Dev.restore (d : Dev) : Dev :=
  let m := d.rsv.mram
  let erased : Bool := match m.header with | some h => h.erased | none => false
  let plain (code : Nat) : Dev :=
    { d with active := [], staging := [], boot := { d.boot with restore := code }
             rsv := { d.rsv with fresh := true, erased := false, replayed := 0, discarded := 0, defaulted := 0 } }
  if erased then
    let d1 := plain 3
    let c := match m.header with | some h => h.commit | none => 0
    { d1 with rsv := { d1.rsv with commitId := c, nextCommit := (c + 1) % 2 ^ 32 } }
  else
    match m.choice with
    | none => plain 0
    | some (h, im) =>
      let (t, c, n) := replay m.ring.length m.ring h.commit im.regs 0
      let kept := m.ring.filter (fun r => decide (r.commit ≤ c))
      let lost := m.ring.length - kept.length
      let z := { d with staging := t }
      let bad := (t.map (·.1)).filter z.rangeBad
      let t' := t.filter (fun x => !(bad.contains x.1))
      let d1 : Dev :=
        { d with active := t', staging := t', boot := { d.boot with restore := if lost = 0 then 1 else 2 }
                 rsv := { d.rsv with mram := { m with ring := kept }, fresh := false, commitId := c, nextCommit := (c + 1) % 2 ^ 32
                                     nextSeq := (kept.foldl (fun a r => max a r.seq) 0) + 1, replayed := min 0xFFFF n, discarded := min 0xFF lost
                                     defaulted := min 0xFF bad.length } }
      if bad.isEmpty then d1 else d1.rsvEvent R.RSV_RESTORE 0x000000FF [word bad.length]

-- Journal ------------------------------------------------------------------------------------------------------------------

/-- Split entries into records of at most 128 (R596). -/
def chunks : Nat → List (Nat × Word) → List (List (Nat × Word))
  | 0, _ => []
  | fuel + 1, es => if es.isEmpty then [] else es.take 128 :: chunks fuel (es.drop 128)

/-- The records of a commit. -/
def recordsOf (commit seq epoch : Nat) (es : List (Nat × Word)) : List JRec :=
  let cs := chunks es.length es
  forN cs.length (fun i => ⟨commit, i, decide (i + 1 = cs.length), seq + i, epoch, cs.getD i [], true⟩)

/-- The fresh image of R602 before the first journal write: factory defaults, ERASED 0. -/
def Rsv.freshImage (r : Rsv) (before : Nat) : Rsv :=
  if r.fresh then
    let m := { r.mram with imgs := setAt r.mram.imgs 0 ⟨true, []⟩, ring := [] }
    { r with mram := m.writeHeader 0 false before m.pos, fresh := false }
  else r

/-- The next waiting record starts, unless one is being written or the store is stopped (R592, R596). -/
def Rsv.startNext (r : Rsv) : Rsv :=
  match r.writing, r.queue with
  | none, x :: rest => if r.stopped then r else { r.freshImage ((x.commit + 2 ^ 32 - 1) % 2 ^ 32) with writing := some x, queue := rest }
  | _, _ => r

/-- A commit's changed Retained registers are journalled, or counted as not retained (R596, R598). -/
def Dev.journal (d : Dev) (es : List (Nat × Word)) (epoch : Nat) : Dev :=
  if es.isEmpty then d
  else
    let r := d.rsv
    let recs := recordsOf r.nextCommit r.nextSeq epoch es
    let need := r.mram.used + ((r.writing.toList ++ r.queue ++ recs).map JRec.size).sum
    if r.stopped || r.erased || r.erasing || decide (ringBytes < need) then
      ({ d with rsv := { r with notRetained := true } }).rsvEvent R.RSV_STATUS 0x08000000 []
    else
      let r1 : Rsv := { r with queue := r.queue ++ recs, nextCommit := (r.nextCommit + 1) % 2 ^ 32, nextSeq := r.nextSeq + recs.length }
      { d with rsv := r1.startNext }

/-- The changed Retained registers of a commit from bank `o` to bank `d`, ascending (R596). -/
def Dev.changedRetained (d o : Dev) : List (Nat × Word) :=
  (mergeKeys o.active d.active).filterMap (fun k => if d.act k != o.act k && isRetained k then some (k, d.act k) else none)

/-- Compaction starts (R597); it is deferred while THROTTLE holds (R590). -/
def Dev.compactStart (d : Dev) : Dev :=
  let r := d.rsv
  if r.compact.isSome || r.erasing || r.erased || r.stopped then d
  else if d.thm.throttle then { d with rsv := { r with compactWait := true } }
  else
    match r.mram.contents with
    | some (t, c, _) => { d with rsv := { r with compact := some ⟨true, t⟩, compactCommit := c, compactWait := false } }
    | none => { d with rsv := { r with compact := some ⟨true, []⟩, compactCommit := r.commitId, compactWait := false } }

/-- A deferred compaction starts when THROTTLE is released (R590). -/
def Dev.compactResume (d : Dev) : Dev := if d.rsv.compactWait && !d.thm.throttle then d.compactStart else d

/-- The record in progress is complete in the MRAM; the next one starts; above 50 % the ring is compacted (R596, R597). -/
def Dev.recordWritten (d : Dev) : Dev :=
  match d.rsv.writing with
  | none => d
  | some x =>
    let r := d.rsv
    let m := { r.mram with ring := r.mram.ring ++ [x], pos := (r.mram.pos + x.size) % ringBytes }
    let r1 : Rsv := { r with mram := m, writing := none, records := sat32 r.records 1, commitId := if x.last then x.commit else r.commitId }
    let d1 : Dev := { d with rsv := r1.startNext }
    if ringBytes < 2 * m.used then d1.compactStart else d1

/-- Compaction ends with the new header (R597); the records it folded in leave the ring. -/
def Dev.compactDone (d : Dev) : Dev :=
  match d.rsv.compact with
  | none => d
  | some im =>
    let r := d.rsv
    let image := match r.mram.header with | some h => 1 - h.image | none => 0
    let rest := r.mram.ring.filter (fun x => decide (r.compactCommit < x.commit))
    let start := (r.mram.pos + ringBytes - (rest.map JRec.size).sum % ringBytes) % ringBytes
    let m := { r.mram with imgs := setAt r.mram.imgs image im, ring := rest }
    { d with rsv := { r with mram := m.writeHeader image false r.compactCommit start, compact := none, fresh := false } }

/-- ERASE starts (R601): nothing is journalled from here to the next boot. -/
def Dev.eraseStart (d : Dev) : Dev :=
  if d.rsv.erasing || d.rsv.erased then d
  else { d with rsv := { d.rsv with erasing := true, queue := [], writing := none, compact := none, compactWait := false } }

/-- ERASE ends: images and ring are zero, a header with ERASED is written (R601). -/
def Dev.eraseDone (d : Dev) : Dev :=
  if !d.rsv.erasing then d
  else
    let m := { d.rsv.mram with imgs := [⟨false, []⟩, ⟨false, []⟩], ring := [], pos := 0 }
    { d with rsv := { d.rsv with mram := m.writeHeader 0 true d.rsv.commitId 0, erasing := false, erased := true } }

/-- The MRAM after power is removed (R600): a record being written fails its CRC, an image being written is not complete; how far an erase had
come is a free value. -/
def Dev.cutMram (d : Dev) : Mram :=
  let r := d.rsv
  let m0 := match r.writing with
    | some x => { r.mram with ring := r.mram.ring ++ [{ x with ok := false }] }
    | none => r.mram
  let m1 := if r.compact.isSome then
      let image := match m0.header with | some h => 1 - h.image | none => 0
      { m0 with imgs := setAt m0.imgs image ⟨false, []⟩ }
    else m0
  if r.erasing then
    let f := d.freeBelow 4
    { m1 with imgs := forN 2 (fun i => if i < f then ⟨false, []⟩ else m1.imgs.getD i ⟨false, []⟩), ring := if f = 3 then [] else m1.ring }
  else m1

end Sys2Proof.Machine
end

