-- ==== Sys2Proof/Machine/Thm.lean ====
section
/-! DEFINITION. Thermal management (R585–R590) and the start of an orderly stop (R592–R594). -/
namespace Sys2Proof.Machine

/-- An orderly stop starts (R592–R594); `cause` is its bit of SYS_RESET_CAUSE. In BOOT steps 1 and 2 are skipped. -/
def Dev.orderlyStop (d : Dev) (cause : Nat) : Dev :=
  if d.pwr.stopAt.isSome || d.pwr.porb || d.pwr.down || d.pwr.brownout then d
  else
    let d1 : Dev := { d with boot := { d.boot with causeNext := d.boot.causeNext ||| 2 ^ cause }, rsv := { d.rsv with stopped := true }
                             pwr := { d.pwr with stopAt := some d.tmb.up, blockDone := d.mode == .boot } }
    if d.mode = .boot then d1 else d1.raiseCause Cause.thermal

/-- Sensor `n` is read in a round (R585). -/
def Dev.sensorOn (d : Dev) (n : Nat) : Bool := decide (n < 8) || (decide (n < 12) && d.abit (R.THM_RMTr_CFG (n - 8)) 0)

/-- The thresholds of sensor `n` in 1/16 °C: WARN, THROTTLE, the release of THROTTLE, STOP (R589). -/
def Dev.thresholds (d : Dev) (n : Nat) : Int × Int × Int × Int :=
  if n < 8 then (1680, 1840, 1760, 2000)
  else
    let w := d.act (R.THM_RMTr_CFG (n - 8))
    (16 * (fld w 15 8 : Int), 16 * (fld w 23 16 : Int), 16 * (fld w 23 16 : Int) - 80, 16 * (fld w 31 24 : Int))

/-- A sensor after one reading (R587): a broken one reads 135.0 °C and stays broken. -/
def Sensor.take (remote : Bool) (s : Sensor) (r : Reading) : Sensor :=
  let eq := if s.equal ≠ 0 ∧ s.code = r.code then s.equal + 1 else 1
  let st := if s.broken ≠ 0 then s.broken else if remote && r.noBias then 1 else if remote && r.short then 2
    else if r.temp < -960 ∨ 2560 < r.temp then 3 else if 64 ≤ eq then 4 else 0
  { s with temp := if st = 0 then r.temp else 2160, read := true, code := r.code, equal := eq, broken := st }

/-- The level of a reading: 0 none, 1 WARN, 2 THROTTLE, 3 STOP. -/
def levelOf (t : Int × Int × Int × Int) (x : Int) : Nat := if t.2.2.2 ≤ x then 3 else if t.2.1 ≤ x then 2 else if t.1 ≤ x then 1 else 0

/-- One event for the sensors of a round that satisfy `p`, with the lowest of them (R642). -/
def Dev.thmEvent (d : Dev) (mask : Nat) (p : Nat → Bool) : Dev :=
  match firstN 12 p with
  | some n => d.raise Sub.thm n R.THM_STATUS mask []
  | none => d

/-- The trims follow the round of sensor 0, or of sensor 1 while it is broken (R588); no update moves the reference by more than 20 µV. -/
def Dev.trims (d : Dev) : Dev :=
  let a := d.freeBelow (2 ^ 32)
  let d1 := d.tookFree
  let b := d1.freeBelow 41
  let d2 := d1.tookFree
  let c := d2.freeBelow (2 ^ 32)
  let d3 := d2.tookFree
  { d3 with thm := { d3.thm with trimGap := a, trimRef := d3.thm.trimRef + ((b : Int) - 20), trimOsc := if d3.clk.freeRun then c else d3.thm.trimOsc } }

/-- The end of a sensor round (R585–R590, R592). -/
def Dev.thermalRound (d : Dev) (rs : List Reading) : Dev :=
  if !(d.domOn 1) then d
  else
    let o := d.thm.sensors
    let old (n : Nat) : Sensor := nth o n {}
    let on (n : Nat) : Bool := d.sensorOn n && decide (n < rs.length)
    let ss := forN 12 (fun n =>
      if on n then
        let x := (old n).take (decide (8 ≤ n)) (rs.getD n ⟨0, 0, false, false⟩)
        { x with level := levelOf (d.thresholds n) x.temp }
      else if d.sensorOn n then old n
      else { old n with level := 0, read := false, equal := 0 })
    let cur (n : Nat) : Sensor := nth ss n {}
    let live (n : Nat) : Bool := d.sensorOn n && (cur n).read
    let any (p : Nat → Bool) : Bool := (List.range 12).any (fun n => live n && p n)
    let warn := any (fun n => decide (1 ≤ (cur n).level))
    let thr := any (fun n => decide (2 ≤ (cur n).level)) || (d.thm.throttle && any (fun n => decide ((d.thresholds n).2.2.1 ≤ (cur n).temp)))
    let stop := any (fun n => decide (3 ≤ (cur n).level))
    let fast := any (fun n => decide ((d.thresholds n).1 - 160 ≤ (cur n).temp))
    let top := ((List.range 12).filter live).foldl (fun (m : Option Int) n => some (match m with | some x => max x (cur n).temp | none => (cur n).temp)) d.thm.peak
    let d1 := { d with thm := { d.thm with sensors := ss, fast := fast, warn := warn, throttle := thr, stop := d.thm.stop || stop, peak := top } }
    let d2 := match firstN 12 (fun n => on n && (cur n).broken != 0 && (old n).broken == 0) with
      | some n => d1.raise Sub.thm n R.THM_STATUS (2 ^ n) []
      | none => d1
    let d3 := d2.thmEvent 0x20000000 (fun n => live n && decide (1 ≤ (cur n).level) && (old n).level == 0)
    let d4 := d3.thmEvent 0x40000000 (fun n => live n && decide (2 ≤ (cur n).level) && decide ((old n).level < 2))
    let d5 := d4.trims.compactResume
    if stop then d5.orderlyStop 3 else d5

end Sys2Proof.Machine
end

