-- ==== Sys2Proof/Machine/Vlt.lean ====
section
/-! DEFINITION. The vault (R546–R563): image verification, vault commands, attestation reports, the service port. -/
namespace Sys2Proof.Machine

-- Images -------------------------------------------------------------------------------------------------------------------

/-- A little-endian field of `n` bytes at `o` (R546). -/
def leAt (bs : List Nat) (o n : Nat) : Nat := ofLe ((bs.drop o).take n)
/-- `n` bytes at `o`. -/
def bytesAt (bs : List Nat) (o n : Nat) : List Nat := (bs.drop o).take n
/-- A hash value as its 64 bytes. -/
def hashBytes (h : Nat) : List Nat := leBytes 64 h
/-- SHA-512 of a byte string. -/
def hashOf (bs : List Nat) : Nat := Config.sha512 bs % 2 ^ 512
/-- The fused firmware key hash (R547). -/
def rootHash : Nat := Config.rootHash % 2 ^ 512

/-- MAGIC of R546. -/
def imageMagic : Nat := 0x4C4E525A
/-- The payload of an image. -/
def imagePayload (bs : List Nat) : List Nat := bytesAt bs 512 (leAt bs 8 4)
/-- The whole image: header and payload. -/
def imageWhole (bs : List Nat) : List Nat := bs.take (512 + leAt bs 8 4)
/-- The SVN of an image. -/
def imageSvn (bs : List Nat) : Nat := leAt bs 12 4
/-- An image carries ADVANCE. -/
def imageAdvance (bs : List Nat) : Bool := (leAt bs 16 4).testBit 0

/-- Checks 1 to 4 of R550 on one image: the failure code, 0 when they pass. 3 FORMAT, 4 KEY, 5 SIGNATURE, 6 HASH. -/
def imageCheck (kind keyHash : Nat) (bs : List Nat) : Nat :=
  let len := leAt bs 8 4
  let part := leAt bs 20 4
  if bs.length < 512 ∨ leAt bs 0 4 ≠ imageMagic ∨ leAt bs 4 2 ≠ kind ∨ leAt bs 6 2 ≠ 1 ∨ part / 65536 ≠ 0x4608 ∨ 0x30 < part % 256 ∨
      (if kind = 1 then 4194304 else 65536) < len ∨ bs.length < 512 + len then 3
  else if hashOf (bytesAt bs 88 132) ≠ keyHash then 4
  else if !(Config.ecdsaVerify (bytesAt bs 88 132) (bs.take 220) (bytesAt bs 220 132)) then 5
  else if leBytes 64 (hashOf (imagePayload bs)) ≠ bytesAt bs 24 64 then 6
  else 0

/-- One record of a configuration image (R548). -/
structure CfgRec where
  type : Nat
  val : List Nat
deriving DecidableEq, Repr

/-- The length of a record type, none for an unknown type. -/
def recLength : Nat → Option Nat
  | 1 => some 4 | 2 => some 4 | 3 => some 4 | 4 => some 4 | 5 => some 64
  | _ => none

/-- The records of a configuration payload; none when one is malformed (R548). -/
def cfgRecords : Nat → List Nat → Option (List CfgRec)
  | 0, bs => if bs.isEmpty then some [] else none
  | fuel + 1, bs =>
    if bs.isEmpty then some []
    else if recLength (leAt bs 0 2) = some (leAt bs 2 2) ∧ 4 + leAt bs 2 2 ≤ bs.length then
      match cfgRecords fuel (bs.drop (4 + leAt bs 2 2)) with
      | some rs => some (⟨leAt bs 0 2, bytesAt bs 4 (leAt bs 2 2)⟩ :: rs)
      | none => none
    else none

/-- The value of a record type, the last one given. -/
def cfgValue (rs : List CfgRec) (t : Nat) : Option Nat := ((rs.filter (fun r => r.type == t)).getLast?).map (fun r => ofLe r.val)

/-- All checks of R550: result code, image concerned, and the records of a verified configuration image. -/
def Vlt.verify (v : Vlt) (fw cfg : List Nat) : Nat × Nat × Option (List CfgRec) :=
  let a := imageCheck 1 rootHash fw
  let c := imageCheck 2 v.ownerHash cfg
  if a ≠ 0 then (a, 0, none)
  else if imageSvn fw < nth v.ctrs 0 0 then (7, 0, none)
  else if v.sealed && cfg.isEmpty then (2, 1, none)
  else if cfg.isEmpty || !v.ownerSet then (1, 0, none)
  else if c ≠ 0 then (c, 1, none)
  else
    match cfgRecords (imagePayload cfg).length (imagePayload cfg) with
    | none => (3, 1, none)
    | some rs =>
      if imageSvn cfg < nth v.ctrs 1 0 then (7, 1, none)
      else if imageSvn fw < (cfgValue rs 2).getD 0 then (7, 0, none)
      else (1, 0, some rs)

/-- A counter raised to an SVN (R551). -/
def raiseCtr (i svn : Nat) (cs : List Nat) : List Nat := modAt cs i (fun x => max x svn)

/-- Step 4 on a pair of images (R549–R551): true when every check has passed. -/
def Dev.imageStep (d : Dev) (fw cfg : List Nat) : Dev × Bool :=
  let v := d.vlt
  let (res, im, recs) := v.verify fw cfg
  let v1 := { v with bootResult := res, bootImage := im, attempts := sat16 v.attempts 1 }
  if res ≠ 1 then ({ d with vlt := v1 }, false)
  else
    let rs := recs.getD []
    let c0 := if imageAdvance fw then raiseCtr 0 (imageSvn fw) v.ctrs else v.ctrs
    let c1 := if recs.isSome && imageAdvance cfg then raiseCtr 1 (imageSvn cfg) c0 else c0
    let v2 : Vlt := { v1 with ctrs := c1, bootPolicy := ((cfgValue rs 3).getD v.bootPolicy) % 4, svcPolicy := ((cfgValue rs 4).getD v.svcPolicy) % 2
                              ownerHash := (cfgValue rs 5).getD v.ownerHash, cfgVerified := recs.isSome, fwPayload := imagePayload fw
                              fwMeas := hashOf (imageWhole fw), cfgMeas := if recs.isSome then hashOf (imageWhole cfg) else 0 }
    ({ d with vlt := v2, pci := { d.pci with subsysId := (cfgValue rs 1).getD d.pci.subsysId } }, true)

/-- The images on the boot flash (R549): the bundle at 0, a configuration image at the first multiple of 4 KiB after it. -/
def flashImages (flash : List Nat) : List Nat × List Nat :=
  let n := 512 + leAt flash 8 4
  let c := cdiv n 4096 * 4096
  (flash, if leAt flash c 4 = imageMagic ∧ c < flash.length then flash.drop c else [])

-- Zeroization and reset ------------------------------------------------------------------------------------------------------

/-- Zeroization up to the clearing of its marker (R562). -/
def Vlt.zeroize (v : Vlt) : Vlt := { v with idPriv := [], idPub := [], cert := [], challenge := [], sealed := false, marker := true }
/-- The end of zeroization (R562). -/
def Vlt.zeroized (v : Vlt) : Vlt := { v with marker := false, st := 2 }
/-- What the vault keeps in its own storage across every reset (R553); an interrupted zeroization is completed first at boot (R563). -/
def Vlt.kept (v : Vlt) : Vlt :=
  { st := v.st, sealed := v.sealed, ownerSet := v.ownerSet, svcPolicy := v.svcPolicy, bootPolicy := v.bootPolicy, marker := v.marker
    ownerHash := v.ownerHash, ctrs := v.ctrs, idPriv := v.idPriv, idPub := v.idPub, cert := v.cert }

-- Commands -------------------------------------------------------------------------------------------------------------------

/-- A fresh list of `n` undetermined bytes. -/
def Dev.freeBytes (d : Dev) (n : Nat) : List Nat × Dev := (forN n (fun i => Config.free (d.free + i) % 256), { d with free := d.free + n })

/-- A command completes at once (R556). -/
def Dev.vltResult (d : Dev) (op res : Nat) : Dev := { d with vlt := { d.vlt with cmdOp := op, cmdResult := res } }

/-- Admission of a command (R556): BUSY, then PRIVILEGE, MODE and STATE in that order; an admitted one does `run`. -/
def Dev.vltCmd (d : Dev) (op maxLvl : Nat) (modeOk stateOk : Bool) (run : Dev → Dev) : Dev :=
  if d.vlt.running.isSome then d.vltResult op 2
  else if decide (maxLvl < d.level none) || !(d.regionAdmits (d.level none) R.VLT_CMD true) then (d.accessFault none 2 R.VLT_CMD true).vltResult op 5
  else if !modeOk then d.vltResult op 4
  else if !stateOk then d.vltResult op 3
  else run d

/-- A command runs from here to its completion, which will give `res`. -/
def Dev.vltRun (d : Dev) (op res : Nat) : Dev := { d with vlt := { d.vlt with running := some op, pendResult := res, cmdOp := op, cmdResult := 0 } }

/-- Words of `VLT_ARGw` as bytes. -/
def Dev.vltArgs (d : Dev) (n : Nat) : List Nat := (forN (cdiv n 4) (fun w => leBytes 4 (d.rwv (R.VLT_ARGw w)).toNat)).flatten.take n

/-- PROVISION. -/
def Dev.provision (d : Dev) : Dev :=
  d.vltCmd 1 0 (d.mode == .config) (d.vlt.st == 0 || d.vlt.st == 2) (fun x =>
    let (k, y) := x.freeBytes 66
    let z := y.vltRun 1 1
    { z with vlt := { z.vlt with st := 1, idPriv := k, idPub := (Config.ecdsaPublic k ++ List.replicate 132 0).take 132, cert := [] } })

/-- SET_OWNER. -/
def Dev.setOwner (d : Dev) : Dev :=
  d.vltCmd 2 0 (d.mode == .config) (!d.vlt.ownerSet) (fun x =>
    let z := x.vltRun 2 1
    { z with vlt := { z.vlt with ownerHash := ofLe (x.vltArgs 64), ownerSet := true } })

/-- STORE_CERT; a LEN outside 1–2,048 completes with RANGE (DESIGN CHOICE, log 120). -/
def Dev.storeCert (d : Dev) (len : Nat) : Dev :=
  d.vltCmd 3 0 (d.mode == .config) (d.vlt.st == 1 && !d.vlt.sealed) (fun x =>
    if len = 0 ∨ 2048 < len then x.vltRun 3 7
    else
      let z := x.vltRun 3 1
      { z with vlt := { z.vlt with cert := x.vltArgs len } })

/-- CTR_INC (R555). -/
def Dev.ctrInc (d : Dev) (i : Nat) : Dev :=
  d.vltCmd 4 0 (d.mode == .config || d.mode == .service) true (fun x =>
    if i < 2 ∨ 15 < i ∨ 0xFFFFFFFF ≤ nth x.vlt.ctrs i 0 then x.vltRun 4 7
    else
      let z := x.vltRun 4 1
      { z with vlt := { z.vlt with ctrs := modAt z.vlt.ctrs i (· + 1) } })

/-- SEAL waits for the boundary (R557). -/
def Dev.sealVault (d : Dev) : Dev :=
  d.vltCmd 5 0 (d.mode == .config) (d.vlt.st == 1 && d.vlt.ownerSet && d.vlt.cfgVerified) (fun x =>
    let z := x.vltRun 5 1
    { z with vlt := { z.vlt with sealPend := true } })

/-- SEAL at step 5 of the boundary, after any commit (R557); the registers with an RWL field are reloaded whole (DEDUCED, log 119). -/
def Dev.sealStep (d : Dev) : Dev :=
  if !d.vlt.sealPend then d
  else
    let v := { d.vlt with sealPend := false, running := none }
    if d.mode = .config then
      let rwl := (List.range 12).map R.DDP_PAIRn_CFG
      { d with vlt := { v with cmdResult := 1, sealed := true }, sys := { d.sys with stageGen := d.sys.stageGen + 1 }
               staging := rwl.foldl (fun m o => spPut resetOf o (d.act o) m) d.staging }
    else { d with vlt := { v with cmdResult := 4 } }

/-- ATTEST (R558); the nonce is that of its arrival. -/
def Dev.attest (d : Dev) : Dev :=
  d.vltCmd 6 2 (d.mode != .boot) (d.vlt.st == 1) (fun x =>
    let z := x.vltRun 6 1
    { z with vlt := { z.vlt with attest := 1, nonce := forN 16 (fun w => x.rwv (R.VLT_ARGw w)), report := [] } })

/-- The APU check value of R558: over the queue configuration and every RWS register of the APU block, ascending. -/
def Dev.apuCheck (d : Dev) : Nat :=
  crc32c (wordBytes ((forN 32 R.PCI_Qq_CFG ++ [R.APU_BAR0_LVL, R.APU_DEFAULT] ++ (forN 64 (fun n => [R.APU_RGNn_BASE n, R.APU_RGNn_END n, R.APU_RGNn_CFG n])).flatten).map d.act))

/-- Bytes 0–303 of a report from the device as the snapshot describes it (R558). -/
def Dev.reportBytes (d : Dev) : List Nat :=
  let v := d.vlt
  leBytes 4 1 ++ leBytes 4 436 ++ leBytes 4 0x4608305A ++
  leBytes 4 (put 31 28 v.st + put 27 27 (b2n v.sealed) + put 26 26 (b2n v.ownerSet) + put 3 0 d.mode.code) ++
  v.nonce.flatMap (fun w => leBytes 4 w.toNat) ++ leBytes 8 d.tmb.epoch ++ leBytes 8 (tSec d.tmb.sync) ++ leBytes 4 (tNs d.tmb.sync) ++
  hashBytes v.fwMeas ++ hashBytes v.cfgMeas ++ v.ctrs.flatMap (leBytes 4) ++ leBytes 4 d.digest ++ leBytes 4 d.apuCheck ++ leBytes 4 0

/-- The boundary forms the report of a waiting ATTEST from the snapshot (R558). -/
def Dev.attestLatch (d : Dev) : Dev := if d.vlt.attest = 1 then { d with vlt := { d.vlt with attest := 2, report := d.reportBytes } } else d

/-- The signed report goes to the output window (R558). -/
def Dev.attestReport (d : Dev) : Dev :=
  if d.vlt.attest ≠ 2 then d
  else
    let v := d.vlt
    let sig := (Config.ecdsaSign v.idPriv v.report (Config.free d.free) ++ List.replicate 132 0).take 132
    { d.tookFree with vlt := { v with attest := 0, running := none, cmdOp := 6, cmdResult := v.pendResult, out := v.report ++ sig, report := [] } }

/-- CHALLENGE (R561). -/
def Dev.challenge (d : Dev) : Dev :=
  d.vltCmd 7 0 (d.mode == .service) (d.vlt.svcPolicy == 0 && decide (d.vlt.unlockFails < 3)) (fun x =>
    let (bs, y) := x.freeBytes 64
    let z := y.vltRun 7 1
    { z with vlt := { z.vlt with challenge := bs, challengeEnd := y.tmb.up + 60 * secU, out := bs } })

/-- A challenge expires (R561). -/
def Dev.challengeExpiry (d : Dev) : Dev :=
  if !d.vlt.challenge.isEmpty && decide (d.vlt.challengeEnd ≤ d.tmb.up) then { d with vlt := { d.vlt with challengeEnd := 0 } } else d

/-- UNLOCK (R561, R562): a challenge serves once; the port opens when the command completes. -/
def Dev.unlock (d : Dev) : Dev :=
  d.vltCmd 8 0 (d.mode == .service) (!d.vlt.challenge.isEmpty) (fun x =>
    let v := x.vlt
    let msg := v.challenge ++ leBytes 4 0x4608305A ++ (v.idPub ++ List.replicate 132 0).take 132
    if v.challengeEnd ≤ x.tmb.up then
      let z := x.vltRun 8 8
      { z with vlt := { z.vlt with challenge := [] } }
    else if v.ownerSet && !(Config.ecdsaVerify (hashBytes v.ownerHash) msg (x.vltArgs 132)) then
      let z := x.vltRun 8 6
      { z with vlt := { z.vlt with challenge := [], unlockFails := min 3 (v.unlockFails + 1) } }
    else
      let z := x.vltRun 8 1
      { z with vlt := z.vlt.zeroize })

/-- A running command finishes (R556); UNLOCK ends zeroization and opens the port (R561 steps 5 and 6). SEAL and ATTEST have completions of their own. -/
def Dev.vltComplete (d : Dev) : Dev :=
  match d.vlt.running with
  | none => d
  | some op =>
    if op = 5 ∨ op = 6 then d
    else
      let d1 := { d with vlt := { d.vlt with running := none, cmdOp := op, cmdResult := d.vlt.pendResult } }
      if op = 8 ∧ d.vlt.marker then
        let d2 := { d1 with vlt := d1.vlt.zeroized }
        if d2.mode = .service then ({ d2 with vlt := { d2.vlt with svcOpen := true } }).raise Sub.vlt 0 R.VLT_STATE 0x02000000 [] else d2
      else d1

/-- The port closes when the device leaves SERVICE (R560). -/
def Dev.closePort (d : Dev) : Dev := if d.mode = .service then d else { d with vlt := { d.vlt with svcOpen := false } }

end Sys2Proof.Machine
end

