-- ==== Sys2Proof/Machine/Tly.lean ====
section
/-! DEFINITION. The scan jobs of the tally unit (R564–R571). -/
namespace Sys2Proof.Machine

/-- Job `j`. -/
def Dev.job (d : Dev) (j : Nat) : Job := nth d.jobs j {}
/-- Replace job `j`. -/
def Dev.setJob (d : Dev) (j : Nat) (x : Job) : Dev := { d with jobs := setAt d.jobs j x }

/-- The job whose pass runs (R567): the lowest-numbered with a pass due and not complete; none while THROTTLE holds (R590). -/
def Dev.runningJob (d : Dev) : Option Nat :=
  if d.thm.throttle then none else (List.range 8).find? (fun j => (d.job j).st != 0 && !(d.job j).restart)

/-- Which passes run, wait or stand pre-empted after a change (R567, R590). -/
def Dev.tlySettle (d : Dev) : Dev :=
  let r := d.runningJob
  (List.range 8).foldl (fun (x : Dev) (j : Nat) =>
    let y := x.job j
    if y.st = 0 then x
    else if r = some j then (if y.st = 1 then x.setJob j { y with st := 2, startEpoch := x.tmb.epoch, moved := false } else x.setJob j { y with st := 2 })
    else if y.st = 2 then x.setJob j { y with st := 3 } else x) d

/-- A pass of job `j` is skipped and counted as late (R567). -/
def Dev.passLate (d : Dev) (j : Nat) : Dev :=
  (d.setJob j { d.job j with lateCnt := sat16 (d.job j).lateCnt 1 }).setSticky (R.TLY_JOBj_STAT j) 0x04000000

/-- A pass of job `j` falls due now (R567, R590). -/
def Dev.passNow (d : Dev) (j : Nat) : Dev :=
  if d.thm.throttle || (d.job j).st != 0 then d.passLate j else (d.setJob j { d.job j with st := 1 }).tlySettle

/-- The time of the next pass. -/
def Dev.nextPass (d : Dev) (j t : Nat) : Option Nat :=
  let n := d.afld (R.TLY_JOBj_CFG j) 15 0
  if n = 0 then none else some (t + n * msU)

/-- The interval of a job has passed (R567). -/
def Dev.passDue (d : Dev) (j : Nat) : Dev :=
  match (d.job j).dueAt with
  | some t => if t ≤ d.tmb.up then (d.setJob j { d.job j with dueAt := d.nextPass j t }).passNow j else d
  | none => d

/-- The result of a CRC over bytes (R564): polynomial 0 CRC-32, 1 CRC-32C, 2 CRC-64, 3 CRC-16. -/
def polyOf (p : Nat) (bs : List Nat) : Nat := match p with | 0 => crc32 bs | 1 => crc32c bs | 2 => crc64 bs | _ => crc16 bs

/-- The bytes a pass of job `j` reads, or none where the spec does not give the content of the memory or the range moved during the pass (R566, R568). -/
def Dev.scanBytes (d : Dev) (dram : List Host.Cell) (j : Nat) : Option (List Nat) :=
  let a := (d.act (R.TLY_JOBj_START j)).toNat
  let n := (d.act (R.TLY_JOBj_LEN j)).toNat
  match d.afld (R.TLY_JOBj_CFG j) 27 24 with
  | 0 => some (wordBytes (forN (n / 4) (fun i => d.act (a + 4 * i))))
  | 3 => if (d.job j).moved then none else some (dramBytes dram a n)
  | 4 => some (forN n (fun i => d.vlt.fwPayload.getD (a + i) 0))
  | _ => none

/-- A pass of job `j` ends (R568, R570): `corrected` single-bit errors, uncorrectable words at `bad`. -/
def Dev.passDone (d : Dev) (dram : List Host.Cell) (j corrected : Nat) (bad : List Nat) : Dev :=
  let x := d.job j
  if x.st ≠ 2 ∨ x.restart then d
  else
    let c := d.act (R.TLY_JOBj_CFG j)
    let p := fld c 21 20
    let width := if p = 2 then 2 ^ 64 else if p = 3 then 2 ^ 16 else 2 ^ 32
    let (d0, res) := match d.scanBytes dram j with
      | some bs => (d, polyOf p bs)
      | none => (d.tookFree, Config.free d.free % width)
    let expd := (d.act (R.TLY_JOBj_EXP_LO j)).toNat + (if p = 2 then (d.act (R.TLY_JOBj_EXP_HI j)).toNat * 2 ^ 32 else 0)
    let mism := bit c 30 && res != expd
    let scrub := bit c 22
    let stop := mism && fld c 29 28 == 1
    let y := { x with st := 0, passes := sat16 x.passes 1, resLo := res % 2 ^ 32, resHi := res / 2 ^ 32, ueLast := scrub && !bad.isEmpty
                      corrected := if scrub then sat16 x.corrected corrected else x.corrected
                      uncorr := if scrub then sat16 x.uncorr bad.length else x.uncorr
                      ueAddr := if scrub then bad.getLastD x.ueAddr else x.ueAddr
                      stopped := x.stopped || stop, dueAt := if stop then none else x.dueAt }
    let d1 := d0.setJob j y
    let d2 := if mism then
        (d1.setSticky (R.TLY_JOBj_STAT j) 0x08000000).raise Sub.tly j (R.TLY_JOBj_STAT j) 0x08000000
          [word j, lo32 res, hi32 res, lo32 expd, hi32 expd, lo32 x.startEpoch, hi32 x.startEpoch]
      else d1
    let d3 := if y.ueLast then d2.raise Sub.tly j (R.TLY_JOBj_UE_ADDR j) 0 [word j, word y.ueAddr] else d2
    d3.tlySettle

/-- The range of job `j` holds the 64-bit word at `a` of a space (R571). -/
def Dev.jobHolds (d : Dev) (j space a : Nat) : Bool :=
  let s := (d.act (R.TLY_JOBj_START j)).toNat
  d.afld (R.TLY_JOBj_CFG j) 27 24 == space && decide (s < a + 8) && decide (a < s + (d.act (R.TLY_JOBj_LEN j)).toNat)

/-- Job `j` reads register offset `o` of space 0 in a pass that is under way. -/
def Dev.scans (d : Dev) (j o : Nat) : Bool :=
  let a := (d.act (R.TLY_JOBj_START j)).toNat
  (d.job j).st != 0 && (d.job j).st != 1 && d.afld (R.TLY_JOBj_CFG j) 27 24 == 0 && decide (a ≤ o) && decide (o < a + (d.act (R.TLY_JOBj_LEN j)).toNat)

/-- The boundary: abandoned passes of the boundary before start again (R569). -/
def Dev.tlyRestart (d : Dev) : Dev :=
  ((List.range 8).foldl (fun (x : Dev) (j : Nat) => if (x.job j).restart then x.setJob j { x.job j with restart := false, st := 1 } else x) d).tlySettle

/-- Active copies have changed at these offsets: passes over them are abandoned (R569). -/
def Dev.tlyAbandon (d : Dev) (offs : List Nat) : Dev :=
  ((List.range 8).foldl (fun (x : Dev) (j : Nat) =>
    if offs.any (x.scans j) then x.setJob j { x.job j with restart := true, restarts := sat16 (x.job j).restarts 1 } else x) d).tlySettle

/-- The consequences of a commit for the jobs (R567, R568): enabled jobs have a pass due, disabled ones end. -/
def Dev.tlyCommitted (d o : Dev) : Dev :=
  (List.range 8).foldl (fun (x : Dev) (j : Nat) =>
    let on := x.abit (R.TLY_JOBj_CFG j) 31
    let was := o.abit (R.TLY_JOBj_CFG j) 31
    if on && !was then (x.setJob j { x.job j with st := 0, stopped := false, restart := false, dueAt := x.nextPass j x.tmb.up }).passNow j
    else if !on && was then (x.setJob j { x.job j with st := 0, restart := false, dueAt := none }).tlySettle
    else x) d

/-- The recorder has written to the DRAM while passes over it were under way (R568). -/
def Dev.tlyMoved (d : Dev) : Dev :=
  { d with jobs := forN 8 (fun j => let x := d.job j; if x.st ≠ 0 ∧ d.afld (R.TLY_JOBj_CFG j) 27 24 = 3 then { x with moved := true } else x) }

end Sys2Proof.Machine
end

