-- ==== Sys2Proof/Machine/Views.lean ====
section
/-! DEFINITION. What the read-only fields of each register show of a device (R6, R70, R77 … R603), and the read windows (R289, R290, R342, R503, R558).
`b` is the offset of the register group in its block window, `i` the index of the register inside the group. -/
namespace Sys2Proof.Machine

/-- The pending scheduled mode change of the earliest time. -/
def Dev.schedMode (d : Dev) : Option Nat :=
  ((List.range 16).filter (fun e => (d.sched e).st == 1 && d.schedKind e == 2)).foldl (fun (b : Option Nat) (e : Nat) =>
    match b with
    | some x => if d.schedT e < d.schedT x then some e else b
    | none => some e) none

/-- `SYS_MODE` (R77). -/
def Dev.modeWord (d : Dev) : Word :=
  let s := d.sys
  word (put 31 28 s.mode.code + put 27 24 s.prev.code + put 23 20 d.retCode + put 16 16 (b2n (s.tripCause != 0)) + put 15 15 (b2n d.schedMode.isSome)
    + put 11 8 ((d.schedMode.map d.schedTarget).getD 0) + put 1 1 (b2n d.ramping) + put 0 0 (b2n s.charged))

/-- `SYS_MODE_RESULT` (R77). -/
def Dev.modeResultWord (d : Dev) : Word :=
  let s := d.sys
  word (put 31 28 s.mrResult + put 27 27 (b2n s.mrLate) + put 26 26 (b2n s.mrClamped) + put 23 20 s.mrTarget + put 19 16 s.mrSource)

/-- `SYS_FRT_STATUS` (R127). -/
def Dev.frtWord (d : Dev) : Word :=
  word (put 31 31 (b2n (d.mode == .frt)) + put 30 30 (b2n d.frt.causeDc) + put 29 29 (b2n d.frt.causeAc) + put 15 0 d.frt.entries)

/-- The SYS block (R6, R57, R70, R77, R95, R127, R130, R584). -/
def Dev.roSys (d : Dev) (b : Nat) : Word :=
  let s := d.sys
  match b with
  | 0x00 => 0x4608305A
  | 0x10 => lo32 d.tmb.epoch
  | 0x14 => hi32 d.tmb.epoch
  | 0x24 => word (put 31 28 s.commitResult + put 23 0 s.faultAddr)
  | 0x28 => lo32 s.commitEpoch
  | 0x2C => hi32 s.commitEpoch
  | 0x30 => word s.commitLateNs
  | 0x34 => s.stageGen
  | 0x3C => word (b2n s.dirty)
  | 0x44 => word s.digestDrop
  | 0x48 => word s.overruns
  | 0x50 => d.modeWord
  | 0x58 => d.modeResultWord
  | 0x5C => word s.modeLateNs
  | 0x60 => lo32 s.modeEpoch
  | 0x64 => hi32 s.modeEpoch
  | 0x6C => word s.tripCause
  | 0x74 => lo32 s.tripEpoch
  | 0x78 => hi32 s.tripEpoch
  | 0x7C => word (put 31 28 d.boot.restore + put 27 24 d.boot.source + b2n d.boot.selfTestOk)
  | 0x8C => d.frtWord
  | 0xA0 => word d.boot.cause
  | _ => 0

/-- The PWR block (R603). -/
def Dev.roPwr (d : Dev) (b : Nat) : Word :=
  match b with
  | 0x04 => word (1 + 2 * bitmap 14 (fun n => d.domOn (n + 1)))
  | 0x08 => word (put 31 31 (b2n d.pwr.stopAt.isSome) + put 30 30 (b2n d.pwr.pwrFail))
  | _ => 0

/-- `CLK_STATUS` (R454). -/
def Dev.clkWord (d : Dev) : Word :=
  let c := d.clk
  word (put 31 31 (b2n c.lock) + put 30 30 (b2n c.fallback) + put 29 29 (b2n c.freeRun) + put 28 28 (b2n c.refOk) + put 27 27 (b2n c.aligned)
    + put 26 26 (b2n c.freqClamp) + put 15 0 c.lockLoss)

/-- The CLK block (R425, R430, R431, R454). -/
def Dev.roClk (d : Dev) (b : Nat) : Word :=
  let c := d.clk
  match b with
  | 0x10 => d.clkWord
  | 0x14 => if c.mult = 0 then 0 else rnd (((c.mult : Rat) / (d.multNom : Rat) - 1) * 1000000)
  | 0x18 => rnd (c.err * 5 / 12)
  | 0x1C => word (c.mult / 2 ^ 32 % 512)
  | 0x20 => lo32 c.mult
  | 0x24 => BitVec.ofInt 32 c.pstep
  | _ => 0

/-- The TMB block (R428, R455). -/
def Dev.roTmb (d : Dev) (b i : Nat) : Word :=
  let t := d.tmb
  match b with
  | 0x14 => lo32 t.capSec
  | 0x18 => hi32 t.capSec
  | 0x1C => word t.capNs
  | 0x20 => word (put 31 16 t.capFrac)
  | 0x30 => lo32 (wrapInt 40 t.trim)
  | 0x34 => hi32 (wrapInt 40 t.trim)
  | 0x54 => word (put 31 28 t.result)
  | 0x60 => word (put 31 31 (b2n t.running) + put 30 30 (b2n d.clk.fallback) + put 15 0 t.steps)
  | 0x218 => word (put 31 31 (b2n (d.tt i).coarse) + put 15 0 (d.tt i).missed)
  | 0x414 => (d.sched i).statusWord
  | 0x418 => word (d.sched i).lateNs
  | _ => 0

/-- `PTP_STATUS` but for its W1C bit (R456). -/
def Dev.ptpWord (d : Dev) : Word := word (put 31 31 d.ptp.active + put 30 30 (b2n (d.ptp.rem != 0)) + put 15 0 d.ptp.switches)

/-- The PTP block (R439–R443, R456). -/
def Dev.roPtp (d : Dev) (b i : Nat) : Word :=
  let y := d.dom i
  match b with
  | 0x14 => d.ptpWord
  | 0x18 => rnd ((d.ptp.rem : Rat) / (nsU : Rat))
  | 0x114 => word (put 31 28 y.st + put 27 27 (b2n (d.domLocked i)) + put 26 26 (b2n y.frozen) + put 15 0 y.steps)
  | 0x118 => lo32 (wrapInt 64 y.ofs)
  | 0x11C => hi32 (wrapInt 64 y.ofs)
  | 0x120 => rnd ((y.mpd : Rat) / 131072)
  | 0x124 => rnd y.mpdRef
  | _ => 0

/-- The PCI block (R537). -/
def Dev.roPci (d : Dev) (b i : Nat) : Word :=
  let x := d.pci
  match b with
  | 0x00 => word (put 31 28 x.speed + put 27 24 x.width + put 16 16 (b2n x.up) + put 15 0 x.downCnt)
  | 0x14 => word x.evLost
  | 0x24 => word (put 31 16 x.ethNoBuf + put 15 0 x.ethRejected)
  | 0x1020 => let q := d.queue i; word (put 31 28 q.st + put 27 24 q.err + put 23 12 q.sqHead + put 11 0 q.cqTail)
  | 0x1024 => word (d.queue i).drop
  | _ => 0

/-- Word `i` of a little-endian number. -/
def numWord (x i : Nat) : Word := word (x / 2 ^ (32 * i))

/-- The VLT block (R573). -/
def Dev.roVlt (d : Dev) (b i : Nat) : Word :=
  let v := d.vlt
  match b with
  | 0x000 => word (put 31 28 v.st + put 27 27 (b2n v.sealed) + put 26 26 (b2n v.ownerSet) + put 25 25 (b2n v.svcOpen) + put 24 24 (b2n (v.svcPolicy == 1))
      + put 23 22 v.bootPolicy + put 1 0 v.unlockFails)
  | 0x004 => word (put 31 28 v.bootResult + put 27 24 v.bootImage + put 15 0 v.attempts)
  | 0x044 => word (put 31 28 v.cmdResult + put 27 27 (b2n v.running.isSome) + put 19 16 v.cmdOp)
  | 0x100 => numWord rootHash i
  | 0x140 => numWord v.ownerHash i
  | 0x180 => numWord v.fwMeas i
  | 0x1C0 => numWord v.cfgMeas i
  | 0x200 => word (nth v.ctrs i 0)
  | 0x300 => if v.st = 1 then word (leAt v.idPub (4 * i) 4) else 0
  | _ => 0

/-- The APU block (R543, R572). -/
def Dev.roApu (d : Dev) (b : Nat) : Word :=
  match b with
  | 0x10 => word d.apu.ofs
  | 0x14 => word d.apu.info
  | 0x18 => word d.apu.cnt
  | _ => 0

/-- The ADC block (R384, R388, R391). `j` is the second index of a group with two. -/
def Dev.roAdc (d : Dev) (b i j : Nat) : Word :=
  let x := d.core i
  match b with
  | 0x004 => word (put 7 4 (bitmap 4 (fun c => (d.core c).pd)) + put 3 0 (bitmap 4 (fun c => (d.core c).ready)))
  | 0x150 | 0x250 | 0x350 | 0x450 => word (put 20 16 1)
  | 0x160 => word (put 31 16 x.ovrCnt + put 15 8 x.injOvr + put 7 0 x.injLost)
  | 0x164 => word x.seqEnd
  | 0x1000 => wAt x.res j
  | 0x1100 => wAt x.injRes j
  | 0x1140 => word x.injSec
  | 0x1144 => word x.injNs
  | 0x1148 => word x.injEpoch
  | _ => 0

/-- The SVI block (R398, R399). -/
def Dev.roSvi (d : Dev) (b i j : Nat) : Word :=
  let x := d.stream i
  match b with
  | 0x004 => word (bitmap 16 (fun s => (d.stream s).ok != 0))
  | 0x160 => word (put 31 16 x.smp3 + put 15 14 x.synch3 + put 7 0 x.ok)
  | 0x164 => word x.disc
  | 0x168 => word x.dup
  | 0x16C => word x.gap
  | 0x170 => word x.age
  | 0x1000 => wAt x.out j
  | _ => 0

/-- `MCD_STATUS` (R411). -/
def Dev.mcdWord (d : Dev) : Word :=
  let m := d.mcdNow
  word (((List.range 6).foldl (fun (a : Nat) (s : Nat) => a + b2n (nth m.inv s false) * 2 ^ (31 - s)) 0) + put 23 20 (bitmap 4 (fun s => (nth m.filt s {}).flh)))

/-- The MCD block (R410, R411); conditioning does not run in BOOT (R73), where an input keeps its reset value. -/
def Dev.roMcd (d : Dev) (b i : Nat) : Word :=
  let m := d.mcdNow
  match b with
  | 0x020 => d.mcdWord
  | 0x10C => let x := nth m.ins i {}; if d.mode == .boot then 0 else word (put 31 31 (b2n (!x.invalid)) + put 30 30 (b2n x.alt) + put 29 29 (b2n x.held) + put 15 0 (min x.hold 65535))
  | 0x400 => wAt m.q i
  | _ => 0

/-- `GFE_STATUS` (R179). -/
def Dev.gfeWord (d : Dev) : Word :=
  let o := d.gc.go
  word (put 31 31 (b2n o.limit) + put 30 30 (b2n o.limitNeg) + put 29 29 (b2n (decide (decConst (1 / 1000) < rabs (fv d.gc.g.xtr)))) + put 28 28 (b2n o.freqClamp)
    + put 27 27 (b2n o.pmClamp) + put 23 23 (b2n o.restFSat) + put 22 22 (b2n o.restVSat) + put 21 21 (b2n o.vlSat) + put 20 20 (b2n o.clHold)
    + put 8 8 (b2n o.frtPrio) + put 3 0 o.law)

/-- The GFE block (R120, R179). -/
def Dev.roGfe (d : Dev) (b : Nat) : Word :=
  let g := d.gc.g
  let o := d.gc.go
  match b with
  | 0x004 => d.gfeWord
  | 0x104 => word (put 31 31 (b2n d.sys.deadBus) + put 30 30 (b2n g.rampDone) + put 29 29 (b2n g.rampHeld))
  | 0x108 => g.ebs
  | 0x160 => word (put 31 28 g.rsState)
  | 0x164 => o.dang
  | 0x168 => o.df
  | 0x16C => o.dv
  | 0x204 => d.sys.hoAngle
  | 0x300 => rnd (accAngle o.thetaK)
  | 0x304 => o.freq
  | 0x308 => rnd (accAngle o.pllK)
  | 0x30C => o.pllFreq
  | 0x310 => g.pe
  | 0x314 => g.qe
  | 0x318 => o.pm
  | 0x31C => o.emf
  | 0x320 => g.dpRest
  | 0x324 => g.dvRest
  | 0x328 => o.pavail
  | 0x330 => o.irefA
  | 0x334 => o.irefR
  | 0x338 => o.irefN
  | _ => 0

/-- IDC_ZERO (R205): |i_dc| was small enough in every epoch that began in the last 10 ms. -/
def Dev.idcZero (d : Dev) : Bool := d.prc.idcZero

/-- `CCE_STATUS` (R208). -/
def Dev.cceWord (d : Dev) : Word :=
  let o := d.gc.co
  word (put 31 31 (b2n d.gc.c.tblk) + put 30 30 (b2n o.dcf) + put 29 29 (b2n d.idcZero) + put 28 28 (b2n o.wSat) + put 27 27 (b2n o.balSat) + put 21 16 o.armOc
    + put 13 8 o.armLim + put 3 0 o.law)

/-- The CCE block (R98, R208). -/
def Dev.roCce (d : Dev) (b i : Nat) : Word :=
  let o := d.gc.co
  let f := d.gc.c.filt
  match b with
  | 0x004 => d.cceWord
  | 0x300 => wAt f (7 + i)
  | 0x318 => wAt f 0
  | 0x31C => o.pW
  | 0x320 => o.vdc
  | 0x324 => o.idc
  | 0x328 => o.idcRef
  | 0x32C => o.pref
  | 0x340 => wAt o.vArm i
  | 0x360 => wAt o.icirc i
  | 0x370 => wAt o.iarm i
  | 0x410 => word (put 31 28 d.prc.stage + put 15 0 d.prc.vmean)
  | _ => 0

/-- The LPE block (R222). -/
def Dev.roLpe (d : Dev) (b i : Nat) : Word :=
  let s (n : Nat) : Slot := nth d.lpe.slots n {}
  let man (n : Nat) : Bool := (s n).on && (!(d.abit (R.LPE_SLOTn_CTRL n) 30) || bit (d.stk (R.LPE_SLOTn_STAT n)) 28)
  let p := nth d.lpe.pulses i {}
  match b with
  | 0x010 => word (bitmap 32 (fun n => (s n).sat))
  | 0x014 => word (bitmap 32 (fun n => (s (n + 32)).sat))
  | 0x018 => word (bitmap 32 man)
  | 0x01C => word (bitmap 32 (fun n => man (n + 32)))
  | 0x104 => p.freq
  | 0x108 => p.duty
  | 0x10C => word (put 31 31 (b2n p.valid) + put 30 30 (b2n p.timedOut))
  | 0x1070 => (s i).u
  | 0x1074 => let x := s i; word (put 31 31 (b2n x.sat) + put 30 30 (b2n x.iSat) + put 29 29 (b2n (man i)) + put 25 25 (b2n x.srcInvalid) + put 24 24 (b2n x.bank)
      + put 7 0 (min x.count 255))
  | 0x1078 => (s i).err
  | 0x107C => (s i).i
  | _ => 0

/-- `RAE_STATUS` (R247). -/
def Dev.raeWord (d : Dev) : Word :=
  let r := d.rae
  word (put 31 31 (b2n r.void) + put 30 28 r.sel + put 27 24 r.fired + put 23 20 r.computed + put 19 16 r.suppressed + put 10 8 r.c3arm)

/-- The RAE block (R247). -/
def Dev.roRae (d : Dev) (b i : Nat) : Word :=
  match b with
  | 0x04 => d.raeWord
  | 0x10 => word (nth d.rae.fireCnt i 0)
  | 0x20 => word (nth d.rae.selCnt i 0)
  | 0x30 => lo32 d.rae.lastEpoch
  | 0x34 => hi32 d.rae.lastEpoch
  | _ => 0

/-- Arm `n`. -/
def Dev.arm6 (d : Dev) (n : Nat) : Arm := nth d.mbe.arms n {}

/-- `MBE_STATUS` (R288). -/
def Dev.mbeWord (d : Dev) : Word :=
  let m (f : Arm → Bool) : Nat := bitmap 6 (fun n => f (d.arm6 n))
  word (put 29 24 (m (·.vlim)) + put 21 16 (m (·.redLow)) + put 13 8 (m (·.swapCap)) + put 5 0 (m (·.neg)))

/-- Mean usable voltage of an arm in volts (R288); 0 without a usable node, as at reset. -/
def Arm.vmean (a : Arm) : Rat := if a.nUsable = 0 then 0 else ((sumVolt Cell.usable a.cells : Rat) / 20) / (a.nUsable : Rat)

/-- The MBE block (R281, R282, R288). -/
def Dev.roMbe (d : Dev) (b i : Nat) : Word :=
  let a := d.arm6 i
  let n (p : Nat → Bool) : Nat := cnt (fun c => p c.st) a.cells
  match b with
  | 0x004 => d.mbeWord
  | 0x200 => word (put 25 16 a.nUsable + put 9 0 a.cells.length)
  | 0x204 => word (put 25 16 (n (· == 2)) + put 9 0 (n (fun s => decide (3 ≤ s))))
  | 0x208 => word (put 25 16 a.nFb + put 15 0 (wrapInt 16 (d.redundancy i a)))
  | 0x20C => word (put 31 31 (b2n a.pwm) + put 30 30 (b2n a.neg) + put 29 29 (b2n a.dir) + put 9 0 a.nIns)
  | 0x210 => word (put 31 16 a.on + put 15 0 a.off)
  | 0x214 => word (put 31 16 a.swaps + put 15 0 a.changes)
  | 0x218 => rnd a.vmean
  | 0x21C => word (sat32 a.swTotal a.changes)
  | _ => 0

/-- Admitted nodes that satisfy `p`. -/
def Dev.admittedN (d : Dev) (p : NodeEnt → Bool) : Nat := (d.ikl.nodes.filter (fun x => x.2.adm != 0 && p x.2)).length

/-- DEADLINE of R341 in units of 0.125 ns: Tc less the largest D. -/
def Dev.deadline (d : Dev) : Rat := (10 * d.cycles : Rat) / 3 - (lastDeliv d.laneOn (inForce d.ikl.nodes) : Rat)

/-- `IKL_BUDGET` in 1.25 ns units (R310, R341). -/
def Dev.budgetWord (d : Dev) : Word := word (put 31 16 (4 * lastCut d.laneOn d.ikl.lanes) + put 15 0 (roundFree (d.deadline / 10)).toNat)

/-- `IKL_MARGIN` in ns (R341). -/
def Dev.marginWord (d : Dev) : Word := BitVec.ofInt 32 (roundFree (d.deadline / 8 - 5 * (lastCut d.laneOn d.ikl.lanes : Rat) - 700))

/-- `IKL_STATUS` (R341). -/
def Dev.iklWord (d : Dev) : Word := word (put 27 16 (bitmap 12 (fun n => (nth d.ikl.lanes n {}).lock)) + put 11 0 d.ikl.flashSnap)

/-- The IKL block (R327, R341); in BOOT the lanes are silent (R71), and budget, margin and delivery keep their reset values. -/
def Dev.roIkl (d : Dev) (b i : Nat) : Word :=
  let x := d.ikl
  let l := nth x.lanes i {}
  let mine := x.nodes.filter (fun p => p.2.lane == i && p.2.adm != 0)
  match b with
  | 0x10 => d.iklWord
  | 0x14 => word (put 28 16 (d.admittedN NodeEnt.sm) + put 6 0 (d.admittedN (fun e => !e.sm)))
  | 0x18 => if d.mode == .boot then 0 else d.budgetWord
  | 0x1C => if d.mode == .boot then 0 else d.marginWord
  | 0x24 => word (put 31 28 (if x.disc ≤ 2 then x.disc else 2) + put 12 0 x.admitted)
  | 0x2C => word (put 21 16 x.ovf.length + put 15 0 x.ovfTotal)
  | 0x40 => lo32 x.mapSnap
  | 0x44 => word (x.mapSnap / 2 ^ 32 % 16)
  | 0x6C => word (put 31 28 x.mgmt.result + put 27 25 x.mgmt.rlen + put 12 0 x.mgmt.rnode)
  | 0xB0 => wAt x.mgmt.resp i
  | 0x100 => word (put 31 25 (mine.filter (fun p => !p.2.sm)).length + put 24 16 l.nc + put 8 0 (mine.filter (fun p => p.2.sm)).length)
  | 0x104 => word (put 31 16 l.nr + put 15 0 (roundFree ((l.rstart : Rat) / 10)).toNat)
  | 0x108 => word l.cutTicks
  | 0x10C => if d.mode == .boot then 0 else word (put 31 16 l.frameLen + put 15 0 (roundFree ((deliv (inForce x.nodes) i : Rat) / 10)).toNat)
  | 0x110 => word (put 31 16 l.crcErr + put 15 0 l.lockLoss)
  | 0x114 => word l.missed
  | 0x118 => word (put 31 12 (mine.foldl (fun (m : Nat) (p : Nat × NodeEnt) => max m p.2.rtt) 0) + put 4 0 (mine.foldl (fun (m : Nat) (p : Nat × NodeEnt) => max m p.2.depth) 0))
  | _ => 0

/-- `RDN_STATUS` (R369). -/
def Dev.rdnWord (d : Dev) : Word :=
  let r := d.rdn
  word (put 31 28 r.state + put 27 27 (b2n d.link) + put 26 25 (bitmap 2 (fun n => nth r.mirLock n false)) + put 24 24 (b2n d.partnerEn) + put 23 23 (b2n r.timingNow)
    + put 22 22 (b2n r.digestBad) + put 21 21 (b2n r.baseEqual) + put 20 20 (b2n r.unitConflict) + put 19 16 r.pMode + put 7 0 (if d.mode == .boot then 0 else d.grade))

/-- The RDN block (R369); in BOOT no grade is formed, and it and its deductions keep their reset values. -/
def Dev.roRdn (d : Dev) (b : Nat) : Word :=
  let r := d.rdn
  match b with
  | 0x100 => d.rdnWord
  | 0x104 => word (put 31 16 r.own + put 15 0 r.pClaim)
  | 0x108 => if d.mode == .boot then 0 else d.deductWord
  | 0x10C => word r.age
  | 0x110 => BitVec.ofInt 32 r.margin
  | 0x114 => word r.sent
  | 0x118 => word r.used
  | 0x11C => word r.torn
  | 0x120 => word r.late
  | 0x124 => word r.realigns
  | 0x128 => word r.failover
  | 0x130 => lo32 ((r.esc.map (·.epoch)).getD 0)
  | 0x134 => hi32 ((r.esc.map (·.epoch)).getD 0)
  | _ => 0

/-- `DDP_STATUS` (R482). -/
def Dev.ddpWord (d : Dev) : Word :=
  let m (f : Pair → Bool) : Nat := bitmap 12 (fun n => f (d.pair n))
  word (put 31 31 (b2n d.ddp.uvlo) + put 30 30 (b2n (d.ddp.loss || (d.ddp.blk && (List.range 12).any (fun n => bit (d.pairCfg n) 27)))) + put 27 16 (m (·.st == 2)) + put 11 0 (m (·.st == 3)))

/-- The DDP block (R482). -/
def Dev.roDdp (d : Dev) (b i : Nat) : Word :=
  let p := d.pair i
  match b with
  | 0x004 => d.ddpWord
  | 0x104 => word (put 31 28 p.st + put 27 27 (b2n p.conflict) + put 26 26 (b2n p.desat) + put 25 25 (b2n p.hocTrip) + put 24 24 (b2n p.testFail)
      + put 23 23 (b2n (d.forced i && p.st == 2)) + put 22 22 (b2n p.h) + put 21 21 (b2n p.l) + put 19 18 p.resH + put 17 16 p.resL + put 15 0 p.trips)
  | 0x108 => word (put 31 16 p.ohmH + put 15 0 p.ohmL)
  | 0x10C => word p.tripNs
  | 0x220 => word (put 31 31 (b2n d.ddp.active) + put 30 30 (b2n d.ddp.thermal) + put 29 29 (b2n d.ddp.chopInv))
  | 0x224 => d.ddp.duty
  | 0x228 => d.ddp.heat
  | 0x22C => word d.ddp.onCnt
  | _ => 0

/-- The applied post-trigger count (R489). -/
def Dev.postApplied (d : Dev) : Nat := min (d.act R.REC_POST).toNat (d.segCap - (d.act R.REC_PRE).toNat)

/-- The REC block (R487–R490, R505). -/
def Dev.roRec (d : Dev) (b : Nat) : Word :=
  let r := d.recd
  match b with
  | 0x10 => word d.postApplied
  | 0x14 => word d.segCap
  | 0x18 => word d.rowWords
  | 0x20 => word (put 31 28 r.st + put 27 27 (b2n (d.postApplied != (d.act R.REC_POST).toNat)) + put 12 0 r.cur)
  | 0x24 => word (put 31 16 r.segs.length + put 15 0 r.lost)
  | 0x28 => word r.segseq
  | _ => 0

/-- The TLY block (R574). -/
def Dev.roTly (d : Dev) (b i : Nat) : Word :=
  let x := d.job i
  match b with
  | 0x004 => word (put 15 8 (bitmap 8 (fun j => (d.job j).ueLast)) + put 7 0 (bitmap 8 (fun j => bit (d.stk (R.TLY_JOBj_STAT j)) 27)))
  | 0x114 => word x.resLo
  | 0x118 => word x.resHi
  | 0x11C => word (put 31 28 x.st + put 25 25 (b2n x.stopped) + put 15 0 x.passes)
  | 0x120 => word (put 31 16 x.corrected + put 15 0 x.uncorr)
  | 0x124 => word (put 31 16 x.restarts + put 15 0 x.lateCnt)
  | 0x128 => word x.ueAddr
  | _ => 0

/-- The THM block (R603). -/
def Dev.roThm (d : Dev) (b i : Nat) : Word :=
  let t := d.thm
  let s := nth t.sensors i {}
  match b with
  | 0x000 => word (put 31 31 (b2n t.stop) + put 30 30 (b2n t.throttle) + put 29 29 (b2n t.warn) + put 28 28 (b2n t.fast)
      + put 11 0 (bitmap 12 (fun n => (nth t.sensors n {}).broken != 0)))
  | 0x008 => match t.peak with
    | some x => rnd ((x : Rat) / 16)
    | none => 0
  | 0x100 => rnd ((s.temp : Rat) / 16)
  | 0x140 => word (put 31 28 (if d.sensorOn i then s.broken else 5) + put 27 26 s.level)
  | _ => 0

/-- `RSV_STATUS.STATE` (R603). -/
def Rsv.stateCode (r : Rsv) : Nat :=
  if r.stopped then 5 else if r.erasing then 3 else if r.erased then 4 else if r.writing.isSome then 1 else if r.compact.isSome then 2 else 0

/-- The RSV block (R603). -/
def Dev.roRsv (d : Dev) (b : Nat) : Word :=
  let r := d.rsv
  match b with
  | 0x00 => word (put 31 28 r.stateCode + put 27 27 (b2n r.notRetained) + put 26 26 ((r.mram.header.map (·.image)).getD 0) + put 23 16 (r.mram.used * 100 / ringBytes)
      + put 15 0 (r.queue.length + b2n r.writing.isSome))
  | 0x04 => word r.commitId
  | 0x08 => word (put 31 16 r.replayed + put 15 8 r.discarded + put 7 0 r.defaulted)
  | 0x0C => word r.records
  | _ => 0

/-- A block's registers belong to a domain that is off (R579). -/
def Dev.blockOff (d : Dev) (blk : Nat) : Bool :=
  match blk with
  | 4 => !d.domOn 6
  | 10 => !d.domOn 6
  | 9 => !d.domOn 8
  | 20 => !d.domOn 11
  | _ => false

/-- The RO fields of a register group of a block: `b` the group, `i` and `j` the indices. -/
def Dev.roBlock (d : Dev) (blk b i j : Nat) : Word :=
  match blk with
  | 0 => d.roSys b
  | 1 => d.roPwr b
  | 2 => d.roClk b
  | 3 => d.roTmb b i
  | 4 => d.roPtp b i
  | 5 => d.roPci b i
  | 7 => d.roVlt b i
  | 8 => d.roApu b
  | 9 => d.roAdc b i j
  | 10 => d.roSvi b i j
  | 11 => d.roMcd b i
  | 12 => d.roGfe b
  | 13 => d.roCce b i
  | 14 => d.roLpe b i
  | 15 => d.roRae b i
  | 16 => d.roMbe b i
  | 17 => d.roIkl b i
  | 18 => d.roRdn b
  | 19 => d.roDdp b i
  | 20 => d.roRec b
  | 21 => d.roTly b i
  | 22 => d.roThm b i
  | 23 => d.roRsv b
  | _ => 0

/-- The indices of a register inside its group. -/
def dimIndex : List (Nat × Nat) → Nat → Nat × Nat
  | [], _ => (0, 0)
  | [(_, s)], r => (r / s, 0)
  | (_, s) :: (_, t) :: _, r => (r / s, r % s / t)

/-- The RO and W1C fields of a register as the device `d` shows them; the registers of an off domain read 0 (R579). -/
def Dev.roWord (d : Dev) (off : Nat) : Word :=
  match findReg off with
  | none => 0
  | some r =>
    let o := off % 0x10000
    let ij := dimIndex r.dims (o - r.base)
    if d.blockOff (off / 0x10000) then 0
    else (d.roBlock (off / 0x10000) r.base ij.1 ij.2 &&& word (maskBits (· == .ro) r.flds)) ||| d.stk off

/-- A register as a read returns it: RO and W1C fields from the device `v` that the snapshot or hold gives, RW from the current value, RWS and RWL
from the staging copy, after sealing RWL from the active copy (R10, R38). -/
def Dev.readReg (d v : Dev) (off : Nat) : Word :=
  match findReg off with
  | none => 0
  | some r =>
    let m (p : Acc → Bool) : Word := word (maskBits p r.flds)
    (v.roWord off &&& m (fun a => a == .ro || a == .w1c)) ||| (d.rwv off &&& m (· == .rw)) ||| (d.stg off &&& m isStaged)

-- Read windows -----------------------------------------------------------------------------------------------------------

/-- The ledger of an arm in the order of R289: ranked, then unusable nodes in key order; with the bypass path and the state changes of the commands that wait. -/
def Arm.listed (a : Arm) : List Cell :=
  ranked (a.cells.map (fun (c : Cell) => { c with path := (pathOf c.fb c.cmd).getD c.path, sw := sat32 c.sw (a.cellChanges c) }))

/-- Word `w` of a ledger entry (R290). -/
def Cell.windowWord (c : Cell) (w : Nat) : Word :=
  match w with
  | 0 => word (put 28 16 c.addr + put 15 0 c.volt)
  | 1 => word (put 31 28 c.st + put 27 27 (b2n c.fb) + put 26 26 (b2n c.path) + put 25 24 c.missed + put 23 22 c.cmd.baseA + put 21 20 c.cmd.baseB
      + put 19 19 (b2n c.cmd.pwm) + put 18 18 (b2n c.gone) + put 15 12 c.lane)
  | 2 => c.vacc
  | _ => word c.sw

/-- The ledger window (R289, R290); `o` from its base. -/
def Dev.ledgerWord (d : Dev) (o : Nat) : Word :=
  match (d.arm6 (o / 0x4000)).listed[o % 0x4000 / 16]? with
  | some c => if o % 0x4000 < 0x3000 then c.windowWord (o % 16 / 4) else 0
  | none => 0

/-- The node table window (R342). -/
def Dev.nodeWord (d : Dev) (o : Nat) : Word :=
  match findNode d.ikl.nodes (o / 32) with
  | none => 0
  | some e =>
    if e.adm = 0 then 0
    else
      let meas (x : Nat) : Nat := if e.kind = 2 then x else 0
      match o % 32 / 4 with
      | 0 => word e.serial
      | 1 => word (put 31 16 (e.serial / 2 ^ 32) + put 15 12 e.kind + put 11 9 e.arm + put 8 8 (b2n e.reappeared) + put 7 4 e.adm)
      | 2 => word (put 31 28 e.lane + put 27 23 e.depth + put 22 14 e.cslot + put 13 5 e.rslot + put 4 3 e.rphase)
      | 3 => word (put 31 12 e.rtt + put 11 10 (meas e.quantity) + put 9 4 (meas e.exp))
      | 4 => word (put 31 12 e.ddown)
      | 5 => word (put 31 16 e.send + put 15 0 e.missedTotal)
      | 6 => word e.eff
      | _ => word (put 31 16 e.status + put 15 0 (meas e.mant))

/-- The overflow table window (R342). -/
def Dev.ovfWord (d : Dev) (o : Nat) : Word :=
  match d.ikl.ovf[o / 16]? with
  | none => 0
  | some e =>
    match o % 16 / 4 with
    | 0 => word e.serial
    | 1 => word (put 31 16 (e.serial / 2 ^ 32) + put 15 3 e.addr + put 2 0 e.arm)
    | 2 => word (put 31 28 e.lane + put 27 23 e.depth + put 22 7 e.route + put 6 3 e.reason)
    | _ => word e.epoch

/-- The read windows of BAR0. -/
inductive Window where
  | ledger | nodes | overflow | dram | output | certificate
deriving DecidableEq, Repr

/-- The window an offset lies in. -/
def windowOf (off : Nat) : Option Window :=
  if 0x800000 ≤ off ∧ off < 0x818000 then some .ledger
  else if 0x840000 ≤ off ∧ off < 0x840000 + 32 * 4672 then some .nodes
  else if 0x868000 ≤ off ∧ off < 0x868200 then some .overflow
  else if 0xC00000 ≤ off ∧ off < 0x1000000 then some .dram
  else if 0x071000 ≤ off ∧ off < 0x071800 then some .output
  else if 0x072000 ≤ off ∧ off < 0x072800 then some .certificate
  else none

/-- Offsets that no write reaches (R610): the windows, and every other offset of the upper half of BAR0. -/
def readOnly (off : Nat) : Bool := (windowOf off).isSome || decide (0x800000 ≤ off)

/-- A word of a byte list. -/
def bytesWord (bs : List Nat) (o : Nat) : Word := word (leAt bs o 4)

/-- A word of the read windows. `d` is the device as it is, `v` as the snapshot or hold gives it; the DRAM and the vault's windows are read as they are. -/
def readWindow (d v : Dev) (dram : List Host.Cell) (off : Nat) (w : Window) : Word :=
  match w with
  | .ledger => v.ledgerWord (off - 0x800000)
  | .nodes => v.nodeWord (off - 0x840000)
  | .overflow => v.ovfWord (off - 0x868000)
  | .dram => if d.domOn 11 then dramWord dram (fld (d.rwv R.REC_WIN_BASE) 27 22 * 0x400000 + (off - 0xC00000)) else 0
  | .output => bytesWord d.vlt.out (off - 0x071000)
  | .certificate => bytesWord d.vlt.cert (off - 0x072000)

end Sys2Proof.Machine
end

