-- ==== Sys2Proof/Machine/Modes.lean ====
section
/-! DEFINITION. Mode transitions at step 6 of the boundary (R71–R127, R364): the matrix, entry to a mode, presets and hand-overs, fault ride-through, the
precharge sequencer, the evaluation of requests. -/
namespace Sys2Proof.Machine

-- Conditions -------------------------------------------------------------------------------------------------------------

/-- An entry of the transition matrix (R88). -/
inductive Entry where
  | no | same | yes | p | c | cb | d | db | e | a
deriving DecidableEq, Repr

/-- The transition matrix of R88. -/
def matrix (s t : Mode) : Entry :=
  match s with
  | .boot => .no
  | .config => match t with
    | .config => .same | .standby => .yes | .service => .yes | _ => .no
  | .standby => match t with
    | .config => .yes | .standby => .same | .precharge => .p | .blackstart => .cb | .gfIsland => .c | .gfGrid => .c | .gfl => .c | .dcv => .c
    | .statcom => .c | .service => .yes | _ => .no
  | .precharge => match t with
    | .standby => .yes | .precharge => .same | .blackstart => .db | .gfIsland => .d | .gfGrid => .d | .gfl => .d | .dcv => .d | .statcom => .d | _ => .no
  | .blackstart => match t with
    | .standby => .yes | .blackstart => .same | .gfIsland => .e | _ => .no
  | .gfIsland => match t with
    | .standby => .yes | .gfIsland => .same | .gfGrid => .yes | _ => .no
  | .gfGrid => match t with
    | .standby => .yes | .gfIsland => .yes | .gfGrid => .same | .gfl => .yes | .dcv => .yes | .statcom => .yes | _ => .no
  | .gfl => match t with
    | .standby => .yes | .gfGrid => .a | .gfl => .same | .dcv => .yes | .statcom => .yes | _ => .no
  | .dcv => match t with
    | .standby => .yes | .gfGrid => .a | .gfl => .yes | .dcv => .same | .statcom => .yes | _ => .no
  | .statcom => match t with
    | .standby => .yes | .gfGrid => .a | .gfl => .yes | .statcom => .same | _ => .no
  | .frt => match t with
    | .standby => .yes | _ => .no
  | .service => match t with
    | .config => .yes | .standby => .yes | .service => .same | _ => .no

/-- MIN_NODES (R98). -/
def Dev.minNodes (d : Dev) : Nat := d.afld R.CCE_PRC_CTRL 25 16
/-- VCELL (R98). -/
def Dev.vcell (d : Dev) : Nat := d.afld R.CCE_PRC_VCELL 15 0

/-- The charged condition (R91). -/
def Dev.chargedNow (d : Dev) : Bool :=
  let tol := d.afld R.CCE_PRC_CTRL 7 0
  let v := d.vcell
  decide (d.minNodes ≠ 0) && decide (v ≠ 0) && d.clk.lock && decide (d.sys.tripCause = 0) &&
  d.mbe.arms.all (fun (a : Arm) => decide (d.minNodes ≤ a.nUsable) &&
    (a.cells.filter Cell.usable).all (fun (c : Cell) => decide (v * (1000 - tol) ≤ c.volt * 1000) && decide (c.volt * 1000 ≤ v * (1000 + tol))))

/-- The dead-bus condition (R107, R165). -/
def Dev.deadBusNow (d : Dev) : Bool :=
  decide (d.qty 5 < decConst ((d.afld R.GFE_BS_CTRL 15 8 : Rat) / 100)) && decide (decConst ((d.afld R.GFE_BS_CTRL 7 0 : Rat) / 100) ≤ d.qty 80)

/-- Both conditions as the boundary evaluates them. -/
def Dev.conditions (d : Dev) : Dev := { d with sys := { d.sys with charged := d.chargedNow, deadBus := d.deadBusNow } }

/-- The conditions P, C and D of a matrix entry (R88). -/
def Dev.entryReady (d : Dev) (x : Entry) : Bool :=
  match x with
  | .p => decide (d.vcell ≠ 0) && decide (d.minNodes ≠ 0) && d.clk.lock
  | .c => d.sys.charged
  | .cb => d.sys.charged
  | .d => d.prc.stage == 3
  | .db => d.prc.stage == 3
  | _ => true

/-- The conditions B and E of a matrix entry (R88). -/
def Dev.entryStart (d : Dev) (x : Entry) : Bool :=
  match x with
  | .cb => d.sys.deadBus
  | .db => d.sys.deadBus
  | .e => d.gc.g.rampDone
  | _ => true

-- Entry to a mode ----------------------------------------------------------------------------------------------------------

/-- The engine state of a blocked mode: no temporary block, preset or ramp (R193, R202). -/
def Path.idle (p : Path) : Path :=
  { p with g := { p.g with rampP := false, rampQ := false, rampV := false }
           c := { p.c with tblk := false, armLim := 0, preset := 0, dcvEntry := false, rampVdc := false, rampIdc := false } }

/-- No discovery or scan runs on in CONFIG and SERVICE, and the admitted set is kept (R329): admissions still to come are dropped. -/
def Dev.discStop (d : Dev) : Dev :=
  let x := d.ikl
  if x.disc = 0 then d
  else { d with ikl := { x with disc := 0, discEff := none, probes := x.probes.filter (fun p => p.own.isSome), done := [], nextNodes := [], nextLanes := []
                                nodes := x.nodes.filter (fun p => p.2.adm != 0), queue := x.queue.filter (fun p => p.2.opcode != 0x04) } }

/-- The current mode becomes `m` with the epoch that begins, `k` (R71, R77); PRECHARGE starts its sequence and leaving it ends it (R99, R105): STAGE returns to
IDLE, unless it is ABORTED, whichever mode follows (R105 states it for a request for STANDBY; for the other exits DESIGN CHOICE, log 96). -/
def Dev.setMode (d : Dev) (m : Mode) (k : Nat) : Dev :=
  let o := d.sys.mode
  let d1 := ({ d with sys := { d.sys with mode := m, prev := o, modeEpoch := k } }).raiseT 1 17 Sub.sys 0 R.SYS_MODE 0xFF000000 [word m.code, word o.code]
  let d2 := if m == .standby && (o == .boot || o == .config || o == .service) then d1.startDisc true
    else if m == .config || m == .service then d1.discStop else d1
  let d3 := if m == .precharge then { d2 with prc := { d2.prc with stage := 1, entry := d2.tmb.up, vref := 0, means := [] } }
    else if o == .precharge && d2.prc.stage != 4 then { d2 with prc := { d2.prc with stage := 0 } } else d2
  let d4 := if m == .blackstart && o != .frt then { d3 with frt := { d3.frt with bsSeen := false } } else d3
  if m.energized then d4 else { d4 with gc := d4.gc.idle }

/-- A reference that starts at its end point has no ramp (R115). -/
def Path.started (a : Nat → Word) (law : Mode) (p : Path) : Path :=
  let off (x : Word) (e : Nat) : Bool := decide (fv x ≠ fv (a e))
  { p with g := { p.g with rampP := p.g.rampP && off p.g.refP (if law == .gfl then R.GFE_GFL_P else R.GFE_P0)
                           rampQ := p.g.rampQ && off p.g.refQ (if isPllLaw law then R.GFE_GFL_Q else R.GFE_Q0), rampV := p.g.rampV && off p.g.refV R.GFE_V0 }
           c := { p.c with rampVdc := p.c.rampVdc && off p.c.refVdc R.CCE_DCV_VSET, rampIdc := p.c.rampIdc && decide (fv p.c.refIdc ≠ 0) } }

/-- The deblock preset and the references of an entry from STANDBY or PRECHARGE (R106, R115, R192, R193). -/
def Dev.deblock (d : Dev) (t : Mode) : Dev :=
  let p := d.gc.ramps t true
  let q : Path := { p with
      g := { p.g with refP := 0, refQ := 0, refV := wAt d.mcdNow.q 5, dpRest := 0, dvRest := 0, restOut := false, ebs := 0, bsRun := false, rampDone := false }
      c := { p.c with preset := 1, refVdc := wAt d.mcdNow.q 80, refIdc := 0, intDcv := 0, dcvEntry := t == .dcv, powerRef := 0, armLim := 0, tblk := false
                      intW := 0, intH := [0, 0, 0], intV := [0, 0, 0], ccI := [0, 0, 0], ccX1 := [0, 0, 0], ccX2 := [0, 0, 0] } }
  { d with gc := q.started d.act t }

/-- The presets and ramps of a hand-over to law `t` (R111–R117, R150, R175, R184, R192); the mode is still that of the source. -/
def Dev.handOver (d : Dev) (t : Mode) : Dev :=
  let s := d.law
  let p := d.gc
  let q := p.ramps t true
  let pick (ramping : Bool) (ref now : Word) : Word := if ramping then ref else now
  let add := qdiv (fv p.go.wSync) (d.aval R.GFE_DROOP_PF)
  let join := s == .gfIsland && t == .gfGrid
  let zero := isPllLaw t || (t == .gfIsland && s != .gfIsland)
  let g : GfeSt := { q.g with
    refP := pick p.g.rampP p.g.refP p.g.pe, refQ := pick p.g.rampQ p.g.refQ p.g.qe, refV := pick p.g.rampV p.g.refV (wAt d.mcdNow.q 5)
    dpRest := if zero then 0 else if join then rnd (fv p.g.dpRest + add) else p.g.dpRest
    dvRest := if zero then 0 else p.g.dvRest
    restOut := join || (p.g.restOut && t == .gfGrid) }
  let c : CceSt := { q.c with
    preset := 2, refVdc := pick p.c.rampVdc p.c.refVdc (wAt d.mcdNow.q 80), refIdc := pick p.c.rampIdc p.c.refIdc p.co.idcRef
    intDcv := if t == .dcv then p.g.pe else 0, dcvEntry := t == .dcv
    powerRef := if s == .dcv || s == .statcom then p.c.powerRef else p.g.pe }
  { d with gc := ({ q with g := g, c := c } : Path).started d.act t }

/-- A transition to `t` (R74, R106, R112, R128, R349, R368). -/
def Dev.enter (d : Dev) (t : Mode) (k : Nat) : Dev :=
  let live := d.mode.energized
  let d1 := if !t.energized then d else if live then d.handOver t else d.deblock t
  let d2 := d1.setMode t k
  if !t.energized then (if live then d2.rdnLeave else d2.rdnSettle) else if live then d2 else d2.rdnSettle.rdnEntry

-- Fault ride-through -------------------------------------------------------------------------------------------------------

/-- N of R125. -/
def Dev.frtN (d : Dev) : Nat := if d.tc = 0 then 0 else cdiv (d.afld R.SYS_FRT_TIMING 15 0 * 1000 * nsU) d.tc

/-- C0 and C1 as they fired in the epoch (R121). -/
def Dev.firedFrt (d : Dev) : Nat := if d.rae.selected then d.rae.fired % 4 else 0

/-- The two conditions of R125 on the samples of the epoch, no detector having fired (R126). -/
def Dev.frtOk (d : Dev) : Bool :=
  let vac := d.aval R.SYS_FRT_EXIT_VAC * (if d.law = .blackstart then fv d.gc.g.ebs else 1)
  let ref : Rat := if d.law = .dcv then fv (if d.gc.c.rampVdc then d.gc.c.refVdc else d.act R.CCE_DCV_VSET) + d.trim 15 13 8 else 1
  decide (d.firedFrt = 0) && decide (vac ≤ d.qty 5) && (d.law == .statcom || decide (rabs (d.qty 80 - ref) ≤ d.aval R.SYS_FRT_EXIT_VDC))

/-- FRT ends at this boundary (R125). -/
def Dev.frtEnds (d : Dev) (ok : Bool) : Bool := d.mode == .frt && ok && (d.frt.exitDue || decide (d.frtN ≤ d.frt.count + 1))

/-- The automatic FRT entry, exit or count of the boundary (R121, R125, R126, R203); true when an entry or exit took place. At the exit P_lim, the clamp of the DC
current and the reactive floor end, and the references of the hand-over ramp (R125; DESIGN CHOICE, log 101). -/
def Dev.frtStep (d : Dev) (ok : Bool) (k : Nat) : Dev × Bool :=
  let f := d.firedFrt
  if d.mode = .frt then
    let x := { d.frt with causeAc := d.frt.causeAc || f.testBit 0, causeDc := d.frt.causeDc || f.testBit 1 }
    if d.frtEnds ok then
      let d1 := ({ d with frt := { x with count := 0, exitDue := false, timeout := false, bsSeen := false } }).enter d.sys.ret k
      (if d1.gc.c.tblk then d1.tblkRelease else d1, true)
    else ({ d with frt := { x with count := if ok then d.frt.count + 1 else 0, exitDue := false } }, false)
  else if d.mode.energized && decide (f ≠ 0) then
    let d1 := { d with sys := { d.sys with ret := d.mode } }
    let x : Frt := { d.frt with entries := sat16 d.frt.entries 1, causeAc := f.testBit 0, causeDc := f.testBit 1, count := 0, entryTime := d.tmb.up, exitDue := false, timeout := false }
    (({ d1 with frt := x }).setMode .frt k, true)
  else (d, false)

/-- The exit count of R125 is complete for the epoch that runs. -/
def Dev.frtExitDue (d : Dev) : Dev := if d.frtEnds d.frtOk then { d with frt := { d.frt with exitDue := true } } else d

/-- The FRT duration has passed (R127). -/
def Dev.frtLate (d : Dev) : Bool := d.mode == .frt && decide (d.frt.entryTime + d.afld R.SYS_FRT_TIMING 31 16 * msU ≤ d.tmb.up)

/-- R127: the time limit is noted; the boundary decides. -/
def Dev.frtTimeoutDue (d : Dev) : Dev := if d.frtLate then { d with frt := { d.frt with timeout := true } } else d

/-- The mode and FRT items of a realign (R362). -/
def Dev.imposeMode (d : Dev) (e : Escrow) (k : Nat) : Dev :=
  let m := (Mode.ofCode e.mode).getD d.mode
  let into := m == .frt && d.mode != .frt
  let d1 := if m = d.mode then d else d.setMode m k
  if m = .frt then
    { d1 with sys := { d1.sys with ret := (Mode.ofCode e.ret).getD d1.sys.ret }
              frt := { d1.frt with causeAc := e.causeAc, causeDc := e.causeDc, count := e.frtCount, entryTime := d.tmb.syncUp - e.frtSince * d.tc
                                   entries := if into then sat16 d1.frt.entries 1 else d1.frt.entries } }
  else d1

-- Black start --------------------------------------------------------------------------------------------------------------

/-- The automatic move of R108 and R109; `quiet` when no protective block or FRT transition took hold at the boundary. -/
def Dev.bsAuto (d : Dev) (quiet : Bool) (k : Nat) : Dev :=
  if d.mode ≠ .blackstart then d
  else
    let done := d.gc.g.rampDone
    let go := quiet && done && !d.frt.bsSeen && d.abit R.SYS_MODE_CTRL 0
    let d1 := { d with frt := { d.frt with bsSeen := done && quiet } }
    if go then d1.enter .gfIsland k else d1

-- Precharge ----------------------------------------------------------------------------------------------------------------

/-- Mean voltage of all admitted cells (R98), LSB 50 mV, rounded down (DESIGN CHOICE, log 97). -/
def Dev.vmeanAll (d : Dev) : Nat :=
  let cs := d.mbe.arms.flatMap (fun (a : Arm) => a.cells)
  if cs.isEmpty then 0 else (cs.map (fun (c : Cell) => c.volt)).sum / cs.length

/-- Sum and count of the cell voltages of the six arms. -/
def Dev.armMeans (d : Dev) : List Nat := d.mbe.arms.flatMap (fun (a : Arm) => [(a.cells.map (fun (c : Cell) => c.volt)).sum, a.cells.length])

/-- An arm's mean rose by less than 0.5 % from sum and count `s0`, `n0` to `s1`, `n1` (R101). -/
def roseLittle (s0 n0 s1 n1 : Nat) : Bool := decide (s1 * n0 * 1000 < 1005 * s0 * n1)

/-- The passive stage ends (R101). -/
def Dev.passiveOver (d : Dev) : Bool :=
  let w := if d.tc = 0 then 0 else cdiv (100 * msU) d.tc
  let now := d.armMeans
  match d.prc.means[w]? with
  | some old => d.mbe.arms.all (fun (a : Arm) => decide (d.minNodes ≤ a.nUsable)) &&
      (List.range 6).all (fun i => roseLittle (nth old (2 * i) 0) (nth old (2 * i + 1) 0) (nth now (2 * i) 0) (nth now (2 * i + 1) 0))
  | none => false

/-- The precharge sequencer at a boundary (R99–R103). -/
def Dev.prcStep (d : Dev) : Dev :=
  let p := { d.prc with vmean := d.vmeanAll }
  let w := if d.tc = 0 then 0 else cdiv (100 * msU) d.tc
  if d.mode ≠ .precharge then { d with prc := p }
  else
    let q := { p with means := (d.armMeans :: p.means).take (w + 1) }
    let x : Dev := { d with prc := q }
    if p.stage = 1 then
      if x.passiveOver then { d with prc := { q with stage := 2, vref := rnd ((q.vmean : Rat) / 20), means := [] } } else x
    else if p.stage = 2 then
      let top : Rat := (d.vcell : Rat) / 20
      let v := rnd (min top (fv p.vref + (d.afld R.CCE_PRC_RATE 15 0 : Rat) * d.tcs))
      let v1 : Word := if top ≤ fv p.vref then rnd top else v
      if fv (rnd top) ≤ fv v1 ∧ d.sys.charged then { d with prc := { q with stage := 3, vref := v1 } } else { d with prc := { q with vref := v1 } }
    else x

-- Requests -----------------------------------------------------------------------------------------------------------------

/-- What the boundary tells step 6: station time of the boundary, the epoch that begins, the device with the state of record at SYNC k, whether a protective block or
automatic FRT transition took hold. -/
structure ModeCtx where
  b : Nat
  k : Nat
  before : Dev
  pre : Bool

/-- The hand-over angle of R118. -/
def Dev.handOverAngle (d : Dev) : Rat :=
  let o := d.gc.go
  let u := cxAt o.u 0
  wrapPi (atan2R u.im u.re - accAngle o.pllK - 3 / 2 * fv o.adv)

/-- A join (R364): the mode is entered by a realign, and the state becomes JOINING; the role is STANDBY, with the event of R348 where it was not. -/
def Dev.join (d : Dev) (x : ModeCtx) (e : Escrow) : Dev :=
  let d1 := ((d.applyEscrow x.before e true).imposeMode e x.k).setRole 2
  { d1 with rdn := { d1.rdn with state := 3, joinAt := some d.tmb.up, joinRun := 0, staleRun := 0 } }

/-- A request evaluated at step 6 (R36, R75, R76, R80–R90, R118–R120, R364): the device after it, and the result code of R77. -/
def Dev.evalMode (d : Dev) (x : ModeCtx) (target : Nat) : Dev × Nat :=
  if target = 0 ∨ target = 10 then (d, 2)
  else if x.pre then (d, 6)
  else if d.mode = .frt ∧ target ≠ 2 then (d, 8)
  else
    match Mode.ofCode target with
    | none => (d, 2)
    | some t =>
      let cell := matrix d.mode t
      if t = d.mode then (d, 1)
      else if d.sys.tripCause ≠ 0 ∧ t.live then (d, 5)
      else if d.partnerEn ∧ t = .precharge then (d, 3)
      else if cell = .no then (d, 2)
      else if d.partnerEn && t.energized then
        match d.escFresh with
        | some e => if d.entryReady cell && d.joinOk target then (d.join x e, 1) else (d, 3)
        | none => (d, 3)
      else if !(d.entryReady cell && d.entryStart cell) then (d, 3)
      else if cell = .a then
        let y := d.handOverAngle
        let d1 := { d with sys := { d.sys with hoAngle := rnd y } }
        if (d.afld R.GFE_HANDOVER 15 0 : Rat) * piR / 32768 < rabs y then (d1, 4)
        else
          let d2 := d1.enter t x.k
          ({ d2 with gc := { d2.gc with g := { d2.gc.g with theta := d2.gc.g.pll, dw := d2.gc.go.dwPll } } }, 1)
      else (d.enter t x.k, 1)

/-- What an evaluated request leaves in `SYS_MODE_RESULT` (R77, R87). -/
def Dev.modeOutcome (d : Dev) (code target source : Nat) (late : Option Nat) : Dev :=
  { d with sys := { d.sys with mrResult := code, mrLate := late.isSome, mrClamped := false, mrTarget := target, mrSource := source
                               modeLateNs := late.getD d.sys.modeLateNs } }

/-- A replaced immediate request completes with SUPERSEDED (R81). -/
def Dev.superseded (d : Dev) (r : ModeReq) : Dev :=
  match r.origin with
  | .desc c => d.complete c 0 7 0 [d.modeResultWord]
  | _ => d

/-- The result of a scheduled change due together with an immediate request (R86): ILLEGAL for BOOT and FRT at every boundary (R83), PREEMPTED where a protective or
FRT transition took hold (R36), else SUPERSEDED. -/
def Dev.displaced (d : Dev) (x : ModeCtx) (e : Nat) : Nat :=
  let t := d.schedTarget e % 16
  if t = 0 ∨ t = 10 then 2 else if x.pre then 6 else 7

/-- Step 6, the requested transition (R80, R85, R86): the device, and the answers to give behind the digest. -/
def Dev.modeRequests (d : Dev) (x : ModeCtx) : Dev × List (Dev → Dev) :=
  let due := d.dueEntry 2 x.b
  let now := d.sys.modeReqs.filter (fun r => decide (r.stamp < x.b))
  let lost : List (Dev → Dev) := (now.dropLast.map (fun (r : ModeReq) (v : Dev) => v.superseded r))
  match now.getLast? with
  | some r =>
    let source := d.mode.code
    let y := ({ d with sys := { d.sys with modeReqs := d.sys.modeReqs.filter (fun q => !decide (q.stamp < x.b)) } }).evalMode x r.target
    let z := y.1.modeOutcome y.2 r.target source none
    let moved := y.1.sys.mode != d.sys.mode
    let w := z.modeResultWord
    let mine : List (Dev → Dev) := match r.origin with
      | .desc c => [fun (v : Dev) => v.complete c 0 y.2 (if moved then x.k else 0) [w]]
      | _ => []
    (z, lost ++ mine ++ (match due with | some e => [fun (v : Dev) => v.schedFinal e 5 (d.displaced x e) ((d.lateness e x.b).getD 0) 0] | none => []))
  | none =>
    match due with
    | none => (d, [])
    | some e =>
      let source := d.mode.code
      let late := d.lateness e x.b
      let y := d.evalMode x (d.schedTarget e % 16)
      let z := y.1.modeOutcome y.2 (d.schedTarget e % 16) source late
      let ep := if y.1.sys.mode != d.sys.mode then x.k else 0
      let st := if y.2 ≠ 1 then 5 else if late.isSome then 3 else 2
      (z, [fun (v : Dev) => v.schedFinal e st y.2 (late.getD 0) ep])

/-- Step 6 as a whole (R35): protective transition, FRT, the move of R109, the mode of a realign, the precharge sequencer, requests. `hold` tells that a
protective block took hold; `ok` the exit conditions of R125; `re` the escrow of a realign. -/
def Dev.modeStep (d : Dev) (x : ModeCtx) (hold ok : Bool) (re : Option Escrow) : Dev × List (Dev → Dev) :=
  let d0 : Dev := if hold then (if d.mode.live then d.enter .standby x.k else d) else match re with
    | some e => d.imposeMode e x.k
    | none => d
  let f : Dev × Bool := if hold then (d0, false) else d0.frtStep ok x.k
  let quiet := !hold && !f.2 && d.mode == .blackstart
  let d1 := (f.1.bsAuto quiet x.k).conditions.prcStep
  let r := d1.modeRequests { x with pre := hold || f.2 }
  (r.1.closePort, r.2)

/-- An immediate request is received (R81); the requests of its own epoch it replaces are superseded. -/
def Dev.modeRequest (d : Dev) (target : Nat) (o : Origin) : Dev :=
  let mine (r : ModeReq) : Bool := !d.afterEpoch || decide (d.grid (d.tmb.epoch + 1) ≤ r.stamp)
  let d1 : Dev := { d with sys := { d.sys with modeReqs := d.sys.modeReqs.filter (fun r => !(mine r)) ++ [⟨target, o, d.stampNow⟩] } }
  (d.sys.modeReqs.filter mine).foldl Dev.superseded d1

/-- The highest level number admitted for a mode request (R79). -/
def Dev.modeLevel (d : Dev) (target : Nat) : Nat := if target = 11 ∨ d.mode = .service then 0 else if target = 1 then 1 else 2

/-- An immediate request refused at its arrival (R79). -/
def Dev.modeDenied (d : Dev) (target : Nat) : Dev :=
  { d with sys := { d.sys with mrResult := 10, mrLate := false, mrClamped := false, mrTarget := target, mrSource := d.mode.code } }

end Sys2Proof.Machine
end

