-- ==== Sys2Proof/Machine/Power.lean ====
section
/-! DEFINITION. Resets, power domains and the boot sequence (R92–R97, R549–R552, R576–R584, R591, R592, R617). -/
namespace Sys2Proof.Machine

/-- All 14 domains are without power: PORB or a brownout holds the device, or only AON is powered. -/
def Dev.unpowered (d : Dev) : Bool := d.pwr.porb || d.pwr.brownout || d.pwr.down

/-- The device once power has been removed from all 14 domains (R581, R591, R592): the MRAM, the vault's storage, the reset causes, the nodes of the network
and the input levels remain; everything else is at its reset value. -/
def Dev.cold (d : Dev) (causes : Nat) (pwr : Pwr) : Dev :=
  let keep (p : Pair) : Pair := { ds := p.ds, hoc := p.hoc, dsFrom := if p.ds then some d.tmb.up else none }
  { tmb := { up := d.tmb.up }, nodes := d.nodes, free := d.free + 1, rsv := { mram := d.cutMram }, vlt := d.vlt.kept
    boot := { cause := d.boot.cause, causeNext := d.boot.causeNext ||| causes }, pins := { emblkLow := d.pins.emblkLow }
    ddp := { pairs := d.ddp.pairs.map keep, uvlo := d.ddp.uvlo }, pwr := pwr }

/-- The state after power has been removed: the snapshot and the hold are gone, the recorder DRAM is empty (R497). -/
def State.cold (s : State) (causes : Nat) (pwr : Pwr) : State :=
  let d := s.dev.cold causes pwr
  { s with dev := d, snap := d, held := none, dram := [] }

/-- A power-on of VDD_AON (R581): POR is the only cause; PORB is asserted until it is released. -/
def State.powerOn (s : State) : State :=
  let x := s.cold 0 {}
  let d := { x.dev with boot := { cause := 1, causeNext := 1 } }
  { x with dev := d, snap := d }

/-- PORB is asserted (R581). -/
def State.porbAssert (s : State) : State := if s.dev.pwr.porb then s else s.cold 2 { porb := true, brownout := s.dev.pwr.brownout }

/-- A hard-cut comparator trips (R591). -/
def State.hardCut (s : State) : State := if s.dev.unpowered then s else s.cold 16 { porb := false, down := true }

/-- VDD_AON falls below its monitor level (R617). -/
def State.brownout (s : State) : State := if s.dev.pwr.brownout then s else s.cold 32 { porb := s.dev.pwr.porb, brownout := true }

/-- Step 4 of an orderly stop (R592): only AON remains powered. -/
def State.powerDown (s : State) : State :=
  if s.dev.pwr.stopAt.isSome && s.dev.pwr.blockDone && s.dev.rsv.writing.isNone && !s.dev.unpowered then s.cold 0 { porb := false, down := true } else s

/-- A domain's power-good (R577): its logic leaves reset 1 µs later. While the timebase stands still that microsecond passes within the command. -/
def Dev.domainUp (d : Dev) (n : Nat) : Dev :=
  let d1 := { d with tmb := { d.tmb with up := if d.tmb.running then d.tmb.up else d.tmb.up + usU }, pwr := { d.pwr with on := setAt d.pwr.on (n - 1) (some (d.tmb.up + usU)), rising := d.pwr.rising.filter (· != n) } }
  if n = 8 then (List.range 4).foldl (fun (y : Dev) (c : Nat) => if y.abit R.ADC_CTRL c then y.adcWarm c else y) d1 else d1

/-- Steps 5 and 6 after a good image (R92, R93). -/
def Dev.bootGood (d : Dev) : Dev :=
  let d0 := d.restore
  let d1 := ({ d0 with clk := { d0.clk with mult := d0.multNom } }).timebaseStart
  { d1 with boot := { d1.boot with step := 6 } }

/-- Step 4 from the host (R549, R552): `fw` and `cfg` are the bytes the host interface reads. -/
def Dev.hostImage (d : Dev) (dma : Bool) (fw cfg : List Nat) : Dev :=
  if d.boot.step ≠ 4 ∨ !d.boot.waitHost then d
  else
    let d0 := { d with boot := { d.boot with source := 0 } }
    if dma then { d0 with vlt := { d0.vlt with bootResult := 8, bootImage := 0, attempts := sat16 d0.vlt.attempts 1 } }
    else
      let r := d0.imageStep (fw.take (d.rwv R.VLT_BOOT_FW_LEN).toNat) (cfg.take (d.rwv R.VLT_BOOT_CFG_LEN).toNat)
      if r.2 then r.1.bootGood else r.1

/-- Step 4 starts: the source is the flash, or the vault waits for the host (R549). -/
def Dev.bootImage (d : Dev) : Dev :=
  let d0 := { d with boot := { d.boot with step := 4 } }
  if d.boot.flashGood ∧ leAt d.boot.flash 0 4 = imageMagic ∧ d.vlt.bootPolicy ≠ 2 then
    let im := flashImages d.boot.flash
    let r := ({ d0 with boot := { d0.boot with source := 1, flashTried := true } }).imageStep im.1 im.2
    if r.2 then r.1.bootGood else { r.1 with boot := { r.1.boot with waitHost := d.vlt.bootPolicy != 1 } }
  else { d0 with boot := { d0.boot with waitHost := true } }

/-- Step 3: the self-test; a failure leaves the device in BOOT (R92, R97). -/
def Dev.selfTest (d : Dev) : Dev :=
  if d.boot.selfTestGood then ({ d with boot := { d.boot with selfTestOk := true } }).bootImage else { d with boot := { d.boot with step := 3 } }

/-- Steps 1 to 3 go on once the domains are up and the PLL is in lock. -/
def Dev.bootOn (d : Dev) : Dev :=
  if d.boot.step = 1 ∧ d.pwr.rising = [] ∧ 15 ≤ d.pwr.seqNext then
    let d1 := { d with boot := { d.boot with step := 2 } }
    if d1.clk.lock then d1.selfTest else d1
  else if d.boot.step = 2 ∧ d.clk.lock then d.selfTest
  else d

/-- A domain that is powering up reports power-good; in BOOT the next one starts (R577). -/
def Dev.powerGood (d : Dev) (n : Nat) : Dev :=
  if !(d.pwr.rising.contains n) || d.unpowered then d
  else
    let d1 := d.domainUp n
    if d1.boot.step = 1 then
      let d2 := if d1.pwr.seqNext ≤ 14 then { d1 with pwr := { d1.pwr with rising := [d1.pwr.seqNext], seqNext := d1.pwr.seqNext + 1 } } else { d1 with pwr := { d1.pwr with seqNext := 15 } }
      d2.bootOn
    else d1

/-- The PLL declares lock (R417); BOOT goes on (R92). -/
def Dev.locked (d : Dev) : Dev := if d.unpowered || !d.domOn 2 then d else d.pllLock.bootOn

/-- The end of a reset: BOOT starts (R92, R563, R577, R584). -/
def Dev.startBoot (d : Dev) : Dev :=
  { d with pwr := { porb := false, rising := [1], seqNext := 2 }
           boot := { d.boot with step := 1, start := d.tmb.up, cause := d.boot.causeNext, selfTestOk := false, waitHost := false, flashTried := false, source := 0 }
           clk := { refOk := true, fallback := true, mult := d.multNom, lfsr := (d.act R.CLK_PLL_SEED).toNat }
           vlt := if d.vlt.marker then d.vlt.zeroize.zeroized else d.vlt }

/-- PORB is released (R92, R581); ignored while a comparator sees 125 °C or more (R591). -/
def Dev.porbRelease (d : Dev) (hot selfTest sfdp : Bool) (flash : List Nat) : Dev :=
  if hot || !d.pwr.porb then d
  else
    let d1 := { d with boot := { d.boot with selfTestGood := selfTest, flashGood := sfdp, flash := flash } }
    if d.pwr.brownout then { d1 with pwr := { d1.pwr with porb := false } } else d1.startBoot

/-- The brownout hold ends (R617). -/
def Dev.brownoutRelease (d : Dev) : Dev :=
  if !d.pwr.brownout then d
  else if d.pwr.porb then { d with pwr := { d.pwr with brownout := false } }
  else d.startBoot

/-- Step 4 has not succeeded in time (R552). -/
def Dev.imageTimeout (d : Dev) : Dev :=
  if d.boot.step = 4 ∧ d.boot.start + 300 * msU ≤ d.tmb.up then
    { d with boot := { d.boot with waitHost := true }, vlt := if d.vlt.bootResult = 0 then { d.vlt with bootResult := 2 } else d.vlt }
  else d

/-- PWR_FAIL is asserted (R582). -/
def Dev.powerFail (d : Dev) : Dev := if d.unpowered then d else ({ d with pwr := { d.pwr with pwrFail := true } }).orderlyStop 2

/-- PWR_FAIL returns high (R582). -/
def Dev.powerFailOver (d : Dev) : Dev := { d with pwr := { d.pwr with pwrFail := false } }

end Sys2Proof.Machine
end

