-- ==== Sys2Proof/Machine/Recd.lean ====
section
/-! DEFINITION. The disturbance recorder (R484–R502): taps, rows, condition triggers, captures, segments, headers, commands. -/
namespace Sys2Proof.Machine

-- Taps -----------------------------------------------------------------------------------------------------------------

/-- The set a conditioned quantity belongs to (R410). -/
def qtySet (x : Nat) : Nat := if x < 64 then x / 16 else if x < 78 then 4 else 5

/-- A GFE read-back register is produced in the mode (R139, R484). -/
def gfeProduced (m law : Mode) (i : Nat) : Bool :=
  if i ≤ 5 ∨ i = 7 then m != .boot else if i = 6 ∨ i = 8 ∨ i = 9 then m.energized && isGf law else m.energized

/-- A CCE read-back register is produced in the mode (R183, R484). -/
def cceProduced (m : Mode) (i : Nat) : Bool :=
  if i = 7 ∨ i = 10 ∨ i = 11 ∨ (16 ≤ i ∧ i ≤ 21) then m.energized else m != .boot

/-- The status words of kind 9 (R484). -/
def Dev.tapStatus (v : Dev) (i : Nat) : Word :=
  match i with
  | 0 => lo32 v.ikl.mapSnap
  | 1 => word (v.ikl.mapSnap / 2 ^ 32 % 16)
  | 2 => v.modeWord
  | 3 => v.raeWord
  | 4 => v.gfeWord
  | 5 => v.cceWord
  | 6 => v.mbeWord
  | 7 => v.ddpWord
  | _ => word (put 31 16 v.rdn.own + put 15 0 v.rdn.pClaim)

/-- The ledger voltage of a usable node in volts (R484, kinds 7 and 10). -/
def Dev.tapNode (v : Dev) (addr : Nat) : Option Word :=
  (((v.mbe.arms.flatMap (·.cells)).find? (fun c => c.addr == addr)).filter Cell.usable).map (fun c => rnd ((c.volt : Rat) / 20))

/-- The value of a tap for the epoch that ends (R484, R485): `v` is the device as the snapshot shows it, `ps` the paths of the epoch, none in an overrun. -/
def Dev.tap (v : Dev) (ps : List (Option Path)) (code : Nat) : Option Word :=
  let i := code % 4096
  match code / 4096 with
  | 1 => (v.adcChannel i).map rnd
  | 2 => if nth v.mcdNow.inv (qtySet i) false then none else some (wAt v.mcdNow.q i)
  | 3 => if gfeProduced v.mode v.law i then some (v.roGfe (0x300 + 4 * i)) else none
  | 4 => if cceProduced v.mode i then some (v.roWord (0xD0300 + 4 * i)) else none
  | 5 => let s := nth v.lpe.slots i {}; if s.on then some s.u else none
  | 6 => ((nth ps (i / 6) none).filter (fun _ => v.mode.energized)).map (fun p => wAt p.co.vArm (i % 6))
  | 7 => v.tapNode i
  | 8 => (v.sviValue i).map rnd
  | 9 => some (v.tapStatus i)
  | 10 => v.tapNode (4096 + i)
  | _ => none

/-- The tap code of a channel. -/
def Dev.chTap (d : Dev) (c : Nat) : Nat := d.afld (R.REC_CHc_CFG c) 31 16
/-- The channels in use (R484). -/
def Dev.recN (d : Dev) : Nat := min 64 (d.afld R.REC_CFG 6 0)
/-- DIV, at least 1. -/
def Dev.recDiv (d : Dev) : Nat := max 1 (d.afld R.REC_CFG 31 16)

/-- The values of the channels in use. -/
def Dev.recSample (v : Dev) (ps : List (Option Path)) : List (Option Word) := forN v.recN (fun c => v.tap ps (v.chTap c))

-- Condition triggers -----------------------------------------------------------------------------------------------------

/-- A condition of R498 holds. -/
def condHolds (kind : Nat) (a b : Rat) (x p : Option Word) : Bool :=
  match x with
  | none => false
  | some w =>
    match kind with
    | 0 => decide (a < fv w)
    | 1 => decide (fv w < a)
    | 2 => decide (fv w < a) || decide (b < fv w)
    | 3 => match p with
      | some q => decide (a < rabs (fv w - fv q))
      | none => false
    | _ => false

/-- The condition triggers of the epoch `k` that ends, stamped with its SYNC (R498). -/
def Dev.recConditions (d : Dev) (k sync : Nat) (vals : List (Option Word)) : Dev :=
  let r := d.recd
  let x (t : Nat) : Option Word := nth vals (d.afld (R.REC_TRIGt_CFG t) 5 0) none
  let now := forN 8 (fun t => condHolds (d.afld (R.REC_TRIGt_CFG t) 30 28) (d.aval (R.REC_TRIGt_A t)) (d.aval (R.REC_TRIGt_B t)) (x t) (nth r.prev t none))
  let fire := (List.range 8).filter (fun t => d.abit (R.REC_TRIGt_CFG t) 31 && nth now t false && !(nth r.fired t false))
  { d with recd := { r with prev := forN 8 x, fired := now, trigs := r.trigs ++ fire.map (fun t => ⟨t, sync, k, none⟩) } }

-- Rows -------------------------------------------------------------------------------------------------------------------

/-- The least of a list of values, as binary32 numbers. -/
def leastW (l : List Word) : Word := match l with | [] => f32NaN | x :: xs => xs.foldl (fun (m : Word) (y : Word) => if fv y < fv m then y else m) x
/-- The greatest of a list of values. -/
def mostW (l : List Word) : Word := match l with | [] => f32NaN | x :: xs => xs.foldl (fun (m : Word) (y : Word) => if fv m < fv y then y else m) x

/-- The words of a channel in a row (R486); `l` holds its valid values, newest first. -/
def reduce (mode : Nat) (l : List Word) : List Word :=
  if l.isEmpty then (if mode = 4 then [f32NaN, f32NaN] else [f32NaN])
  else match mode with
    | 0 => [l.headD f32NaN]
    | 1 => [rnd (meanW l)]
    | 2 => [leastW l]
    | 3 => [mostW l]
    | _ => [leastW l, mostW l]

/-- DRAM address of row slot `j` of the open segment (R488). -/
def Dev.slotAddr (d : Dev) (j : Nat) : Nat := d.recd.cur * d.segSize + 512 + 4 * d.rowWords * j

/-- The recorder's state together with the DRAM and the descriptors that wait for an answer: the segment a trigger opened, if any. -/
structure RecSt where
  dev : Dev
  dram : List Host.Cell
  done : List (CompRef × Option Nat)

/-- The epoch `k` joins its row; a row that ends is written (R486, R487). -/
def RecSt.row (x : RecSt) (k sync : Nat) (vals : List (Option Word)) : RecSt :=
  let d := x.dev
  let r := d.recd
  if r.st ≠ 1 ∧ r.st ≠ 2 then x
  else
    let start : Bool := decide (k % d.recDiv = 0) && decide (r.e0.getD 0 ≤ k)
    if !start && r.rowEpoch.isNone then x
    else
      let first := if start then k else r.rowEpoch.getD k
      let acc0 : List (List Word) := if start then [] else r.acc
      let bad0 : Nat := if start then 0 else r.bad
      let acc := forN d.recN (fun c => (nth vals c none).toList ++ nth acc0 c [])
      let bad := bad0 ||| bitmap 64 (fun c => decide (c < d.recN) && (nth vals c none).isNone)
      let syncs := if start then (sync :: r.syncs).take d.segCap else r.syncs
      if (k + 1) % d.recDiv = 0 then
        let ws := [lo32 first, lo32 bad, hi32 bad] ++ (List.range d.recN).flatMap (fun (c : Nat) => reduce (d.afld (R.REC_CHc_CFG c) 2 0) (nth acc c []))
        { x with dev := ({ d with recd := { r with rows := r.rows + 1, rowEpoch := none, acc := [], bad := 0, syncs := syncs } }).tlyMoved
                 dram := dramPutWords x.dram (d.slotAddr (r.rows % d.segCap)) ws }
      else { x with dev := { d with recd := { r with rowEpoch := some first, acc := acc, bad := bad, syncs := syncs } } }

-- Segments ---------------------------------------------------------------------------------------------------------------

/-- Segment `s` is held by an outstanding transfer (R493). -/
def Dev.segHeld (d : Dev) (s : Nat) : Bool := d.pci.xfers.any (fun t => t.seg == s && !t.aborted)

/-- The closed segment of lowest SEGSEQ that is not held. -/
def Dev.oldestSeg (d : Dev) : Option Nat :=
  ((d.recd.segs.filter (fun s => !(d.segHeld s.1))).foldl (fun (b : Option (Nat × Nat)) (s : Nat × Nat) =>
    match b with
    | some y => if s.2 < y.2 then some s else b
    | none => some s) none).map (·.1)

/-- The next segment (R493). -/
def Dev.nextSeg (d : Dev) : Option Nat :=
  match firstN (2 ^ d.afld R.REC_SEG_CFG 3 0) (fun s => !(d.recd.segs.any (fun y => y.1 == s)) && !(d.segHeld s)) with
  | some s => some s
  | none => if d.abit R.REC_CFG 7 then d.oldestSeg else none

/-- Open the next segment in PRE, or go to FULL (R492, R493); `kNext` is the epoch that begins. -/
def Dev.recOpen (d : Dev) (kNext : Nat) : Dev :=
  let r := { d.recd with rows := 0, rowEpoch := none, acc := [], bad := 0, trigRow := none, trig := none, late := false, extra := [], xcount := 0, syncs := [] }
  match d.nextSeg with
  | some s => { d with recd := { r with st := 1, cur := s, segs := r.segs.filter (fun y => y.1 != s), e0 := some (cdiv kNext d.recDiv * d.recDiv) } }
  | none => { d with recd := { r with st := 3, e0 := none } }

/-- Insert a trigger in order of stamp, then cause. -/
def trigInsert (t : Trig) : List Trig → List Trig
  | [] => [t]
  | y :: ys => if t.stamp < y.stamp ∨ (t.stamp = y.stamp ∧ t.cause < y.cause) then t :: y :: ys else y :: trigInsert t ys

/-- The header of the open segment but for its CRCs: words 0 to 125 (R502). -/
def Dev.recHeader (d : Dev) (ended : Bool) (pre rows first : Nat) : List Word :=
  let r := d.recd
  let t : Trig := r.trig.getD ⟨0, 0, 0, none⟩
  let row := r.trigRow.getD 0 - pre
  let ep := r.e0.getD 0 + row * d.recDiv
  let sync := nth r.syncs (r.rows + b2n r.rowEpoch.isSome - 1 - row) 0
  let xs := r.extra.flatMap (fun (y : Trig) => [word (put 31 27 y.cause), lo32 (tSec y.stamp), word (tNs y.stamp), lo32 y.epoch])
  let chs := forN d.recN (fun c => word (put 31 16 (d.chTap c) + put 2 0 (d.afld (R.REC_CHc_CFG c) 2 0)))
  let head := [word (put 31 16 1 + put 12 0 r.cur), word (r.segseq + 1), lo32 ep, hi32 ep, lo32 (tSec sync), hi32 (tSec sync), word (tNs sync),
    word (put 31 16 (tFrac sync)), word (put 31 16 d.recDiv + put 7 0 d.rowWords), word d.cycles,
    word (put 31 27 t.cause + put 26 26 (b2n r.late) + put 25 25 (b2n (d.postApplied != (d.act R.REC_POST).toNat)) + put 24 24 (b2n ended)
      + put 19 16 r.extra.length + put 15 0 (min 65535 r.xcount)),
    lo32 (tSec t.stamp), hi32 (tSec t.stamp), word (tNs t.stamp), word pre, word rows, word first, 0, 0, 0]
  let a := (head ++ xs ++ List.replicate 32 0).take 52
  (a ++ chs ++ List.replicate 74 0).take 126

/-- The bytes of `n` rows from row `row` on. -/
def RecSt.rowBytes (x : RecSt) (row n : Nat) : List Nat :=
  (List.range n).flatMap (fun (i : Nat) => dramBytes x.dram (x.dev.slotAddr ((row + i) % x.dev.segCap)) (4 * x.dev.rowWords))

/-- The segment in POST closes (R492, R495); the header is written and the next segment opens. -/
def RecSt.close (x : RecSt) (ended : Bool) (kNext : Nat) : RecSt :=
  let d := x.dev
  let r := d.recd
  let tr := r.trigRow.getD 0
  let pre := min (min (d.act R.REC_PRE).toNat tr) (tr - (r.rows - d.segCap))
  let row := tr - pre
  let rows := min (min d.segCap (pre + d.postApplied)) (r.rows - row)
  let first := row % d.segCap
  let ws := d.recHeader ended pre rows first ++ [word (crc32c (x.rowBytes row rows))]
  let full := ws ++ [word (crc32c (wordBytes ws))]
  let seq := r.segseq + 1
  let d1 := (({ d with recd := { r with segseq := seq, segs := r.segs ++ [(r.cur, seq)] } }).raise Sub.recd 0 R.REC_SEGSEQ 0 [word r.cur, word seq]).tlyMoved
  { x with dev := d1.recOpen kNext, dram := dramPutWords x.dram (r.cur * d.segSize) full }

/-- Whether the segment in POST has its last row. -/
def Dev.recComplete (d : Dev) : Bool := d.recd.st == 2 && decide (d.recd.trigRow.getD 0 + d.postApplied ≤ d.recd.rows)

-- Triggers ---------------------------------------------------------------------------------------------------------------

/-- The row that contains epoch `e` (R491), and whether it lies before the oldest row still held (R500). -/
def Dev.rowOf (d : Dev) (e : Nat) : Nat × Bool :=
  let r := d.recd
  let e0 := r.e0.getD 0
  let row := (e - e0) / d.recDiv
  let oldest := r.rows - d.segCap
  if e < e0 ∨ row < oldest then (oldest, true) else (row, false)

/-- One trigger is taken (R491, R493, R494, R500). -/
def RecSt.trigger (x : RecSt) (t : Trig) : RecSt :=
  let d := x.dev
  let r := d.recd
  let ans (o : Option Nat) : List (CompRef × Option Nat) := match t.ref with | some c => x.done ++ [(c, o)] | none => x.done
  match r.st with
  | 1 =>
    let p := d.rowOf t.epoch
    { x with dev := { d with recd := { r with st := 2, trig := some t, trigRow := some p.1, late := p.2 && t.cause == 26 } }, done := ans (some r.cur) }
  | 2 =>
    if r.extra.length < 8 then { x with dev := { d with recd := { r with extra := trigInsert t r.extra } }, done := ans none }
    else { x with dev := { d with recd := { r with xcount := sat16 r.xcount 1 } }, done := ans none }
  | 3 => { x with dev := { d with recd := { r with lost := sat16 r.lost 1 } }, done := ans none }
  | _ => { x with done := ans none }

/-- Take the triggers stamped before station time `b`, in order of stamp and cause; those stamped later wait (R492, R494). -/
def RecSt.triggers (x : RecSt) (b : Nat) : RecSt :=
  let all := x.dev.recd.trigs.foldl (fun (l : List Trig) (t : Trig) => trigInsert t l) []
  let now := all.filter (fun t => decide (t.stamp < b))
  let later := all.filter (fun t => decide (b ≤ t.stamp))
  now.foldl RecSt.trigger { x with dev := { x.dev with recd := { x.dev.recd with trigs := later } } }

/-- The host trigger held for a time that has come is taken (R500). -/
def Dev.hostDue (d : Dev) : Dev :=
  match d.recd.hostT with
  | some (t, c) =>
    if t ≤ d.tmb.now then { d with recd := { d.recd with hostT := none, trigs := d.recd.trigs ++ [⟨26, t, d.tmb.epoch, some c⟩] } } else d
  | none => d

/-- The epoch that contains a station time. -/
def Dev.epochAt (d : Dev) (t : Nat) : Nat := if d.tc = 0 then 0 else (t - d.origin) / d.tc

/-- A recorder trigger descriptor for station time `t` (R500): held when it lies ahead, else taken with its stamp. -/
def Dev.hostTrigger (d : Dev) (t : Nat) (c : CompRef) : Dev :=
  if d.tmb.now < t then
    let d1 := match d.recd.hostT with
      | some (_, o) => d.complete o 0 7 0 [0xFFFFFFFF]
      | none => d
    { d1 with recd := { d1.recd with hostT := some (t, c) } }
  else { d with recd := { d.recd with trigs := d.recd.trigs ++ [⟨26, t, d.epochAt t, some c⟩] } }

-- The boundary -------------------------------------------------------------------------------------------------------------

/-- The epoch `k` of the snapshot `v` is recorded: row, condition triggers, triggers of the epoch, and the close of a complete segment. `sync` and `b` are
the station times of SYNC k and of the boundary. -/
def RecSt.epoch (x : RecSt) (v : Dev) (ps : List (Option Path)) (k sync b : Nat) : RecSt :=
  let vals := v.recSample ps
  let x1 := ({ x with dev := x.dev.recConditions k sync vals }).row k sync vals
  let x2 := x1.triggers b
  if x2.dev.recComplete then x2.close false (k + 1) else x2

/-- The segment ends early (R495); closed with the settings it was recorded with, opened again under `active`. -/
def RecSt.finish (x : RecSt) (old : Dev) (kNext : Nat) : RecSt :=
  let d := x.dev
  if d.recd.st = 2 then
    let y := ({ x with dev := { d with active := old.active } }).close true kNext
    { y with dev := ({ y.dev with active := d.active }).recOpen kNext }
  else if d.recd.st = 1 then { x with dev := d.recOpen kNext }
  else x

/-- Discard every segment (R496, R501); outstanding transfers are aborted (R523). -/
def Dev.recDiscard (d : Dev) : Dev :=
  let r := d.recd
  { d with recd := { r with st := 0, segs := [], e0 := none, rows := 0, rowEpoch := none, acc := [], bad := 0, trigRow := none, trig := none, late := false, extra := [], xcount := 0, syncs := [] }
           pci := { d.pci with xfers := d.pci.xfers.map (fun t => { t with aborted := true }) } }

/-- One command at the boundary (R501). -/
def RecSt.command (x : RecSt) (kNext : Nat) (c : RecCmd) : RecSt :=
  let d := x.dev
  match c.op with
  | 1 => if d.recd.st = 0 then { x with dev := d.recOpen kNext } else x
  | 2 =>
    let y := x.finish d kNext
    { y with dev := { y.dev with recd := { y.dev.recd with st := 0, e0 := none } } }
  | 4 => { x with dev := d.recDiscard }
  | 5 => { x with dev := { d with recd := { d.recd with segs := d.recd.segs.filter (fun s => s.1 != c.seg) } } }
  | _ => x

/-- FULL becomes PRE once a segment can be chosen (R493); then the commands of the epoch that ended at station time `b` act. -/
def RecSt.commands (x : RecSt) (b kNext : Nat) : RecSt :=
  let x0 := if x.dev.recd.st = 3 ∧ x.dev.nextSeg.isSome then { x with dev := x.dev.recOpen kNext } else x
  let due (c : RecCmd) : Bool := decide (c.stamp < b)
  (x0.dev.recd.cmds.filter due).foldl (fun (y : RecSt) (c : RecCmd) => y.command kNext c)
    { x0 with dev := { x0.dev with recd := { x0.dev.recd with cmds := x0.dev.recd.cmds.filter (fun c => !due c) } } }

/-- The commit changed a REC register that ends the open segment (R495). -/
def Dev.recChanged (d o : Dev) : Bool :=
  (mergeKeys d.active o.active).any (fun off => off / 0x10000 == 20 && d.act off != o.act off && off != R.REC_TRIG_EVT &&
    !((List.range 8).any (fun t => off == R.REC_TRIGt_A t || off == R.REC_TRIGt_B t)))

/-- The consequences of a commit or a step (R495, R496); `o` is the device before. -/
def RecSt.committed (x : RecSt) (o : Dev) (stepped : Bool) (kNext : Nat) : RecSt :=
  let d := x.dev
  let x1 := if stepped || d.cycles != o.cycles || d.recChanged o then x.finish o kNext else x
  if d.afld R.REC_SEG_CFG 3 0 != o.afld R.REC_SEG_CFG 3 0 then { x1 with dev := x1.dev.recDiscard } else x1

/-- The epoch after `k` has number `kNext` (R26): the rows of the open segment are counted on from there. -/
def Dev.recReload (d : Dev) (k kNext : Nat) : Dev :=
  if kNext = k + 1 then d
  else
    let r := d.recd
    { d with recd := { r with e0 := r.e0.map (fun (e : Nat) => if r.rows = 0 ∧ r.rowEpoch.isNone then cdiv kNext d.recDiv * d.recDiv else e + kNext - (k + 1)) } }

/-- A recorder command waits for the boundary (R501). -/
def Dev.recCommand (d : Dev) (op seg : Nat) : Dev := { d with recd := { d.recd with cmds := d.recd.cmds ++ [⟨op, seg, d.stampNow⟩] } }

end Sys2Proof.Machine
end

