-- ==== Sys2Proof/Machine/Applied.lean ====
section
/-! DEFINITION. What follows from an applied commit in every block (R422, R434, R446, R513, R514, R576–R580), power domains switched by it, SETPOINT actions (R449),
and the adjustments of station time at a boundary (R426, R427). -/
namespace Sys2Proof.Machine

/-- The lanes and mirror lanes fall silent (R420): block lock is lost on each, and the mirror link with it. `o` is the device before. -/
def Dev.lanesDark (d o : Dev) : Dev :=
  let ls := d.ikl.lanes.map (fun (l : Lane) => { l with lock := false })
  let d1 : Dev := { d with ikl := { d.ikl with lanes := ls }, rdn := { d.rdn with mirLock := [false, false] } }
  d1.linkLost o

/-- An Ethernet request ends without effect because its domain is off (R579); its result is left open. -/
def Dev.ethEnd (d : Dev) (c : CompRef) : Dev := d.tookFree.complete c 0 (Config.free d.free % 2 ^ 32) 0 []

/-- A switchable domain powers down (R577, R580): its logic is in reset. -/
def Dev.domainDown (d : Dev) (n : Nat) : Dev :=
  let d1 : Dev := { d with pwr := { d.pwr with on := setAt d.pwr.on (n - 1) none, rising := d.pwr.rising.filter (· != n) } }
  if n = 6 then
    let out := d1.pci.txq ++ d1.pci.rxbufs
    let d2 : Dev := { d1 with ptp := {}, svi := List.replicate 16 {}, pci := { d1.pci with txq := [], rxbufs := [] } }
    out.foldl (fun (x : Dev) (e : EthReq) => x.ethEnd e.ref) d2
  else if n = 8 then { d1 with adc := {} }
  else if n = 11 then { d1 with recd := {}, pci := { d1.pci with xfers := d1.pci.xfers.map (fun (t : Xfer) => { t with aborted := true }) } }
  else if n = 13 then { d1 with ikl := { d1.ikl with lanes := forN 12 (fun i => let l := nth d1.ikl.lanes i {}; if i < 6 then l else { l with lock := false }) } }
  else if n = 14 then { d1 with rdn := { d1.rdn with mirLock := [false, false] } }
  else d1

/-- The switchable domains with their bits of `PWR_DOMAIN_EN` (R576). -/
def switchable : List (Nat × Nat) := [(0, 6), (1, 8), (2, 11), (3, 13), (4, 14)]

/-- The domains a commit switches (R580): down in descending order, up in ascending order. -/
def Dev.domainsCommitted (d o : Dev) : Dev :=
  let d1 := switchable.reverse.foldl (fun (x : Dev) (s : Nat × Nat) =>
    if o.abit R.PWR_DOMAIN_EN s.1 && !(d.abit R.PWR_DOMAIN_EN s.1) then x.domainDown s.2 else x) d
  switchable.foldl (fun (x : Dev) (s : Nat × Nat) =>
    if d.abit R.PWR_DOMAIN_EN s.1 && !(o.abit R.PWR_DOMAIN_EN s.1) then { x with pwr := { x.pwr with rising := x.pwr.rising ++ [s.2] } } else x) d1

/-- The switchable domains whose bits are 0 power down when BOOT ends (R578). -/
def Dev.bootDomains (d : Dev) : Dev :=
  switchable.reverse.foldl (fun (x : Dev) (s : Nat × Nat) => if d.abit R.PWR_DOMAIN_EN s.1 then x else x.domainDown s.2) d

/-- A queue becomes RUNNING (R513). -/
def Queue.start (x : Queue) : Queue :=
  { x with st := 1, err := 0, gen := x.gen + 1, sqHead := 0, sqTail := 0, cqTail := 0, phase := true, slots := [], reserved := 0, unsig := 0, firstUnsig := none }

/-- A queue becomes DISABLED (R514): recorder segments held by it are released. -/
def Dev.queueStop (d : Dev) (q : Nat) : Dev :=
  let d1 := d.setQueue q { d.queue q with st := 0 }
  { d1 with pci := { d1.pci with xfers := d1.pci.xfers.filter (fun (t : Xfer) => t.ref.q != q) } }

/-- Queues enabled and disabled by a commit (R513, R514). -/
def Dev.queuesCommitted (d o : Dev) : Dev :=
  (List.range 32).foldl (fun (x : Dev) (q : Nat) =>
    let on := d.abit (R.PCI_Qq_CFG q) 31
    let was := o.abit (R.PCI_Qq_CFG q) 31
    if on && !was then x.setQueue q (x.queue q).start else if !on && was then x.queueStop q else x) d

/-- The configuration of output TTn changed. -/
def Dev.ttChanged (d o : Dev) (n : Nat) : Bool :=
  [R.TMB_TTn_CFG n, R.TMB_TTn_T0_HI n, R.TMB_TTn_T0_LO n, R.TMB_TTn_T0_NS n, R.TMB_TTn_PERIOD n, R.TMB_TTn_WIDTH n].any (fun r => d.act r != o.act r)

/-- Outputs TTn whose configuration becomes active at station time `b` (R446). -/
def Dev.ttCommitted (d o : Dev) (b : Nat) : Dev :=
  (List.range 8).foldl (fun (x : Dev) (n : Nat) => if d.ttChanged o n then x.ttFirst n b else x) d

/-- PORT_CFG with the new TC to every admitted node (R429), effective at `eff`. -/
def Dev.portCfgAll (d : Dev) (eff : Nat) : Dev :=
  (d.ikl.nodes.filter (fun (p : Nat × NodeEnt) => p.2.adm != 0)).foldl (fun (x : Dev) (p : Nat × NodeEnt) =>
    x.enqueue p.2.lane (p.2.request 0x03 (d.portCfgData p.2 eff))) d

/-- The clock outputs and the gated change of a commit of REF_FREQ (R414, R422, R434). -/
def Dev.clkCommitted (d o : Dev) : Dev :=
  if d.abit R.CLK_PLL_CFG 0 != o.abit R.CLK_PLL_CFG 0 then d.gatedChange.lanesDark o
  else if d.clk.fallback then d else d.ckoCommitted o

/-- A changed BASE must be learned anew by the partner (R343, R347). -/
def Dev.rdnCommitted (d o : Dev) : Dev :=
  (if d.afld R.RDN_CFG 31 24 ≠ o.afld R.RDN_CFG 31 24 then { d with rdn := { d.rdn with baseEqual := false } } else d).rdnSettle

/-- One of the registers has a new active value. -/
def Dev.movedAny (d o : Dev) (rs : List Nat) : Bool := rs.any (fun (r : Nat) => d.act r != o.act r)

/-- The integrators whose gains or limits changed are clamped to the new limits (R176, R206, R644). -/
def Dev.limitsMoved (d o : Dev) : Dev :=
  let cut (rs : List Nat) (lim : Rat) (w : Word) : Word := if d.movedAny o rs then clampW lim w else w
  let g := d.gc.g
  let c := d.gc.c
  let bal (r : Nat) : Word → Word := cut [r, R.CCE_BAL_ILIM] (d.aval R.CCE_BAL_ILIM)
  let cc (r : Nat) : Word → Word := cut [r, R.CCE_CC_ULIM] (d.aval R.CCE_CC_ULIM)
  { d with gc := { d.gc with
      g := { g with pllInt := cut [R.GFE_PLL_KI, R.GFE_PLL_FLIM] (2 * piR * d.aval R.GFE_PLL_FLIM) g.pllInt
                    dpRest := cut [R.GFE_REST_KF, R.GFE_REST_PLIM] (d.aval R.GFE_REST_PLIM) g.dpRest
                    dvRest := cut [R.GFE_REST_KV, R.GFE_REST_VLIM] (d.aval R.GFE_REST_VLIM) g.dvRest }
      c := { c with intW := cut [R.CCE_W_KI, R.CCE_W_PLIM] (d.aval R.CCE_W_PLIM) c.intW
                    intDcv := cut [R.CCE_DCV_KI, R.CCE_DCV_PLIM] (d.aval R.CCE_DCV_PLIM) c.intDcv
                    intH := c.intH.map (bal R.CCE_HB_KI), intV := c.intV.map (bal R.CCE_VB_KI)
                    ccI := c.ccI.map (cc R.CCE_CC_KI), ccX1 := c.ccX1.map (cc R.CCE_CC_KR), ccX2 := c.ccX2.map (cc R.CCE_CC_KR) } } }

/-- Everything that follows from a commit at a boundary of station time `b`; `o` is the device before it, `k` the epoch that begins. -/
def Dev.applied (d o : Dev) (b k : Nat) : Dev :=
  let d1 : Dev := { d with sys := { d.sys with commitEpoch := k } }
  let d2 := (((((d1.limitsMoved o).adcCommitted o).ptpCommitted o).ddpCommitted o).lpeCommitted).ttCommitted o b
  let d3 := ((((d2.clkCommitted o).rdnCommitted o).queuesCommitted o).tlyCommitted o).tlyAbandon ((mergeKeys o.active d.active).filter (fun x => d.act x != o.act x))
  let d4 := (d3.domainsCommitted o).journal (d3.changedRetained o) k
  if d.cycles ≠ o.cycles then d4.portCfgAll (k + 4) else d4

-- SETPOINT -----------------------------------------------------------------------------------------------------------------

/-- A value lies outside the range of a register (R449). -/
def Dev.setpointBad (d : Dev) (off : Nat) (v : Word) : Bool := (d.stage off v).rangeBad off

/-- One SETPOINT entry is applied (R449, R452): the device, and the answer to give behind the digest. -/
def Dev.setpoint (d : Dev) (e b k : Nat) : Dev × (Dev → Dev) :=
  let off := d.schedTarget e
  let v := d.schedValue e
  let late := d.lateness e b
  let l := late.getD 0
  if d.setpointBad off v then (d, fun (x : Dev) => x.schedFinal e 5 3 l 0)
  else
    let d1 := d.setBoth off v
    let d2 : Dev := { d1 with sys := { d1.sys with stageGen := d1.sys.stageGen + 1 } }
    let d3 := ((d2.limitsMoved d).tlyAbandon (if d2.act off != d.act off then [off] else [])).journal (if isRetained off then [(off, v)] else []) k
    (d3, fun (x : Dev) => x.schedFinal e (if late.isSome then 3 else 2) 0 l k)

/-- The SETPOINT entries due at the boundary, in ascending order (R451). -/
def Dev.setpoints (d : Dev) (b k : Nat) : Dev × List (Dev → Dev) :=
  ((List.range 16).filter (fun e => d.schedDue b e && d.schedKind e == 3)).foldl
    (fun (x : Dev × List (Dev → Dev)) (e : Nat) => let y := x.1.setpoint e b k; (y.1, x.2 ++ [y.2])) (d, [])

-- Station time -------------------------------------------------------------------------------------------------------------

/-- The adjustments received before the boundary at station time `b` (R65, R426, R427). -/
def Dev.adjDue (d : Dev) (b : Nat) : List AdjReq := d.tmb.reqs.filter (fun (r : AdjReq) => decide (r.stamp < b))

/-- The sum of the steps that wait (R427). -/
def Dev.stepSum (d : Dev) (b : Nat) : Int := (((d.adjDue b).filter (fun (r : AdjReq) => r.step)).map (fun (r : AdjReq) => r.amount * nsU)).sum

/-- A step waits. -/
def Dev.stepDue (d : Dev) (b : Nat) : Bool := (d.adjDue b).any (fun (r : AdjReq) => r.step)

/-- TRIM and steps take effect (R426, R427, R453). -/
def Dev.adjust (d : Dev) (b : Nat) : Dev :=
  let t := d.tmb
  let due := d.adjDue b
  let trim := ((due.filter (fun (r : AdjReq) => !r.step)).map (fun (r : AdjReq) => r.amount)).getLastD t.trim
  let n := (due.filter (fun (r : AdjReq) => r.step)).length
  let d1 : Dev := { d with tmb := { t with reqs := t.reqs.filter (fun (r : AdjReq) => !decide (r.stamp < b)), trim := trim, now := ((t.now : Int) + d.stepSum b).toNat, steps := sat16 t.steps n } }
  if n = 0 then d1 else d1.steppedActions t.now

/-- The outcomes of the adjustments of a boundary. -/
def Dev.adjAnswers (d : Dev) (rs : List AdjReq) (k : Nat) : Dev := (rs.filter (fun (r : AdjReq) => !r.joint)).foldl (fun (x : Dev) (r : AdjReq) => x.adjResult r.origin 1 k) d

end Sys2Proof.Machine
end

