-- ==== Sys2Proof/Machine/Boundary.lean ====
section
/-! DEFINITION. The period boundary (R35) with the digest of the ended epoch (R62–R64, R531), and the boundary that ends BOOT (R96, R578). -/
namespace Sys2Proof.Machine

-- Digest -----------------------------------------------------------------------------------------------------------------

/-- A register as a digest gives it (R531): the snapshot `v`'s RO and W1C fields, RW fields, the active copy of staged ones. -/
def Dev.digestWord (v : Dev) (off : Nat) : Word :=
  match findReg off with
  | none => 0
  | some r =>
    let m (p : Acc → Bool) : Word := word (maskBits p r.flds)
    (v.roWord off &&& m (fun a => a == .ro || a == .w1c)) ||| (v.rwv off &&& m (· == .rw)) ||| (v.act off &&& m isStaged)

/-- The registers of slots 0 to 2 of a digest (R531). -/
def digestSlot0 : List Nat :=
  [R.SYS_MODE, R.SYS_TRIP_CAUSE, R.SYS_FRT_STATUS, R.RDN_CLAIM, R.RDN_STATUS, R.RAE_STATUS, R.GFE_STATUS, R.CCE_STATUS, R.MBE_STATUS]
/-- Slot 1. -/
def digestSlot1 : List Nat :=
  [R.DDP_STATUS, R.IKL_STATUS, R.IKL_FLT_MAP_LO, R.IKL_FLT_MAP_HI, R.IKL_MARGIN, R.CLK_STATUS, R.PTP_STATUS, R.SYS_OVERRUN, R.MCD_STATUS, R.GFE_PE, R.GFE_QE,
   R.GFE_ROTOR_FREQ, R.CCE_VDC, R.CCE_IDC, R.CCE_EPS_SUM]
/-- Slot 2. -/
def digestSlot2 : List Nat := forN 6 R.MBE_ARMn_NODES ++ forN 6 R.MBE_ARMn_RED ++ [R.CCE_PREF, R.GFE_EMF, R.GFE_PAVAIL]

/-- Slot 3: the selected registers. -/
def Dev.digestSel (v : Dev) (i : Nat) : Word :=
  let w := v.act (R.PCI_DIGEST_SELi i)
  if bit w 31 then v.digestWord (fld w 23 0) else 0

/-- The four slots of the digest of the epoch that the snapshot `v` describes. -/
def Dev.digestSlots (d v : Dev) : List (List Word) :=
  let t := v.tmb.sync
  [[lo32 v.tmb.epoch, hi32 v.tmb.epoch, lo32 (tSec t), hi32 (tSec t), word (tNs t), word (put 31 16 (tFrac t) + put 15 0 (min d.sys.digestLost 65535))] ++ digestSlot0.map v.digestWord,
   digestSlot1.map v.digestWord, digestSlot2.map v.digestWord, forN 15 v.digestSel]

/-- The digest is written, or dropped and counted (R63, R64). -/
def Dev.sendDigest (d v : Dev) : Dev :=
  let n := d.afld R.SYS_DIGEST_CTRL 15 0
  let q := d.afld R.SYS_DIGEST_CTRL 20 16
  if n = 0 ∨ v.tmb.epoch % n ≠ 0 then d
  else if d.hasRoom q 4 then
    let d1 := d.deliver q 2 (d.digestSlots v)
    { d1 with sys := { d1.sys with digestLost := 0 } }
  else { d with sys := { d.sys with digestDrop := sat32 d.sys.digestDrop 1, digestLost := d.sys.digestLost + 1 } }

/-- The event records of the epoch that ends at station time `b` (R68, R529, R533); later events wait. -/
def Dev.flushBefore (d : Dev) (b : Nat) : Dev :=
  let out := d.pci.evq.filter (fun (e : Ev) => decide (e.stamp < b))
  let rest := d.pci.evq.filter (fun (e : Ev) => decide (b ≤ e.stamp))
  let d1 := out.foldl Dev.sendEvent { d with pci := { d.pci with evq := [], evCount := 0 } }
  { d1 with pci := { d1.pci with evq := rest } }

-- The end of the epoch -----------------------------------------------------------------------------------------------------

/-- What happens in the epoch that ends at station time `b` bears a stamp before it (R65): work done when the last tick of the epoch has passed is stamped with that
tick. -/
def Dev.endOf (d : Dev) (b : Nat) (f : Dev → Dev) : Dev :=
  if d.stampNow < b then f d
  else
    let t := d.tmb
    let y := f { d with tmb := { t with now := d.stampNow - d.advance1.toNat, age := 0 } }
    { y with tmb := { y.tmb with now := t.now, age := t.age } }

/-- A LOST or BYPASSED cell's count of consecutive missed reports, which no completion holds (R257, R290): `seen` tells whether its report of the epoch was accepted. -/
def Arm.goneMissed (seen : Nat → Bool) (a : Arm) : Arm :=
  { a with cells := a.cells.map (fun c => if !c.gone then c else { c with missed := if seen c.addr then 0 else if c.due then min 3 (c.missed + 1) else c.missed }) }

/-- The counts of missed reports at the end of the epoch. -/
def Dev.missedOver (d : Dev) : Dev :=
  let seen (addr : Nat) : Bool := ((findNode d.ikl.nodes addr).map (fun e => e.valueEpoch == some d.tmb.epoch)).getD false
  { d with mbe := { d.mbe with arms := d.mbe.arms.map (Arm.goneMissed seen), next := d.mbe.next.map (fun as => as.map (Arm.goneMissed seen)) } }

/-- Cut-offs that have not been reported have passed by the boundary (R309, R360, R377), and the role of the epoch is settled (R348). -/
def Dev.epochOver (d : Dev) : Dev :=
  let d1 := d.adcCutoff
  let d2 := if d1.clk.fallback then d1 else (List.range 12).foldl (fun (x : Dev) (n : Nat) => if x.laneOn n then x.cutoff n else x) d1
  (if d2.lanesRun then d2.missedOver else d2).escrowCut.roleMissing

/-- The dispatch deadline of the epoch that ends at station time `b` (R32, R341). -/
def Dev.deadlineAt (d : Dev) (b : Nat) : Nat := b - lastDeliv d.laneOn (inForce d.ikl.nodes) * nsU / 8

/-- The release of the epoch is late or missing, or an engine met an uncorrectable error (R33, R420, R571). -/
def Dev.isOverrun (d : Dev) (late : Bool) : Bool := d.lanesRun && (late || d.sys.engineErr || (d.mode.live && d.mbe.next.isNone))

/-- The overrun itself (R33, R34, R346): the repeated frames carry the claim of the moment. -/
def Dev.overrunNow (d : Dev) : Dev :=
  let d1 := d.overrun
  ({ d1 with rdn := { d1.rdn with nextClaim := d1.claimNow } }).sendRepeats

/-- Overrun bookkeeping before step 1, at the dispatch deadline (R33, R34). -/
def Dev.overrunStep (d : Dev) (late : Bool) (b : Nat) : Dev :=
  if d.isOverrun late then (d.timeTo (d.deadlineAt b)).endOf b Dev.overrunNow else { d with sys := { d.sys with overrunRun := 0 } }

/-- FRT has reached its longest duration and does not end at this boundary (R127). -/
def Dev.frtExpired (d : Dev) (ok : Bool) : Bool := d.mode == .frt && (d.frtLate || d.frt.timeout) && !(d.frtEnds ok)

-- Step 2 -------------------------------------------------------------------------------------------------------------------

/-- The counters of the run-ahead engine for the epoch `k` that ends (R244, R247). -/
def Dev.raeCount (d : Dev) (void : Bool) (k : Nat) : Dev :=
  let r := d.rae
  if !r.selected then { d with rae := { r with void := void, firedBefore := false } }
  else
    let took (n : Nat) : Bool := !void && decide (r.sel = n + 1)
    { d with rae := { r with void := void, firedBefore := decide (r.fired ≠ 0), fireCnt := forN 4 (fun n => let x := nth r.fireCnt n 0; if r.fired.testBit n then sat32 x 1 else x)
                             selCnt := forN 4 (fun n => let x := nth r.selCnt n 0; if took n then sat32 x 1 else x)
                             lastEpoch := if !void && decide (r.sel ≠ 0) then k else r.lastEpoch } }

/-- The ledgers and commands of the epoch (R33, R241, R272): after an overrun the ledgers of SYNC k, with the commands in effect repeated. -/
def Mbe.take (m : Mbe) (void : Bool) : Mbe :=
  { m with arms := if void then m.kept.map Arm.repeated else m.next.getD m.arms, next := none }

/-- IDC_ZERO at the boundary (R205): |i_dc| was small enough in every epoch that began in the last 10 ms. -/
def Dev.idcCount (d : Dev) : Dev :=
  let bad := if rabs (fv d.gc.co.idc) ≤ d.aval R.CCE_IDC_ZERO then d.prc.idcBad else some d.tmb.syncUp
  { d with prc := { d.prc with idcBad := bad, idcZero := match bad with | some t => decide (t + 10 * msU < d.tmb.up) | none => true } }

/-- The DC current of an energized epoch, which the rise criterion of the next one needs (R227). -/
def Dev.idcKept (d : Dev) : Dev :=
  { d with rae := { d.rae with prevIdc := if d.mode.energized then some (rnd (idcOf d.act (d.cceIn 6 [] false))) else none } }

/-- Step 2: the state of record (R33, R241), conditioning, the arm currents of the epoch, the escrow (R360) and what follows from its count. -/
def Dev.recordStep (d : Dev) (void : Bool) : Dev × Option Escrow :=
  let k := d.tmb.epoch
  let ran := if void then none else if d.mode.energized then d.selPath else nth d.rae.paths 0 none
  let d1 : Dev := { d with gc := ran.getD d.gc }
  let d2 : Dev := if ran.isSome && d1.gc.co.presetClamped then { d1 with sys := { d1.sys with mrClamped := true } } else d1
  let d3 : Dev := ((d2.raeCount void k).idcCount).idcKept.mcdTake
  let arms := (d3.mbe.take void).arms
  let d4 : Dev := { d3 with mbe := { d3.mbe with next := none, arms := forN 6 (fun n => { nth arms n {} with iPrev := wAt d3.mcd.st.q (82 + n) }) } }
  let d5 := (if void then d4 else d4.tblkEnd).lpeRecord void
  let r := d5.escrowStep d
  (r.1.staleEp.joinEp.revertMs.joinMs.gradeHold.roleBoundary.rdnSettle, r.2)

-- Steps 5 and 7 --------------------------------------------------------------------------------------------------------------

/-- The link reset of R508: every queue's EN is cleared in both copies, and one event is raised. -/
def Dev.linkResetStep (d : Dev) : Dev :=
  if !d.pci.linkReset then d
  else
    let clr (m : List (Nat × Word)) : List (Nat × Word) :=
      (List.range 32).foldl (fun (t : List (Nat × Word)) (q : Nat) => spPut resetOf (R.PCI_Qq_CFG q) (spGet resetOf t (R.PCI_Qq_CFG q) &&& 0x7FFFFFFF) t) m
    let d1 : Dev := { d with active := clr d.active, staging := clr d.staging, pci := { d.pci with linkReset := false } }
    let d2 := (List.range 32).foldl (fun (x : Dev) (q : Nat) => if d.abit (R.PCI_Qq_CFG q) 31 then x.queueStop q else x) d1
    (d2.tlyAbandon ((mergeKeys d.active d1.active).filter (fun x => d1.act x != d.act x))).raise Sub.pci 0 R.PCI_LINK_STATUS 0 []

/-- A request to scan starts at the boundary, where the mode allows it (R329). -/
def Dev.scanStep (d : Dev) : Dev :=
  if !d.ikl.scanReq then d
  else
    let d1 : Dev := { d with ikl := { d.ikl with scanReq := false } }
    if d1.ikl.disc = 0 && d1.scanMode then d1.startDisc false else d1

/-- The overflow table is emptied at the boundary after `IKL_OVF_CLEAR` (R332). -/
def Dev.ovfStep (d : Dev) : Dev :=
  if d.ikl.ovfClear then { d with ikl := { d.ikl with ovfClear := false, ovf := [], refused := [] } } else d

/-- The parity of the epochs in which a node reports (R312); none when it reports in every one. -/
def Dev.phaseOf (d : Dev) (addr : Nat) : Option Nat :=
  match findNode d.ikl.nodes addr with
  | some e => if e.rphase = 0 then none else some (e.rphase - 2)
  | none => none

/-- An arm that awaits no report is complete at SYNC (R261). -/
def Dev.completeIdle (d : Dev) : Dev :=
  (List.range 6).foldl (fun (x : Dev) (n : Nat) => if (nth x.mbe.arms n {}).cells.all Cell.gone then x.completeArm n else x) d

/-- Every cell is blocked for the epoch that begins (R271, R423). -/
def Dev.blockedNow (d : Dev) : Bool := d.mode.blocked || d.clk.fallback || (d.mode == .precharge && d.prc.stage == 1)

/-- The commands come into effect (R254, R271); the ledgers of SYNC k are kept for an overrun (R33). -/
def Dev.mbeNewEpoch (d : Dev) : Dev :=
  let a := (if d.blockedNow then d.mbe.arms.map Arm.forceBlock else d.mbe.arms).map (Arm.advance d.phaseOf d.tmb.epoch)
  { d with mbe := { d.mbe with arms := a, kept := a } }

/-- The run-ahead engine starts afresh (R231). -/
def Rae.newEpoch (r : Rae) : Rae :=
  { r with paths := List.replicate 5 none, front := none, sel := 0, fired := 0, computed := 0, suppressed := 0, c3arm := 0, c3 := none, void := false, selected := false }

/-- Step 7: epoch `k` begins (R35, R254, R305, R355, R375, R397); `o` is the device before the boundary's commit. -/
def Dev.beginEpoch (d o : Dev) (k : Nat) (reload wasActive : Bool) : Dev :=
  let ended := d.tmb.epoch
  let s := if reload then d.syncAt k 0 else d.tmb.now
  let d1 : Dev := ({ d with tmb := { d.tmb with epoch := k, sync := s, syncUp := d.tmb.up + (s - d.tmb.now) } }).rootReturn.ckoSync
  let d2 := d1.iklNewEpoch.ovfStep.probeStep.nodeBoundary.scanStep.mgmtBoundary.mbeNewEpoch
  let d3 : Dev := { d2 with rae := d2.rae.newEpoch }
  let d4 := ((((d3.rdnNewEpoch ended wasActive).sendSync).ddpBoundary d.tmb.now).chopNewEpoch.lpeNewEpoch o).sviNewEpoch.adcNewEpoch.tlyRestart.completeIdle
  { d4 with sys := { d4.sys with engineErr := false }, apu := { d4.apu with seen := [] }, pwr := { d4.pwr with blockDone := d4.pwr.blockDone || d4.pwr.stopAt.isSome } }

/-- What was raised at the boundary bears the epoch that begins (R65, R645). -/
def Dev.restamp (d : Dev) (k : Nat) : Dev :=
  { d with pci := { d.pci with evq := d.pci.evq.map (fun (e : Ev) => { e with epoch := k }) }
           recd := { d.recd with trigs := d.recd.trigs.map (fun (t : Trig) => { t with epoch := k }) }
           sys := { d.sys with raised := d.sys.raised.map (fun (r : Raised) => { r with epoch := k }) } }

/-- Answers given behind the digest. -/
def giveAll (fs : List (Dev → Dev)) (d : Dev) : Dev := fs.foldl (fun (x : Dev) (f : Dev → Dev) => f x) d

/-- Whether the epoch counter is loaded anew by a step (R26, R427) or a commit (R429). -/
def Dev.reloads (d o : Dev) (b : Nat) : Bool := o.stepDue b || d.cycles != o.cycles || d.origin != o.origin

/-- The end of the epoch at station time `b` (R33, R65, R127, R283, R365, R430): what is settled only there, stamped before `b`; and whether the epoch is an overrun. -/
def Dev.endEpoch (d : Dev) (late : Bool) (b : Nat) : Dev × Bool :=
  let e0 := d.txOver.endOf b Dev.epochOver
  let e1 := (if e0.isOverrun late then e0 else e0.sendPart (e0.tmb.syncUp + 2 * blockU)).overrunStep late b
  let e2 := (if e1.lanesRun then e1.endOf b Dev.armNodes else e1).timeTo b
  let e3 := (e2.endOf b Dev.joinOver).phaseErr (((b : Int) - (d.grid (d.tmb.epoch + 1) : Int)) / (rootU : Int))
  (if e3.frtExpired e3.frtOk then e3.endOf b (fun x => x.raiseCause Cause.frtTimeout) else e3, e0.isOverrun late)

/-- The boundary at SYNC k+1 (R35) outside BOOT. -/
def State.boundary (s : State) (late : Bool) (phase : Int) : State :=
  let d := s.dev
  let k := d.tmb.epoch
  let b := d.syncAt (k + 1) phase
  -- the end of epoch k
  let x := d.endEpoch late b
  let e := x.1
  let void := x.2
  let ok := e.frtOk
  let expired := e.frtExpired ok
  let wasActive := e.rdn.role == 1
  let hold := !(e.sys.causesBefore b).isEmpty
  let ps := if void then List.replicate 5 none else e.rae.paths
  let frtMap := e.firedFrt
  -- steps 1 to 3
  let f1 := e.protectStep b
  let f2 := (f1.chopBoundary.recordStep void)
  let f3 := (f2.1.flashBoundary k).conditions.attestLatch
  let v := f3
  let rc := if f3.domOn 11 then ({ dev := f3, dram := s.dram, done := [] } : RecSt).epoch v ps k d.tmb.sync b else { dev := f3, dram := s.dram, done := [] }
  let f4 := (rc.dev.flushBefore b).sendDigest v
  -- step 4
  let g0 := (f4.applyClears b).lpeClears.ddpEnable
  -- step 5
  let g1 := g0.linkResetStep
  let c := g1.commitStep b
  let g2 := c.dev
  let reload := g2.reloads g1 b
  let kn := if reload then g2.epochFrom ((b : Int) + g2.stepSum b).toNat else k + 1
  let g3 := if c.applied then g2.applied g1 b kn else g2
  let g4 := g3.sealStep
  let sp := g4.setpoints b kn
  let reqs := sp.1.adjDue b
  let stepped := sp.1.stepDue b
  let g5 := sp.1.adjust b
  let g6 := if stepped then g5.hostDue else g5
  let rx : RecSt := { dev := g6, dram := if g1.domOn 11 && !(g6.domOn 11) then [] else rc.dram, done := rc.done }
  let ry := ((if g6.domOn 11 then rx.committed g1 stepped kn else rx)).commands b kn
  let g7 := ry.dev.recReload k kn
  -- step 6
  let m := ({ g7 with rae := { g7.rae with fired := frtMap, selected := true } }).modeStep ⟨b, kn, e, false⟩ hold ok f2.2
  -- step 7
  let h1 := m.1.beginEpoch g1 kn reload wasActive
  let h2 := if expired then h1.sendEblk Cause.frtTimeout else h1
  let h3 := h2.restamp kn
  -- completions of requests applied at the boundary
  let h4 := rc.done.foldl (fun (x : Dev) (r : CompRef × Option Nat) => x.complete r.1 0 1 k [match r.2 with | some n => word n | none => 0xFFFFFFFF]) h3
  let h5 := giveAll (sp.2 ++ m.2) ((c.answers kn (h4.tripAnswers kn)).adjAnswers reqs kn)
  { s with dev := h5, snap := v, dram := ry.dram }

-- The boundary that ends BOOT ----------------------------------------------------------------------------------------------------

/-- The mode in which BOOT ends (R96). -/
def Dev.bootEndMode (d : Dev) : Mode :=
  if d.abit R.SYS_MODE_CTRL 1 && (d.boot.restore == 1 || d.boot.restore == 2) && d.clk.lock then .standby else .config

/-- PORT_RESET is broadcast on every enabled lane (R329). -/
def Dev.portResetAll (d : Dev) : Dev :=
  ((List.range 12).filter d.laneOn).foldl (fun (x : Dev) (n : Nat) => x.enqueue n ⟨true, 0, 0, 0x08, 0, [0]⟩) d

/-- The restored configuration takes hold in every block; `o` is a device at factory defaults. -/
def Dev.bootApplied (d o : Dev) (b : Nat) : Dev :=
  let d1 := (((((d.adcCommitted o).ptpCommitted o).ddpCommitted o).lpeCommitted).ttCommitted o b)
  (((if d1.clk.fallback then d1 else d1.ckoCommitted o).rdnCommitted o).tlyCommitted o)

/-- Step 7 of BOOT (R92, R96, R578): the first SYNC, of the epoch loaded. -/
def State.bootExit (s : State) : State :=
  let d := s.dev
  let k := d.tmb.epoch
  let b := d.syncAt k 0
  let d0 := d.timeTo b
  let d1 : Dev := ({ d0 with boot := { d0.boot with step := 7, causeNext := 0 } }).bootDomains
  let d2 := ({ d1 with tmb := { d1.tmb with sync := b, syncUp := d1.tmb.up } }).rootReturn.ckoSync
  let d3 := d2.setMode d.bootEndMode k
  let d4 := (d3.bootApplied { d3 with active := [] } b).portResetAll
  let d5 := if d4.pins.emblkLow then d4.raiseCause Cause.emergency else d4
  let d6 := (((d5.mbeNewEpoch.rdnNewEpoch k false).sendSync.ddpBoundary b).chopNewEpoch.lpeNewEpoch d5).sviNewEpoch.adcNewEpoch.completeIdle
  { s with dev := d6, snap := { d0 with tmb := { d0.tmb with epoch := k - 1 } } }

/-- A SYNC: none while the timebase stands still (R92). -/
def State.periodBoundary (s : State) (late : Bool) (phase : Int) : State :=
  if s.dev.unpowered || !s.dev.tmb.running then s
  else if s.dev.mode = .boot then (if s.dev.boot.step = 6 then s.bootExit else s)
  else s.boundary late phase

end Sys2Proof.Machine
end

