-- ==== Sys2Proof/Machine/Operands.lean ====
section
/-! DEFINITION. Operand forms of the host's requests: submission entries with their reserved bits (R518–R520), and the admission of BAR0 writes (R9, R12,
R539–R545, R579). -/
namespace Sys2Proof.Machine

-- Submission entries --------------------------------------------------------------------------------------------------------

/-- Word `i` of an entry, 1 to 15. -/
def sqW (e : SqEntry) (i : Nat) : Word := wAt e.w (i - 1)
/-- A field of word `i`. -/
def sqF (e : SqEntry) (i hi lo : Nat) : Nat := fld (sqW e i) hi lo
/-- FENCE (R518). -/
def sqFence (e : SqEntry) : Bool := e.flags % 2 == 1
/-- A 64-bit number in words `i` and `i + 1`. -/
def sqD (e : SqEntry) (i : Nat) : Nat := (sqW e i).toNat + (sqW e (i + 1)).toNat * 2 ^ 32
/-- A time T: 64-bit seconds followed by nanoseconds (R519). -/
def sqT (e : SqEntry) (i : Nat) : Nat := tOf (sqD e i) (sqW e (i + 2)).toNat

/-- The opcodes of R519. -/
def Op.nop : Nat := 0x00
def Op.regStage : Nat := 0x01
def Op.regRead : Nat := 0x02
def Op.commit : Nat := 0x03
def Op.mode : Nat := 0x04
def Op.sched : Nat := 0x05
def Op.timeAdj : Nat := 0x06
def Op.trip : Nat := 0x07
def Op.recXfer : Nat := 0x08
def Op.recTrig : Nat := 0x09
def Op.ethTx : Nat := 0x0A
def Op.ethRxbuf : Nat := 0x0B

/-- The bits an opcode names in word `i` (R519). -/
def sqMask (op i : Nat) : Nat :=
  let all := 0xFFFFFFFF
  match op, i with
  | 0x01, 1 => 0x7
  | 0x01, i => if i % 2 = 0 then 0xFFFFFF else all
  | 0x02, 1 => 0xF
  | 0x02, i => if i ≤ 9 then 0xFFFFFF else 0
  | 0x03, 1 => 0x3
  | 0x03, 2 => all
  | 0x04, 1 => 0xF
  | 0x05, 1 => 0xF000000F
  | 0x05, 5 => 0xF0FFFFFF
  | 0x05, i => if i ≤ 6 then all else 0
  | 0x06, 1 => 0x3
  | 0x06, 3 => 0xFF
  | 0x06, i => if i ≤ 5 then all else 0
  | 0x07, 1 => 0xF
  | 0x08, 1 => 0x1FFF
  | 0x08, i => if i ≤ 5 then all else 0
  | 0x09, i => if 2 ≤ i ∧ i ≤ 4 then all else 0
  | 0x0A, 1 => 0x0FFF0003
  | 0x0A, i => if i ≤ 3 then all else 0
  | 0x0B, 1 => 0x3
  | 0x0B, i => if i ≤ 3 then all else 0
  | _, _ => 0

/-- A reserved bit of an entry is 1 (R518, R520). -/
def sqReserved (op : Nat) (e : SqEntry) : Bool :=
  decide (2 ≤ e.flags) || (List.range 15).any (fun i => (sqW e (i + 1)).toNat &&& sqMask op (i + 1) != (sqW e (i + 1)).toNat)

/-- COUNT lies outside its range (R520). -/
def sqCountBad (op : Nat) (e : SqEntry) : Bool :=
  match op with
  | 0x01 => sqF e 1 2 0 == 0
  | 0x02 => sqF e 1 3 0 == 0 || decide (8 < sqF e 1 3 0)
  | _ => false

/-- A host address that is not 4-byte aligned (R520). -/
def sqAddrBad (op : Nat) (e : SqEntry) : Bool :=
  match op with
  | 0x08 => sqF e 4 1 0 != 0
  | 0x0A => sqF e 2 1 0 != 0
  | 0x0B => sqF e 2 1 0 != 0
  | _ => false

/-- OP names no operation of the opcode. -/
def sqOpBad (op : Nat) (e : SqEntry) : Bool :=
  match op with
  | 0x05 => sqF e 1 31 28 != 1 && sqF e 1 31 28 != 2
  | 0x06 => sqF e 1 1 0 == 0
  | 0x07 => sqF e 1 3 0 == 0 || decide (3 < sqF e 1 3 0)
  | _ => false

/-- An entry is MALFORMED (R520). -/
def sqMalformed (op : Nat) (e : SqEntry) : Bool := sqReserved op e || sqCountBad op e || sqAddrBad op e || sqOpBad op e

/-- A completion whose RESULT the spec leaves open, of a request without effect. -/
def Dev.completeOpen (d : Dev) (r : CompRef) (status : Nat) : Dev := d.tookFree.complete r status (Config.free d.free % 256) 0 []

/-- The next entry of a queue can be fetched (R511, R517, R518, R545). -/
def Dev.canFetch (d : Dev) (q : Nat) (fence : Bool) : Bool :=
  let x := d.queue q
  decide (q < 32) && x.st == 1 && x.sqHead != x.sqTail && (!fence || x.reserved == 0) && decide (1 ≤ d.cqRoom q) && d.mode != .boot

/-- The queue has fetched an entry and holds a slot for its completion. -/
def Dev.fetched (d : Dev) (q : Nat) : Dev :=
  let x := d.queue q
  d.setQueue q { x with sqHead := (x.sqHead + 1) % d.sqSize q, reserved := x.reserved + 1 }

/-- Fetch an entry with opcode `op` and carry it out by `run`; a malformed one is not applied (R518–R520). -/
def Dev.fetch (d : Dev) (q op : Nat) (e : SqEntry) (run : Dev → CompRef → Dev) : Dev :=
  if d.canFetch q (sqFence e) then
    let r : CompRef := ⟨q, (d.queue q).gen, e.tag, op⟩
    let d1 := d.fetched q
    if sqMalformed op e then d1.completeOpen r 1 else run d1 r
  else d

/-- Fetch an entry of the form a row names: its `form` bits say so, or the entry is malformed anyway. Another form is another row's. -/
def Dev.descForm (d : Dev) (q : Nat) (e : SqEntry) (form : Bool) (op : Nat) (run : Dev → CompRef → Dev) : Dev := if form || sqMalformed op e then d.fetch q op e run else d

/-- A request is admitted from levels up to `maxLvl`; a refused one completes with PRIVILEGE and records the fault at the register of the same meaning (R530, R540, R543). -/
def Dev.admitReq (d : Dev) (r : CompRef) (maxLvl off : Nat) (run : Dev → Dev) : Dev :=
  if d.level (some r.q) ≤ maxLvl then run d else (d.accessFault (some r.q) 2 off true).completeOpen r 2

-- BAR0 ---------------------------------------------------------------------------------------------------------------------

/-- The host reaches BAR0: power is on and the PCI and fabric domains run (R576). -/
def Dev.hostUp (d : Dev) : Bool := !d.unpowered && d.domOn 3 && d.domOn 5

/-- An offset that BAR0 does not reach before step 5 of BOOT (R545). -/
def Dev.bootHidden (d : Dev) (off : Nat) : Bool :=
  d.mode == .boot && decide (d.boot.step < 5) && !(off == R.SYS_ID || off == R.SYS_BOOT_STATUS || (decide (0x070000 ≤ off) && decide (off < 0x070040)))

/-- The highest level admitted to writes of a register by the fixed admissions of the PCI, VLT and APU blocks (R509, R540). -/
def blockLevel (off : Nat) : Nat := if off / 0x10000 = 5 ∨ off / 0x10000 = 7 ∨ off / 0x10000 = 8 then 0 else 3

/-- A write of source `src` at an offset is admitted by the fixed level `maxLvl`, that of the block, and the region rule (R540). -/
def Dev.writeAdmitted (d : Dev) (src : Option Nat) (maxLvl off : Nat) : Bool :=
  let l := d.level src
  decide (l ≤ maxLvl) && decide (l ≤ blockLevel off) && d.regionAdmits l off true

/-- A BAR0 write of a command register: hidden in BOOT, refused by level, or without effect while its domain is off (R545, R540, R579); else `run`. -/
def Dev.bar0Cmd (d : Dev) (off maxLvl : Nat) (run : Dev → Dev) : Dev :=
  if !d.hostUp || d.bootHidden off then d
  else if !(d.writeAdmitted none maxLvl off) then d.accessFault none 2 off true
  else if d.blockOff (off / 0x10000) then d.accessFault none 5 off true
  else run d

/-- A BAR0 command whose refusal by level has an effect of its own beside the fault. -/
def Dev.bar0CmdElse (d : Dev) (off maxLvl : Nat) (denied : Dev → Dev) (run : Dev → Dev) : Dev :=
  if !d.hostUp || d.bootHidden off then d
  else if !(d.writeAdmitted none maxLvl off) then denied (d.accessFault none 2 off true)
  else run d

end Sys2Proof.Machine
end

