-- ==== Sys2Proof/Machine/Bar0.lean ====
section
/-! DEFINITION. BAR0 writes (R9–R12, R38–R46, R59–R61, R543): the command registers of every block, and the write of a register by its access type. -/
namespace Sys2Proof.Machine

-- SYS ----------------------------------------------------------------------------------------------------------------------

/-- A write of `SYS_COMMIT` (R41, R42, R49, R50). -/
def Dev.commitWrite (d : Dev) (go abandon : Bool) : Dev :=
  d.bar0Cmd R.SYS_COMMIT 2 (fun x =>
    let y := if go then x.commitRequest false none .bar0 else x
    if abandon then y.commitRequest true none .bar0 else y)

/-- A write of `SYS_MODE_REQ` (R78, R79, R81). -/
def Dev.modeWrite (d : Dev) (target : Nat) : Dev :=
  let t := target % 16
  d.bar0CmdElse R.SYS_MODE_REQ (d.modeLevel t) (fun x => x.modeDenied t) (fun x => x.modeRequest t .bar0)

/-- A write of `SYS_TRIP_CTRL.TRIP` (R132). -/
def Dev.tripWrite (d : Dev) : Dev := d.bar0Cmd R.SYS_TRIP_CTRL 2 (fun x => x.raiseCause Cause.host)

/-- A write of `SYS_TRIP_CTRL.CLEAR` (R131). -/
def Dev.tripClearWrite (d : Dev) : Dev := d.bar0Cmd R.SYS_TRIP_CTRL 1 (fun x => x.clearTrip none)

/-- A write of `SYS_SNAP_CTRL.HOLD` as 1 (R59, R60). -/
def State.holdSet (s : State) : State :=
  let d := s.dev.bar0Cmd R.SYS_SNAP_CTRL 3 (fun x =>
    if x.sys.holdStart.isSome then x else { (x.setRw R.SYS_SNAP_CTRL 1) with sys := { x.sys with holdStart := some x.tmb.up } })
  { s with dev := d, held := if s.dev.sys.holdStart.isNone && d.sys.holdStart.isSome then some s.snap else s.held }

/-- The hold ends. -/
def Dev.holdOver (d : Dev) : Dev := { (d.setRw R.SYS_SNAP_CTRL 0) with sys := { d.sys with holdStart := none } }

/-- A write of `SYS_SNAP_CTRL.HOLD` as 0 (R60). -/
def State.holdClear (s : State) : State :=
  let d := s.dev.bar0Cmd R.SYS_SNAP_CTRL 3 Dev.holdOver
  { s with dev := d, held := if s.dev.sys.holdStart.isSome && d.sys.holdStart.isNone then none else s.held }

/-- The 1 ms limit of a hold (R60). -/
def State.holdExpired (s : State) : State :=
  match s.dev.sys.holdStart with
  | some t => if t + msU ≤ s.dev.tmb.up then { s with dev := s.dev.holdOver.setSticky R.SYS_SNAP_CTRL 2, held := none } else s
  | none => s

-- TMB, PTP -----------------------------------------------------------------------------------------------------------------

/-- A write of `TMB_ADJ_GO.INCR` (R426). -/
def Dev.incrWrite (d : Dev) : Dev :=
  let trim := signed 40 ((d.rwv R.TMB_ADJ_TRIM_LO).toNat + (d.rwv R.TMB_ADJ_TRIM_HI).toNat * 2 ^ 32)
  d.bar0CmdElse R.TMB_ADJ_GO 1 (fun x => x.adjResult .bar0 5 0) (fun x => x.adjIncr .bar0 trim)

/-- A write of `TMB_ADJ_GO.STEP` (R427). -/
def Dev.stepWrite (d : Dev) : Dev :=
  let ns := signed 64 ((d.rwv R.TMB_ADJ_STEP_LO).toNat + (d.rwv R.TMB_ADJ_STEP_HI).toNat * 2 ^ 32)
  d.bar0CmdElse R.TMB_ADJ_GO 1 (fun x => x.adjResult .bar0 5 0) (fun x => x.adjStep .bar0 ns)

/-- A write of `TMB_CAP.GO` (R428). -/
def Dev.capWrite (d : Dev) : Dev := d.bar0Cmd R.TMB_CAP 3 Dev.capture

/-- The highest level admitted to arm or cancel an action of a kind (R42, R79, R519). -/
def Dev.schedLevel (d : Dev) (kind target : Nat) : Nat := match kind with | 1 => 2 | 2 => d.modeLevel (target % 16) | 3 => 2 | 4 => 1 | _ => 3

/-- An ARM or CANCEL of a MODE entry refused by level (R79). -/
def Dev.armDenied (d : Dev) (e : Nat) : Dev := if d.schedKind e = 2 ∧ (d.sched e).st ≠ 1 then d.schedFinal e 5 10 0 0 else d

/-- A write of `TMB_SCHED_CMD` with OP ARM (R448, R450). -/
def Dev.armWrite (d : Dev) (e : Nat) : Dev :=
  let n := e % 16
  d.bar0CmdElse R.TMB_SCHED_CMD (d.schedLevel (d.schedKind n) (d.schedTarget n)) (fun x => x.armDenied n)
    (fun x => if (x.sched n).st = 1 then x.accessFault none 5 R.TMB_SCHED_CMD true else x.arm n none)

/-- A write of `TMB_SCHED_CMD` with OP CANCEL (R450). -/
def Dev.cancelWrite (d : Dev) (e : Nat) : Dev :=
  let n := e % 16
  d.bar0Cmd R.TMB_SCHED_CMD (d.schedLevel (d.schedKind n) (d.schedTarget n)) (fun x => x.schedCancel n)

/-- A write of `PTP_DOMx_CMD` (R441). -/
def Dev.domWrite (d : Dev) (x : Nat) (accept : Bool) : Dev := if x < 2 then d.bar0Cmd (R.PTP_DOMx_CMD x) 1 (fun y => y.domCmd x accept) else d

-- ADC, IKL -----------------------------------------------------------------------------------------------------------------

/-- A write of `ADC_COREc_SOFT` (R381). -/
def Dev.softWrite (d : Dev) (c : Nat) : Dev := if c < 4 then d.bar0Cmd (R.ADC_COREc_SOFT c) 3 (fun x => x.softTrigger c) else d

/-- A write of `IKL_MGMT_GO.GO` (R327). -/
def Dev.goWrite (d : Dev) : Dev := d.bar0Cmd R.IKL_MGMT_GO 3 (fun x => x.mgmtGo (x.level none))

/-- A write of `IKL_DISC.REBUILD` (R329). -/
def Dev.rebuildWrite (d : Dev) : Dev :=
  d.bar0Cmd R.IKL_DISC 3 (fun x => if x.mode = .standby then x.startDisc true else x.accessFault none 5 R.IKL_DISC true)

/-- A write of `IKL_DISC.SCAN` (R329). -/
def Dev.scanWrite (d : Dev) : Dev :=
  d.bar0Cmd R.IKL_DISC 3 (fun x =>
    if !x.scanMode then x.accessFault none 5 R.IKL_DISC true
    else if x.ikl.disc ≠ 0 then x else { x with ikl := { x.ikl with scanReq := true } })

/-- RELEASE of a node (R334). -/
def Dev.nodeRelease (d : Dev) (addr : Nat) : Dev :=
  match findNode d.ikl.nodes addr with
  | some e =>
    if e.adm = 0 ∨ e.rel.isSome then d
    else
      let k := d.tmb.epoch + 4
      (d.modNode addr (fun x => { x with rel := some k })).enqueue e.lane (e.request 0x05 [BitVec.ofNat 64 (put 47 32 k)])
  | none => d

/-- A node that READMIT acts on (R334). -/
def Dev.readmits (d : Dev) (addr : Nat) (e : NodeEnt) : Bool :=
  if e.sm then ((d.cell e.arm addr).map Cell.gone).getD false else e.adm == 2

/-- READMIT of a node (R334): it is probed with IDENT on its route. -/
def Dev.nodeReadmit (d : Dev) (addr : Nat) : Dev :=
  match findNode d.ikl.nodes addr with
  | some e =>
    if d.readmits addr e && !(d.ikl.probes.any (fun (p : Probe) => p.own == some addr)) && e.redo.isNone then
      { d with ikl := { d.ikl with probes := d.ikl.probes ++ [{ lane := e.lane, depth := e.depth, route := e.route, own := some addr }] } }
    else d
  | none => d

/-- A write of `IKL_NODE_CMD` (R334). -/
def Dev.nodeCmdWrite (d : Dev) (readmit : Bool) (addr : Nat) : Dev :=
  d.bar0Cmd R.IKL_NODE_CMD 1 (fun x => if readmit then x.nodeReadmit (addr % 8192) else x.nodeRelease (addr % 8192))

/-- A write of `IKL_OVF_CLEAR` (R332). -/
def Dev.ovfWrite (d : Dev) : Dev := d.bar0Cmd R.IKL_OVF_CLEAR 3 (fun x => { x with ikl := { x.ikl with ovfClear := true } })

-- DDP, REC, RSV ------------------------------------------------------------------------------------------------------------

/-- A write of `DDP_CMD` with OP REENABLE (R474). -/
def Dev.reenableWrite (d : Dev) (pairs : Nat) : Dev := d.bar0Cmd R.DDP_CMD 1 (fun x => { x with ddp := { x.ddp with reen := x.ddp.reen ++ [(x.stampNow, pairs % 4096)] } })
/-- A write of `DDP_CMD` with OP TEST (R477). -/
def Dev.testWrite (d : Dev) (pairs : Nat) : Dev := d.bar0Cmd R.DDP_CMD 1 (fun x => { x with ddp := { x.ddp with tests := x.ddp.tests ++ [(x.stampNow, pairs % 4096)] } })

/-- A write of `REC_CMD` with OP ARM, DISARM, RESET or FREE (R501). -/
def Dev.recWrite (d : Dev) (op seg : Nat) : Dev := d.bar0Cmd R.REC_CMD (if 4 ≤ op then 1 else 2) (fun x => x.recCommand op (seg % 8192))
/-- A write of `REC_CMD` with OP TRIG (R500, R501). -/
def Dev.recTrigWrite (d : Dev) : Dev :=
  d.bar0Cmd R.REC_CMD 2 (fun x => { x with recd := { x.recd with trigs := x.recd.trigs ++ [⟨26, x.stampNow, x.tmb.epoch, none⟩] } })

/-- A write of `RSV_CMD` with OP ERASE (R601). -/
def Dev.eraseWrite (d : Dev) : Dev := d.bar0Cmd R.RSV_CMD 0 (fun x => if x.mode = .service then x.eraseStart else x.accessFault none 5 R.RSV_CMD true)
/-- A write of `RSV_CMD` with OP COMPACT (R601). -/
def Dev.compactWrite (d : Dev) : Dev := d.bar0Cmd R.RSV_CMD 1 Dev.compactStart

-- VLT ----------------------------------------------------------------------------------------------------------------------

/-- A write of `VLT_CMD` (R556), which R545 hides in BOOT; the vault's own admission follows in `run`. -/
def Dev.vltWrite (d : Dev) (run : Dev → Dev) : Dev := if !d.hostUp || d.bootHidden R.VLT_CMD then d else run d

/-- A write of `VLT_BOOT_GO` (R549, R552); `fw` and `cfg` are the bytes read from host memory. -/
def Dev.bootGoWrite (d : Dev) (dma : Bool) (fw cfg : List Nat) : Dev := d.bar0Cmd R.VLT_BOOT_GO 3 (fun x => x.hostImage dma fw cfg)

/-- A write of `VLT_CMD` as a whole word; an OP without a command has no effect. -/
def Dev.vltCmdWrite (d : Dev) (v : Word) : Dev :=
  d.vltWrite (fun x => match fld v 31 28 with
    | 1 => x.provision
    | 2 => x.setOwner
    | 3 => x.storeCert (fld v 27 16)
    | 4 => x.ctrInc (fld v 3 0)
    | 5 => x.sealVault
    | 6 => x.attest
    | 7 => x.challenge
    | 8 => x.unlock
    | _ => x)

-- Any register -------------------------------------------------------------------------------------------------------------

/-- The scheduled-action entry whose writable registers contain an offset. -/
def schedReg (off : Nat) : Option Nat :=
  if 0x30400 ≤ off ∧ off < 0x30600 ∧ off % 0x20 < 0x14 then some ((off - 0x30400) / 0x20) else none

/-- A staged write after sealing that an RWL register ignores (R10). -/
def Dev.sealedReg (d : Dev) (r : RegDef) : Bool := d.vlt.sealed && r.flds.any (fun f => f.acc == .rwl)

/-- A staged write of a register with RWL fields after sealing (R10): those fields are ignored, with an access-fault event; its RWS fields are staged. -/
def Dev.sealedStage (d : Dev) (src : Option Nat) (off : Nat) (v : Word) (r : RegDef) : Dev :=
  let d1 := d.accessFault src 3 off true
  let lock := word (maskBits (· == .rwl) r.flds)
  if r.flds.any (fun f => f.acc == .rws) then d1.stage off ((v &&& ~~~lock) ||| (d.stg off &&& lock)) else d1

/-- An admitted write of a register by its access type (R10, R46, R61, R448). -/
def Dev.plainWrite (d : Dev) (src : Option Nat) (off : Nat) (v : Word) (r : RegDef) : Dev :=
  let has (a : Acc) : Bool := r.flds.any (fun f => f.acc == a)
  if ((schedReg off).map (fun e => (d.sched e).st == 1)).getD false then d.accessFault src 5 off true
  else if d.sealedReg r then d.sealedStage src off v r
  else
    let d1 := if r.flds.any (fun f => isStaged f.acc) then d.stage off v else d
    let d2 := if has .rw then d1.setRw off v else d1
    if has .w1c then d2.clearReq off v else d2

/-- A write of a command register by its offset (R10); none where the offset is no command register. -/
def Dev.cmdWrite (d : Dev) (off : Nat) (v : Word) : Option Dev :=
  let op := fld v 31 28
  let when1 (b : Bool) (f : Dev → Dev) (x : Dev) : Dev := if b then f x else x
  if off = R.SYS_COMMIT then some (d.commitWrite (bit v 0) (bit v 1))
  else if off = R.SYS_MODE_REQ then some (d.modeWrite (fld v 3 0))
  else if off = R.SYS_TRIP_CTRL then some (when1 (bit v 0) Dev.tripClearWrite (when1 (bit v 1) Dev.tripWrite d))
  else if off = R.TMB_ADJ_GO then some (when1 (bit v 1) Dev.stepWrite (when1 (bit v 0) Dev.incrWrite d))
  else if off = R.TMB_CAP then some (when1 (bit v 0) Dev.capWrite d)
  else if off = R.TMB_SCHED_CMD then some (if op = 1 then d.armWrite (fld v 3 0) else if op = 2 then d.cancelWrite (fld v 3 0) else d)
  else if off = R.PTP_DOMx_CMD 0 then some (when1 (bit v 1) (fun x => x.domWrite 0 false) (when1 (bit v 0) (fun x => x.domWrite 0 true) d))
  else if off = R.PTP_DOMx_CMD 1 then some (when1 (bit v 1) (fun x => x.domWrite 1 false) (when1 (bit v 0) (fun x => x.domWrite 1 true) d))
  else if off = R.IKL_MGMT_GO then some (when1 (bit v 0) Dev.goWrite d)
  else if off = R.IKL_DISC then some (when1 (bit v 1) Dev.scanWrite (when1 (bit v 0) Dev.rebuildWrite d))
  else if off = R.IKL_NODE_CMD then some (if op = 1 ∨ op = 2 then d.nodeCmdWrite (op == 2) (fld v 12 0) else d)
  else if off = R.IKL_OVF_CLEAR then some (when1 (bit v 0) Dev.ovfWrite d)
  else if off = R.DDP_CMD then some (if op = 1 then d.reenableWrite (fld v 11 0) else if op = 2 then d.testWrite (fld v 11 0) else d)
  else if off = R.REC_CMD then some (if op = 3 then d.recTrigWrite else if op = 1 ∨ op = 2 ∨ op = 4 ∨ op = 5 then d.recWrite op (fld v 12 0) else d)
  else if off = R.RSV_CMD then some (if op = 1 then d.eraseWrite else if op = 2 then d.compactWrite else d)
  else if off = R.VLT_CMD then some (d.vltCmdWrite v)
  else if off = R.VLT_BOOT_GO then
    (let a := d.freeBytes (d.rwv R.VLT_BOOT_FW_LEN).toNat
     let b := a.2.freeBytes (d.rwv R.VLT_BOOT_CFG_LEN).toNat
     some (if bit v 0 then b.2.bootGoWrite (Config.free b.2.free % 2 == 1) a.1 b.1 else d))
  else match firstN 4 (fun c => off == R.ADC_COREc_SOFT c) with
    | some c => some (when1 (bit v 0) (fun x => x.softWrite c) d)
    | none => none

/-- A BAR0 write that the row of a command does not name (R9, R10, R12, R38, R540, R543, R545). -/
def Dev.regWrite (d : Dev) (off : Nat) (v : Word) (whole : Bool) : Dev :=
  if !d.hostUp || d.bootHidden off then d
  else if !whole || off % 4 != 0 then d.accessFault none 0 off true
  else if readOnly off then d.accessFault none 4 off true
  else match findReg off with
    | none => d.accessFault none 1 off true
    | some r =>
      match d.cmdWrite off v with
      | some x => x
      | none => if d.writeAdmitted none 3 off then d.plainWrite none off v r else d.accessFault none 2 off true

/-- A BAR0 write (R9, R10); HOLD of `SYS_SNAP_CTRL` acts on the snapshot that reads see (R59, R60). -/
def State.registerWrite (s : State) (off : Nat) (v : Word) (whole : Bool) : State :=
  if off = R.SYS_SNAP_CTRL ∧ whole = true then
    let s1 := if bit v 0 then s.holdSet else s.holdClear
    if bit v 1 then { s1 with dev := s1.dev.bar0Cmd R.SYS_SNAP_CTRL 3 (fun x => x.clearReq R.SYS_SNAP_CTRL 2) } else s1
  else { s with dev := s.dev.regWrite off v whole }

/-- A BAR0 read that is refused, or narrower than a word or unaligned (R9, R543); any other read has no effect. -/
def Dev.readFault (d : Dev) (off : Nat) (whole : Bool) : Dev :=
  if !d.hostUp || d.bootHidden off then d
  else if !whole || off % 4 != 0 then d.accessFault none 0 off false
  else if d.regionAdmits (d.level none) off false then d
  else d.accessFault none 2 off false

end Sys2Proof.Machine
end

