-- ==== Sys2Proof/Machine/Queues.lean ====
section
/-! DEFINITION. The teller queues' requests (R518–R525), doorbells (R510, R511), errors, MSI-X and the PCI link (R508, R535–R537). -/
namespace Sys2Proof.Machine

-- Doorbells and errors --------------------------------------------------------------------------------------------------------

/-- An entry whose opcode is not listed is fetched and completes as MALFORMED (R520); `w` is its word 0. -/
def Dev.badEntry (d : Dev) (q : Nat) (w : Word) : Dev :=
  if 12 ≤ fld w 7 0 && d.canFetch q (bit w 8) then (d.fetched q).completeOpen ⟨q, (d.queue q).gen, fld w 31 16, fld w 7 0⟩ 1 else d

/-- A write of SQ_TAIL (R510, R511). -/
def Dev.sqTailWrite (d : Dev) (q index : Nat) (bad : List Word) : Dev :=
  let x := d.queue q
  if x.st ≠ 1 then d
  else if d.sqSize q ≤ index then d.queueError q 1
  else bad.foldl (fun (y : Dev) (w : Word) => y.badEntry q w) (d.setQueue q { x with sqTail := index })

/-- A write of CQ_HEAD (R510, R511). An index past the slots written leaves them as they are. -/
def Dev.cqHeadWrite (d : Dev) (q index : Nat) : Dev :=
  let x := d.queue q
  if x.st ≠ 1 then d
  else if d.cqSize q ≤ index then d.queueError q 1
  else
    let left := (x.cqTail + d.cqSize q - index) % d.cqSize q
    d.setQueue q { x with slots := x.slots.drop (x.slots.length - left) }

/-- A host-memory access of a queue fails (R535). -/
def Dev.dmaError (d : Dev) (q : Nat) : Dev :=
  if (d.queue q).st ≠ 1 then d
  else
    ((d.queueError q 2).raise Sub.pci q (R.PCI_Qq_STATUS q) 0 []).signal q

/-- The coalescing time of a queue has passed (R536). -/
def Dev.coalesce (d : Dev) (q : Nat) : Dev :=
  let x := d.queue q
  let t := d.afld (R.PCI_Qq_COAL q) 31 16
  match x.firstUnsig with
  | some u => if t ≠ 0 ∧ x.unsig ≠ 0 ∧ u + t * usU ≤ d.tmb.up then d.signal q else d
  | none => d

/-- A write of a word of the MSI-X table; unmasking a vector sends its pending message (R510, R536). -/
def Dev.msixWrite (d : Dev) (i : Nat) (v : Word) : Dev :=
  if 256 ≤ i then d
  else
    let p := d.pci
    let vec := i / 4
    let open1 := i % 4 == 3 && !(bit v 0) && p.msixPending.testBit vec
    let d1 : Dev := { d with pci := { p with msixTable := setAt p.msixTable i v } }
    if open1 then { d1 with pci := { d1.pci with msixPending := p.msixPending - 2 ^ vec, msixSent := modAt p.msixSent vec (· + 1) } } else d1

/-- The link comes up (R537). -/
def Dev.linkUp (d : Dev) (speed width : Nat) : Dev := if d.unpowered then d else { d with pci := { d.pci with up := true, speed := speed % 16, width := width % 16 } }

/-- A hot reset, link-down or D3hot (R508): the interface is reset now, the queues at the boundary. -/
def Dev.linkDown (d : Dev) : Dev :=
  if d.unpowered then d
  else
    let p := d.pci
    { d with pci := { p with up := false, speed := 0, width := 0, downCnt := sat16 p.downCnt 1, linkReset := true, msixTable := (List.replicate 64 [0, 0, 0, 1]).flatten, msixPending := 0 } }

-- Registers ----------------------------------------------------------------------------------------------------------------

/-- One write of a REG_STAGE (R521, R540, R542): the device, and whether it was staged. A register with an RWL field stops the entry after sealing (DEDUCED, log 119). -/
def Dev.stageReq (d : Dev) (q off : Nat) (v : Word) : Dev × Bool :=
  let src := some q
  if off % 4 != 0 then (d.accessFault src 0 off true, false)
  else if readOnly off then (d.accessFault src 4 off true, false)
  else match findReg off with
    | none => (d.accessFault src 1 off true, false)
    | some r =>
      if !(d.writeAdmitted src 3 off) then (d.accessFault src 2 off true, false)
      else if !(r.flds.any (fun f => isStaged f.acc)) then (d, false)
      else if d.sealedReg r then (d.accessFault src 3 off true, false)
      else (d.stage off v, true)

/-- The writes of a REG_STAGE from pair `i` on, in order: the device, writes applied, offset refused. -/
def Dev.stageFrom (e : SqEntry) (q : Nat) : Nat → Nat → Dev → Dev × Nat × Nat
  | 0, i, d => (d, i, 0)
  | n + 1, i, d =>
    let off := sqF e (2 + 2 * i) 23 0
    let y := d.stageReq q off (sqW e (3 + 2 * i))
    if y.2 then Dev.stageFrom e q n (i + 1) y.1 else (y.1, i, off)

/-- REG_STAGE (R519, R521). -/
def Dev.regStage (d : Dev) (e : SqEntry) (r : CompRef) : Dev :=
  let c := sqF e 1 2 0
  let y := Dev.stageFrom e r.q c 0 d
  y.1.complete r 0 (if y.2.1 = c then 1 else 12) (if y.2.1 = 0 then 0 else d.tmb.epoch) [word y.2.1, y.1.sys.stageGen, word y.2.2]

/-- The value a read of an offset returns (R9, R12, R522, R545); `v` is the snapshot or the held one. -/
def readOffset (d v : Dev) (dram : List Host.Cell) (off : Nat) : Word :=
  if off % 4 != 0 then 0 else match windowOf off with
    | some w => readWindow d v dram off w
    | none => d.readReg v off

/-- The device reads see: the present one in BOOT, else the held snapshot, else the current one (R56, R59). -/
def State.view (s : State) : Dev := if s.dev.mode == .boot then s.dev else s.held.getD s.snap

/-- REG_READ (R519, R522, R542); `v` and `dram` are what reads see. -/
def Dev.regRead (d v : Dev) (dram : List Host.Cell) (e : SqEntry) (r : CompRef) : Dev :=
  let offs := forN (sqF e 1 3 0) (fun i => sqF e (2 + i) 23 0)
  match offs.find? (fun o => !(d.regionAdmits (d.level (some r.q)) o false)) with
  | some o => (d.accessFault (some r.q) 2 o false).completeOpen r 2
  | none =>
    let d1 := offs.foldl (fun (x : Dev) (o : Nat) => if o % 4 = 0 then x else x.accessFault (some r.q) 0 o false) d
    d1.complete r 0 1 v.tmb.epoch (offs.map (readOffset d v dram))

-- Boundary requests ----------------------------------------------------------------------------------------------------------

/-- COMMIT and its ABANDON form (R42, R47, R49). -/
def Dev.commitReq (d : Dev) (e : SqEntry) (r : CompRef) : Dev :=
  let w := sqW e 1
  d.admitReq r 2 R.SYS_COMMIT (fun x => x.commitRequest (bit w 1) (if bit w 0 then some (sqW e 2) else none) (.desc r))

/-- MODE (R78, R79, R530). -/
def Dev.modeReqDesc (d : Dev) (e : SqEntry) (r : CompRef) : Dev :=
  let t := sqF e 1 3 0
  if d.level (some r.q) ≤ d.modeLevel t then d.modeRequest t (.desc r)
  else
    let x := (d.accessFault (some r.q) 2 R.SYS_MODE_REQ true).modeDenied t
    x.complete r 2 10 0 [x.modeResultWord]

/-- The entry registers of a SCHED request are written (R448). -/
def Dev.schedFill (d : Dev) (n : Nat) (e : SqEntry) : Dev :=
  ((((d.setRw (R.TMB_SCHEDe_SEC_LO n) (sqW e 2)).setRw (R.TMB_SCHEDe_SEC_HI n) (sqW e 3)).setRw (R.TMB_SCHEDe_NS n) (sqW e 4)).setRw (R.TMB_SCHEDe_ACT n) (sqW e 5)).setRw
    (R.TMB_SCHEDe_VALUE n) (sqW e 6)

/-- The completion data of a SCHED request that ends at once (R519). -/
def Dev.schedData (d : Dev) (n : Nat) : List Word := [(d.sched n).statusWord, word (d.sched n).lateNs]

/-- SCHED with OP ARM (R448, R450, R79). -/
def Dev.armReq (d : Dev) (e : SqEntry) (r : CompRef) : Dev :=
  let n := sqF e 1 3 0
  let kind := sqF e 5 31 28
  if d.level (some r.q) ≤ d.schedLevel kind (sqF e 5 23 0) then
    if (d.sched n).st = 1 then d.complete r 0 (if kind = 2 then 9 else 6) 0 (d.schedData n) else (d.schedFill n e).arm n (some r)
  else
    let x := d.accessFault (some r.q) 2 R.TMB_SCHED_CMD true
    if kind = 2 then
      let y := if (x.sched n).st = 1 then x else (x.schedFill n e).armDenied n
      y.complete r 2 10 0 (y.schedData n)
    else x.completeOpen r 2

/-- SCHED with OP CANCEL (R450). -/
def Dev.cancelReq (d : Dev) (e : SqEntry) (r : CompRef) : Dev :=
  let n := sqF e 1 3 0
  let was := (d.sched n).st == 1
  d.admitReq r (d.schedLevel (d.schedKind n) (d.schedTarget n)) R.TMB_SCHED_CMD (fun x =>
    let y := x.schedCancel n
    y.complete r 0 (y.sched n).result (if was then d.tmb.epoch else 0) (y.schedData n))

/-- TIME_ADJ with INCR (R426); with STEP set too the request completes with the step. -/
def Dev.incrReq (d : Dev) (e : SqEntry) (r : CompRef) : Dev :=
  let trim := signed 40 ((sqW e 2).toNat + sqF e 3 7 0 * 2 ^ 32)
  if 1 < d.level (some r.q) then (d.accessFault (some r.q) 2 R.TMB_ADJ_GO true).adjResult (.desc r) 5 0
  else if bit (sqW e 1) 1 then
    if trimBad trim then d.adjResult (.desc r) 3 0
    else if !d.stepMode then d.adjResult (.desc r) 2 0
    else (d.adjIncr (.desc r) trim true).adjStep (.desc r) (signed 64 (sqD e 4))
  else d.adjIncr (.desc r) trim

/-- TIME_ADJ with STEP (R427). -/
def Dev.stepReq (d : Dev) (e : SqEntry) (r : CompRef) : Dev :=
  if 1 < d.level (some r.q) then (d.accessFault (some r.q) 2 R.TMB_ADJ_GO true).adjResult (.desc r) 5 0
  else d.adjStep (.desc r) (signed 64 (sqD e 4))

/-- TRIP with OP TRIP or EMERGENCY (R130, R132). -/
def Dev.tripReq (d : Dev) (cause : Nat) (r : CompRef) : Dev :=
  d.admitReq r 2 R.SYS_TRIP_CTRL (fun x => ({ x with sys := { x.sys with tripRefs := x.sys.tripRefs ++ [(x.stampNow, r)] } }).raiseCause cause)

/-- TRIP with OP CLEAR (R131). -/
def Dev.clearReqDesc (d : Dev) (r : CompRef) : Dev :=
  d.admitReq r 1 R.SYS_TRIP_CTRL (fun x => x.clearTrip (some r))

-- Recorder and Ethernet --------------------------------------------------------------------------------------------------------

/-- A request to a block whose domain is off completes without effect (R579). -/
def Dev.offReq (d : Dev) (r : CompRef) (off : Nat) : Dev := (d.accessFault (some r.q) 5 off true).completeOpen r 0

/-- REC_XFER (R493, R523, R542). -/
def Dev.xferReq (d : Dev) (e : SqEntry) (r : CompRef) : Dev :=
  let seg := sqF e 1 12 0
  let off := (sqW e 2).toNat
  let len := (sqW e 3).toNat
  if !(d.regionAdmits (d.level (some r.q)) 0xC00000 false) then (d.accessFault (some r.q) 2 0xC00000 false).completeOpen r 2
  else if !(d.domOn 11) then d.offReq r R.REC_CMD
  else match d.recd.segs.find? (fun s => s.1 == seg) with
    | none => d.complete r 0 11 0 []
    | some s =>
      if off % 4 ≠ 0 ∨ len % 4 ≠ 0 ∨ d.segSize < off + len then d.complete r 0 3 0 []
      else { d with pci := { d.pci with xfers := d.pci.xfers ++ [{ ref := r, seg := seg, off := off, len := len, seq := s.2, aborted := false }] } }

/-- The oldest transfer of a queue ends (R523); `dram` is the recorder memory. -/
def Dev.xferDone (d : Dev) (dram : List Host.Cell) (q : Nat) : Dev :=
  match d.pci.xfers.find? (fun (t : Xfer) => t.ref.q == q) with
  | none => d
  | some t =>
    let d1 : Dev := { d with pci := { d.pci with xfers := d.pci.xfers.erase t } }
    if t.aborted then d1.completeOpen t.ref 4
    else d1.complete t.ref 0 1 d.tmb.epoch [word t.seq, word (crc32c (dramBytes dram (t.seg * d.segSize + t.off) t.len))]

/-- REC_TRIG (R500). -/
def Dev.trigReq (d : Dev) (e : SqEntry) (r : CompRef) : Dev :=
  d.admitReq r 2 R.REC_CMD (fun x => if x.domOn 11 then x.hostTrigger (sqT e 2) r else x.offReq r R.REC_CMD)

/-- ETH_TX (R524); a LENGTH outside 60–2,040 completes with RANGE. -/
def Dev.txReq (d : Dev) (e : SqEntry) (r : CompRef) : Dev :=
  let len := sqF e 1 27 16
  d.admitReq r 1 R.PCI_ETH_CFG (fun x =>
    if !(x.domOn 6) then x.offReq r R.PCI_ETH_CFG
    else if len < 60 ∨ 2040 < len then x.complete r 0 3 0 []
    else { x with pci := { x.pci with txq := x.pci.txq ++ [⟨r, sqF e 1 1 0, len⟩] } })

/-- ETH_RXBUF (R525). -/
def Dev.rxReq (d : Dev) (e : SqEntry) (r : CompRef) : Dev :=
  let p := sqF e 1 1 0
  d.admitReq r 1 R.PCI_ETH_CFG (fun x =>
    if !(x.domOn 6) then x.offReq r R.PCI_ETH_CFG
    else if x.afld R.PCI_ETH_CFG (8 * p + 4) (8 * p) ≠ r.q then x.complete r 0 3 0 []
    else { x with pci := { x.pci with rxbufs := x.pci.rxbufs ++ [⟨r, p, 2048⟩] } })

end Sys2Proof.Machine
end

