-- ==== Sys2Proof/Machine/Events.lean ====
section
/-! DEFINITION. Events at the block's pins and links that no other chapter file holds: cut-off instants (R309, R360, R377), block lock (R295, R353), lost nodes (R259,
R276, R337), discovery by interval (R329), the emergency input (R627), boundary scan and service port (R632, R633). -/
namespace Sys2Proof.Machine

/-- An event at a powered device. -/
def Dev.powered (d : Dev) (f : Dev → Dev) : Dev := if d.unpowered then d else f d
/-- An event of numbered unit `n` of `m`; there is no other unit. -/
def Dev.unit (d : Dev) (n m : Nat) (f : Dev → Dev) : Dev := if n < m then f d else d
/-- A timeout of the epoch that ends at station time `t` after SYNC k: its command stands for the end of that cycle, whose arrivals have been evaluated (R67), and time goes on to
it (R25). None before the first SYNC. -/
def Dev.instant (d : Dev) (t : Nat) (f : Dev → Dev) : Dev := if d.mode = .boot ∨ !d.tmb.running then d else f (d.timeTo (d.tmb.sync + t + d.advance1.toNat))

/-- The ADC cut-off at SYNC k + Tc/2 (R377). -/
def Dev.cutoffAdc (d : Dev) : Dev := d.instant (d.tc / 2) Dev.adcCutoff
/-- The report cut-off of a lane (R309); in PRECHARGE an excess cell voltage ends it (R105). -/
def Dev.cutoffLane (d : Dev) (lane : Nat) : Dev := d.instant ((nth d.ikl.lanes lane {}).cutTicks * 5 * nsU) (fun x => (x.cutoff lane).prcOver)
/-- The escrow cut-off at SYNC k+1 − 50 ns (R360). -/
def Dev.cutoffEscrow (d : Dev) : Dev := d.instant (d.tc - 50 * nsU) Dev.escrowCut

/-- An engine meets an error in its own reads (R571): a single-bit error is counted by every job whose range holds the word; the first uncorrectable one makes the
epoch an overrun and raises one event that carries the address. -/
def Dev.engineRead (d : Dev) (subsys : Nat) (err : Option ReadErr) : Dev :=
  match err with
  | none => d
  | some e =>
    if d.unpowered || d.mode == .boot then d
    else if e.single then
      { d with jobs := forN 8 (fun j => let x := d.job j; if d.jobHolds j e.space e.addr then { x with corrected := sat16 x.corrected 1 } else x) }
    else if d.sys.engineErr then d
    else ({ d with sys := { d.sys with engineErr := true } }).raise subsys 0 R.SYS_OVERRUN 0 [word e.space, word e.addr]

/-- A third consecutive missed report makes a node LOST and its next command a bypass (R259, R260, R276, R335, R337). -/
def Dev.nodeLost (d : Dev) (addr : Nat) : Dev :=
  match findNode d.ikl.nodes addr with
  | none => d
  | some e =>
    if e.sm then d.modCell e.arm addr (fun c => if decide (3 ≤ c.missed) && c.got.isNone && !c.gone then { c with st := 3 } else c)
    else if 3 ≤ e.missedRun ∧ e.adm = 1 then d.modNode addr (fun x => { x with adm := 2 }) else d

/-- A receiver gains block lock (R295): lanes 0–11, mirror lanes 12 and 13, then the receivers of the nodes. -/
def Dev.blockLock (d : Dev) (lane : Nat) : Dev :=
  if 14 ≤ lane then d.setNode ((lane - 14) / 4) ((d.node ((lane - 14) / 4)).gainLock ((lane - 14) % 4))
  else if !d.lanesRun then d
  else if lane < 12 then (if d.laneOn lane then d.modLane lane (fun l => { l with lock := true }) else d)
  else if d.domOn 14 && d.abit R.RDN_MIR_EN (lane - 12) then { d with rdn := { d.rdn with mirLock := setAt d.rdn.mirLock (lane - 12) true } } else d

/-- A receiver loses block lock (R295); the last enabled mirror lane takes the link with it (R353, R366). -/
def Dev.blockLoss (d : Dev) (lane : Nat) : Dev :=
  if 14 ≤ lane then d.setNode ((lane - 14) / 4) ((d.node ((lane - 14) / 4)).loseLock ((lane - 14) % 4))
  else if lane < 12 then
    (if (nth d.ikl.lanes lane {}).lock then d.modLane lane (fun l => { l with lock := false, lostNow := true, lockLoss := sat16 l.lockLoss 1 }) else d)
  else
    let d1 : Dev := { d with rdn := { d.rdn with mirLock := setAt d.rdn.mirLock (lane - 12) false } }
    d1.linkLost d

/-- A control block of an unknown type is discarded and counted (R294, R353). -/
def Dev.codeError (d : Dev) (lane : Nat) (b : Dword) : Dev :=
  if lane < 12 then (if d.lanesRun && d.laneOn lane && (nth d.ikl.lanes lane {}).lock && !(laneTypes.contains (blockType b)) then d.laneError lane else d)
  else if d.mirOk (lane - 12) && !(mirrorTypes.contains (blockType b)) then d.mirError (lane - 12) else d

/-- No response has come by the end of the period after the response time (R327): the wait ends at the next SYNC. -/
def Dev.noResponse (d : Dev) : Dev :=
  let m := d.ikl.mgmt
  match m.sent with
  | some k => if m.pending && waitEnds k d.tmb.epoch then { d with ikl := { d.ikl with mgmt := m.unanswered (d.tmb.sync + d.tc) } } else d
  | none => d

/-- The scan interval has passed (R329). -/
def Dev.scanInterval (d : Dev) : Dev :=
  let due := decide (d.ikl.lastScan + d.afld R.IKL_SCAN 15 0 * msU ≤ d.tmb.up)
  if d.abit R.IKL_CTRL 4 && d.scanMode && decide (d.ikl.disc = 0) && due then { d with ikl := { d.ikl with scanReq := true, lastScan := d.tmb.up } } else d

/-- A sampled-value frame: the first enabled stream it matches takes it, any other frame goes to the host (R392, R579). -/
def Dev.sampledValue (d : Dev) (f : SvFrame) : Dev :=
  if !(d.domOn 6) then d
  else match (if f.eth.good && (etherType f.eth.bytes).1 == 0x88BA then (List.range 16).find? (fun s => d.svMatch f s) else none) with
    | some s => d.svFrame s f
    | none => d.ethRx f.eth

/-- A safety-island watchdog expires (R130): the spec states neither its time nor its service, so the instant is free (log 94). -/
def Dev.watchdog (d : Dev) : Dev := if !d.unpowered && d.mode != .boot && Config.watchdogExpires d.tmb.up then d.raiseCause Cause.watchdog else d

/-- Loss of PLL lock darkens the lanes (R420, R424). -/
def Dev.lockLost (d : Dev) : Dev := if d.clk.lock then d.lossOfLock.lanesDark d else d

/-- REF_IN edges vanish (R416, R419): a PLL in lock loses it, and the fallback oscillator free-runs. -/
def Dev.refLost (d : Dev) : Dev := d.lockLost.refLoss

/-- A low level on `EMBLK_N` (R627): in BOOT it is not yet sampled. -/
def Dev.emblkLow (d : Dev) : Dev := if d.unpowered ∨ d.mode = .boot then { d with pins := { d.pins with emblkLow := true } } else d.emblk
/-- `EMBLK_N` returns high (R130). -/
def Dev.emblkHigh (d : Dev) : Dev := { d with pins := { d.pins with emblkLow := false } }

/-- A boundary-scan instruction (R632): 0 BYPASS, 1 IDCODE, 2 SAMPLE/PRELOAD, any other one another instruction. -/
def Dev.boundaryScan (d : Dev) (instr : Nat) : Dev :=
  { d with pins := { d.pins with scanInstr := instr, scanActive := if d.mode.live && decide (2 < instr) then 0 else instr } }
/-- Activity on the service port (R633): ignored while the port is closed. -/
def Dev.servicePort (d : Dev) : Dev := if d.vlt.svcOpen then { d with pins := { d.pins with svcAccesses := d.pins.svcAccesses + 1 } } else d

/-- A SYNC block reaches a node (R306, R328). -/
def Dev.nodeSync (d : Dev) (n p : Nat) (b : Dword) : Dev :=
  d.atPort n p (fun d =>
    if blockType b = 0x2D ∧ crcOk b then d.nodeAct n (fun x v t => (x.onSync p (bfld b 55 40) (bfld b 39 24) (bfld b 23 17) d.tmb.up v t).forward p [b])
    else d.setNode n (((d.node n).forward p [b]).crcError p))
/-- An EBLK reaches a node (R340). -/
def Dev.nodeEblk (d : Dev) (n p : Nat) (b : Dword) : Dev :=
  d.atPort n p (fun d => d.setNode n (if blockType b = 0x33 ∧ crcOk b then ((d.node n).onEblk p).forward p [b] else ((d.node n).forward p [b]).crcError p))
/-- A CMD frame reaches a node (R328). -/
def Dev.nodeFrame (d : Dev) (n p : Nat) (bs : List Dword) : Dev := d.atPort n p (fun d => d.setNode n ((d.node n).onFrame p bs))
/-- A management request reaches a node (R324, R325). -/
def Dev.nodeReq (d : Dev) (n p op : Nat) (bs : List Dword) (act : Node → MFrame → Node) : Dev := d.atPort n p (fun d => d.setNode n ((d.node n).request p op bs act))

/-- A tick of the timebase without a command (R425): time goes on, every pair is driven (R466), a node's pending flash leaves (R322). -/
def Dev.idle (d : Dev) : Dev :=
  let d1 := d.tick
  let d2 : Dev := if d1.unpowered then d1 else d1.ddpTick.adcTick.watchdog
  { d2 with nodes := d2.nodes.map (fun (p : Nat × Node) => (p.1, p.2.sendFlash d2.tmb.up)) }

end Sys2Proof.Machine
end

