-- ==== Sys2Proof/Machine/ExecDrive.lean ====
section
/-! DEFINITION. Direct drive, the chopper and the recorder (R458–R506). One meaning per command. -/
namespace Sys2Proof.Machine

/-- HOC (R470). -/
def execHoc (n : Nat) (s : State) : Host.Outcome State Fault Refusal := onDev (fun d => d.unit n 12 (fun x => x.hocActive n)) s
/-- HOC_RELEASE (R474). -/
def execHocRelease (n : Nat) (s : State) : Host.Outcome State Fault Refusal := onDev (fun d => d.unit n 12 (fun x => x.hocInactive n)) s
/-- DS_INPUT_CHANGE (R469). -/
def execDsInputChange (n : Nat) (level : Bool) (s : State) : Host.Outcome State Fault Refusal := onDev (fun d => d.unit n 12 (fun x => x.dsChange n level)) s
/-- DESAT_TRIP (R469): the tick in which the count is complete. -/
def execDesatTrip (n : Nat) (s : State) : Host.Outcome State Fault Refusal := onDev (fun d => d.unit n 12 (fun x => x.pairTick n)) s
/-- BLANKING_END (R468). -/
def execBlankingEnd (n : Nat) (s : State) : Host.Outcome State Fault Refusal := onDev (fun d => d.unit n 12 (fun x => x.blankOver n)) s
/-- DEAD_TIME_END (R465): the tick in which the dead time is over. -/
def execDeadTimeEnd (n : Nat) (s : State) : Host.Outcome State Fault Refusal := onDev (fun d => d.unit n 12 (fun x => x.pairTick n)) s
/-- DDP_COMMAND_EDGE (R465, R467): the tick in which the source level has changed. -/
def execDdpCommandEdge (n : Nat) (s : State) : Host.Outcome State Fault Refusal := onDev (fun d => d.unit n 12 (fun x => x.pairTick n)) s
/-- CHOP_ON_TIME_END (R479). -/
def execChopOnTimeEnd (s : State) : Host.Outcome State Fault Refusal := onDev Dev.chopOver s
/-- UVLO (R461). -/
def execUvlo (s : State) : Host.Outcome State Fault Refusal := onDev Dev.uvloOn s
/-- UVLO_RELEASE (R461). -/
def execUvloRelease (s : State) : Host.Outcome State Fault Refusal := onDev Dev.uvloOff s
/-- OFF_STATE_TEST_PHASE_END (R475, R476): the voltages measured, in mV. -/
def execOffStateTestPhaseEnd (n ballMv vddMv : Nat) (s : State) : Host.Outcome State Fault Refusal := onDev (fun d => d.unit n 12 (fun x => x.testPhase n ballMv vddMv)) s
/-- REENABLE (R474). -/
def execReenable (pairs : Nat) (s : State) : Host.Outcome State Fault Refusal := onDev (fun d => d.reenableWrite pairs) s
/-- TEST (R477). -/
def execTest (pairs : Nat) (s : State) : Host.Outcome State Fault Refusal := onDev (fun d => d.testWrite pairs) s
/-- REC_ARM (R501). -/
def execRecArm (s : State) : Host.Outcome State Fault Refusal := onDev (fun d => d.recWrite 1 0) s
/-- REC_DISARM (R501). -/
def execRecDisarm (s : State) : Host.Outcome State Fault Refusal := onDev (fun d => d.recWrite 2 0) s
/-- REC_TRIG (R500, R501). -/
def execRecTrig (s : State) : Host.Outcome State Fault Refusal := onDev Dev.recTrigWrite s
/-- REC_RESET (R501). -/
def execRecReset (s : State) : Host.Outcome State Fault Refusal := onDev (fun d => d.recWrite 4 0) s
/-- REC_FREE (R501). -/
def execRecFree (seg : Nat) (s : State) : Host.Outcome State Fault Refusal := onDev (fun d => d.recWrite 5 seg) s
/-- HOST_TRIGGER_DUE (R500). -/
def execHostTriggerDue (s : State) : Host.Outcome State Fault Refusal := onDev Dev.hostDue s

end Sys2Proof.Machine
end

