-- ==== Sys2Proof/Machine/ExecEngine.lean ====
section
/-! DEFINITION. Measurement and the engines (R138–R244, R268, R371–R411). One meaning per command. -/
namespace Sys2Proof.Machine

/-- ADC_CONVERSION (R372): `volts` is the sampled differential voltage. -/
def execAdcConversion (core : Nat) (volts : Rat) (s : State) : Host.Outcome State Fault Refusal := onDev (fun d => d.unit core 4 (fun x => x.conversion core volts)) s
/-- ADC_CUTOFF (R377). -/
def execAdcCutoff (s : State) : Host.Outcome State Fault Refusal := onDev Dev.cutoffAdc s
/-- INJECTED_TRIGGER (R382). -/
def execInjectedTrigger (core : Nat) (s : State) : Host.Outcome State Fault Refusal := onDev (fun d => d.unit core 4 (fun x => x.startInjected core)) s
/-- ADC_COREC_SOFT (R381). -/
def execAdcCorecSoft (core : Nat) (s : State) : Host.Outcome State Fault Refusal := onDev (fun d => d.softWrite core) s
/-- ADC_WAKE (R387). -/
def execAdcWake (core : Nat) (s : State) : Host.Outcome State Fault Refusal := onDev (fun d => d.unit core 4 (fun x => x.adcWake core)) s
/-- ADC_WARM_UP_END (R386). -/
def execAdcWarmUpEnd (core : Nat) (s : State) : Host.Outcome State Fault Refusal := onDev (fun d => d.unit core 4 (fun x => x.adcWarmEnd core)) s
/-- SAMPLED_VALUE_FRAME (R392–R396). -/
def execSampledValueFrame (f : SvFrame) (s : State) : Host.Outcome State Fault Refusal := onDev (fun d => d.sampledValue f) s
/-- MCD_CONDITIONING (R405–R411). -/
def execMcdConditioning (s : State) : Host.Outcome State Fault Refusal := onDev Dev.condition s
/-- INPUT_INVALID (R401). -/
def execInputInvalid (m : Nat) (s : State) : Host.Outcome State Fault Refusal := onDev (fun d => d.unit m 24 (fun x => x.inputInvalid m)) s
/-- GFE_STEP (R138, R571). -/
def execGfeStep (err : Option ReadErr) (s : State) : Host.Outcome State Fault Refusal := onDev (fun d => (d.engineRead Sub.gfe err).gfeStep) s
/-- RESYNC_IN_STEP (R173). -/
def execResyncInStep (s : State) : Host.Outcome State Fault Refusal := onDev Dev.resyncInStep s
/-- CCE_STEP (R183, R571). -/
def execCceStep (err : Option ReadErr) (s : State) : Host.Outcome State Fault Refusal := onDev (fun d => (d.engineRead Sub.cce err).cceStep) s
/-- TEMPORARY_BLOCK_CLAMP_COUNT (R200). -/
def execTemporaryBlockClampCount (s : State) : Host.Outcome State Fault Refusal := onDev Dev.clampBlock s
/-- TEMPORARY_BLOCK_END (R202). -/
def execTemporaryBlockEnd (s : State) : Host.Outcome State Fault Refusal := onDev Dev.tblkEnd s
/-- LPE_EVALUATION (R213). -/
def execLpeEvaluation (slot : Nat) (s : State) : Host.Outcome State Fault Refusal := onDev (fun d => d.unit slot 64 (fun x => x.lpeEval slot)) s
/-- PULSE_EDGE (R212). -/
def execPulseEdge (pin : Nat) (level : Bool) (s : State) : Host.Outcome State Fault Refusal := onDev (fun d => d.unit pin 8 (fun x => x.pulse pin level)) s
/-- PULSE_TIMEOUT (R212). -/
def execPulseTimeout (pin : Nat) (s : State) : Host.Outcome State Fault Refusal := onDev (fun d => d.unit pin 8 (fun x => x.pulseTimeout pin)) s
/-- BRANCH_SELECTION (R237). -/
def execBranchSelection (s : State) : Host.Outcome State Fault Refusal := onDev Dev.branchSelect s
/-- MODULATE (R32, R268, R571). -/
def execModulate (err : Option ReadErr) (s : State) : Host.Outcome State Fault Refusal := onDev (fun d => (d.engineRead Sub.mbe err).modulate) s

end Sys2Proof.Machine
end

