-- ==== Sys2Proof/Machine/ExecHost.lean ====
section
/-! DEFINITION. The vault, the tally unit, the registers and the debug ports (R9–R12, R543–R573, R632, R633). One meaning per command. -/
namespace Sys2Proof.Machine

/-- PROVISION (R556). -/
def execProvision (s : State) : Host.Outcome State Fault Refusal := onDev (fun d => d.vltWrite Dev.provision) s
/-- SET_OWNER (R556). -/
def execSetOwner (s : State) : Host.Outcome State Fault Refusal := onDev (fun d => d.vltWrite Dev.setOwner) s
/-- STORE_CERT (R556). -/
def execStoreCert (len : Nat) (s : State) : Host.Outcome State Fault Refusal := onDev (fun d => d.vltWrite (fun x => x.storeCert len)) s
/-- CTR_INC (R555). -/
def execCtrInc (index : Nat) (s : State) : Host.Outcome State Fault Refusal := onDev (fun d => d.vltWrite (fun x => x.ctrInc index)) s
/-- SEAL (R557). -/
def execSealVault (s : State) : Host.Outcome State Fault Refusal := onDev (fun d => d.vltWrite Dev.sealVault) s
/-- ATTEST (R558). -/
def execAttest (s : State) : Host.Outcome State Fault Refusal := onDev (fun d => d.vltWrite Dev.attest) s
/-- ATTEST_REPORT (R558). -/
def execAttestReport (s : State) : Host.Outcome State Fault Refusal := onDev Dev.attestReport s
/-- CHALLENGE (R561). -/
def execChallenge (s : State) : Host.Outcome State Fault Refusal := onDev (fun d => d.vltWrite Dev.challenge) s
/-- CHALLENGE_EXPIRY (R561). -/
def execChallengeExpiry (s : State) : Host.Outcome State Fault Refusal := onDev Dev.challengeExpiry s
/-- UNLOCK (R561). -/
def execUnlock (s : State) : Host.Outcome State Fault Refusal := onDev (fun d => d.vltWrite Dev.unlock) s
/-- VLT_COMMAND_COMPLETE (R556). -/
def execVltCommandComplete (s : State) : Host.Outcome State Fault Refusal := onDev Dev.vltComplete s
/-- TLY_PASS_DUE (R567). -/
def execTlyPassDue (j : Nat) (s : State) : Host.Outcome State Fault Refusal := onDev (fun d => d.unit j 8 (fun x => x.passDue j)) s
/-- TLY_PASS_COMPLETE (R568): errors corrected and the addresses of uncorrectable words. -/
def execTlyPassComplete (j corrected : Nat) (bad : List Nat) (s : State) : Host.Outcome State Fault Refusal := onDev (fun d => d.unit j 8 (fun x => x.passDone s.dram j corrected bad)) s
/-- REGISTER_WRITE (R10): `whole` when the access has 32 bits. -/
def execRegisterWrite (off : Nat) (v : Word) (whole : Bool) (s : State) : Host.Outcome State Fault Refusal := if off < 16777216 then .next (s.registerWrite off v whole) else .fault .outsideBar0
/-- BAR0_READ_FAULT (R543). -/
def execBar0ReadFault (off : Nat) (whole : Bool) (s : State) : Host.Outcome State Fault Refusal := if off < 16777216 then onDev (fun d => d.readFault off whole) s else .fault .outsideBar0
/-- BOUNDARY_SCAN (R632). -/
def execBoundaryScan (instr : Nat) (s : State) : Host.Outcome State Fault Refusal := onDev (fun d => d.boundaryScan instr) s
/-- SERVICE_PORT_ACCESS (R633). -/
def execServicePortAccess (s : State) : Host.Outcome State Fault Refusal := onDev Dev.servicePort s

end Sys2Proof.Machine
end

