-- ==== Sys2Proof/Machine/ExecNetwork.lean ====
section
/-! DEFINITION. The submodule network seen from the unit (R291–R342). One meaning per command. -/
namespace Sys2Proof.Machine

/-- REPORT (R319); in PRECHARGE an excess cell voltage ends it (R105). -/
def execReport (lane slot : Nat) (block : Dword) (s : State) : Host.Outcome State Fault Refusal := onDev (fun d => (d.report lane slot block).prcOver) s
/-- REPORT_CUTOFF (R309). -/
def execReportCutoff (lane : Nat) (s : State) : Host.Outcome State Fault Refusal := onDev (fun d => d.unit lane 12 (fun x => x.cutoffLane lane)) s
/-- NODE_LOST (R259). -/
def execNodeLost (addr : Nat) (s : State) : Host.Outcome State Fault Refusal := onDev (fun d => d.nodeLost addr) s
/-- FAULT_FLASH (R338). -/
def execFaultFlash (lane : Nat) (block : Dword) (s : State) : Host.Outcome State Fault Refusal := onDev (fun d => d.unit lane 12 (fun x => x.flash lane block)) s
/-- BLOCK_LOCK (R295): a receiver of the unit, or of a node. -/
def execBlockLock (lane : Nat) (s : State) : Host.Outcome State Fault Refusal := onDev (fun d => d.blockLock lane) s
/-- BLOCK_LOCK_LOSS (R295, R353): a receiver of the unit, or of a node. -/
def execBlockLockLoss (lane : Nat) (s : State) : Host.Outcome State Fault Refusal := onDev (fun d => d.blockLoss lane) s
/-- CODE_ERROR (R294, R353). -/
def execCodeError (lane : Nat) (block : Dword) (s : State) : Host.Outcome State Fault Refusal := onDev (fun d => d.unit lane 14 (fun x => x.codeError lane block)) s
/-- MGMT_GO (R327). -/
def execMgmtGo (s : State) : Host.Outcome State Fault Refusal := onDev Dev.goWrite s
/-- MGMT_RESPONSE (R327). -/
def execMgmtResponse (lane : Nat) (blocks : List Dword) (s : State) : Host.Outcome State Fault Refusal := onDev (fun d => d.mgmtResponse lane blocks) s
/-- NO_RESPONSE (R327). -/
def execNoResponse (s : State) : Host.Outcome State Fault Refusal := onDev Dev.noResponse s
/-- REBUILD (R329). -/
def execRebuild (s : State) : Host.Outcome State Fault Refusal := onDev Dev.rebuildWrite s
/-- SCAN (R329). -/
def execScan (s : State) : Host.Outcome State Fault Refusal := onDev Dev.scanWrite s
/-- SCAN_INTERVAL (R329). -/
def execScanInterval (s : State) : Host.Outcome State Fault Refusal := onDev Dev.scanInterval s
/-- DISCOVERY_RESPONSE (R330): `rtt` is the round trip measured with it, in 0.125 ns. -/
def execDiscoveryResponse (lane depth route rtt : Nat) (blocks : List Dword) (s : State) : Host.Outcome State Fault Refusal := onDev (fun d => d.discAnswer lane depth route rtt blocks) s
/-- DISCOVERY_PROBE_TIMEOUT (R330). -/
def execDiscoveryProbeTimeout (lane depth route : Nat) (s : State) : Host.Outcome State Fault Refusal := onDev (fun d => d.discTimeout lane depth route) s
/-- NODE_CMD_RELEASE (R334). -/
def execNodeCmdRelease (addr : Nat) (s : State) : Host.Outcome State Fault Refusal := onDev (fun d => d.nodeCmdWrite false addr) s
/-- NODE_CMD_READMIT (R334). -/
def execNodeCmdReadmit (addr : Nat) (s : State) : Host.Outcome State Fault Refusal := onDev (fun d => d.nodeCmdWrite true addr) s
/-- OVF_CLEAR (R332). -/
def execOvfClear (s : State) : Host.Outcome State Fault Refusal := onDev Dev.ovfWrite s

end Sys2Proof.Machine
end

