-- ==== Sys2Proof/Machine/ExecNode.lean ====
section
/-! DEFINITION. The duties of a node (R301–R328, R340, R350). One meaning per command. -/
namespace Sys2Proof.Machine

/-- NODE_SYNC (R328). -/
def execNodeSync (n port : Nat) (block : Dword) (s : State) : Host.Outcome State Fault Refusal := onDev (fun d => d.unit port 2 (fun x => x.nodeSync n port block)) s
/-- NODE_SYNC_LOSS (R328). -/
def execNodeSyncLoss (n : Nat) (s : State) : Host.Outcome State Fault Refusal := onDev (fun d => d.setNode n ((d.node n).syncLoss d.tmb.up)) s
/-- NODE_CMD_FRAME (R328, R350). -/
def execNodeCmdFrame (n port : Nat) (blocks : List Dword) (s : State) : Host.Outcome State Fault Refusal := onDev (fun d => d.unit port 2 (fun x => x.nodeFrame n port blocks)) s
/-- NODE_CLEARING_WAIT (R350). -/
def execNodeClearingWait (n : Nat) (s : State) : Host.Outcome State Fault Refusal := onDev (fun d => d.nodeAct n (fun x v t => x.waitOver d.tmb.up v t)) s
/-- NODE_EBLK (R340). -/
def execNodeEblk (n port : Nat) (block : Dword) (s : State) : Host.Outcome State Fault Refusal := onDev (fun d => d.unit port 2 (fun x => x.nodeEblk n port block)) s
/-- NODE_FLT (R322), and every other block a downstream port receives (R298); `control` tells a control block from a data block. -/
def execNodeFlt (n : Nat) (block : UpBlock) (s : State) : Host.Outcome State Fault Refusal :=
  onDev (fun d => d.unit block.down 2 (fun x => x.setNode n ((x.node n).onUp block.down block.slot block.bits block.control))) s
/-- NODE_CELL_FAILURE (R328). -/
def execNodeCellFailure (n : Nat) (s : State) : Host.Outcome State Fault Refusal := onDev (fun d => d.setNode n (d.node n).cellFailure) s
/-- FLASH_CONDITION (R328). -/
def execFlashCondition (n : Nat) (flag : NodeFlag) (s : State) : Host.Outcome State Fault Refusal := onDev (fun d => d.setNode n ((d.node n).condition flag)) s
/-- IDENT (R325). -/
def execIdent (n port : Nat) (blocks : List Dword) (s : State) : Host.Outcome State Fault Refusal := onDev (fun d => d.unit port 2 (fun x => x.nodeReq n port 0x01 blocks (fun y m => y.respond port m (identBlocks y.ident)))) s
/-- ECHO (R325). -/
def execEcho (n port : Nat) (blocks : List Dword) (s : State) : Host.Outcome State Fault Refusal := onDev (fun d => d.unit port 2 (fun x => x.nodeReq n port 0x02 blocks (fun y m => y.respond port m []))) s
/-- PORT_CFG (R325). -/
def execPortCfg (n port : Nat) (blocks : List Dword) (s : State) : Host.Outcome State Fault Refusal := onDev (fun d => d.unit port 2 (fun x => x.nodeReq n port 0x03 blocks (fun y m => y.portCfg port m))) s
/-- ADMIT (R325). -/
def execAdmitNode (n port : Nat) (blocks : List Dword) (s : State) : Host.Outcome State Fault Refusal := onDev (fun d => d.unit port 2 (fun x => x.nodeReq n port 0x04 blocks (fun y m => (y.later port m .enter).respond port m []))) s
/-- RELEASE (R325). -/
def execRelease (n port : Nat) (blocks : List Dword) (s : State) : Host.Outcome State Fault Refusal := onDev (fun d => d.unit port 2 (fun x => x.nodeReq n port 0x05 blocks (fun y m => (y.later port m .release).respond port m []))) s
/-- STATUS (R325). -/
def execStatus (n port : Nat) (blocks : List Dword) (s : State) : Host.Outcome State Fault Refusal := onDev (fun d => d.unit port 2 (fun x => x.nodeReq n port 0x06 blocks (fun y m => y.statusReq port m))) s
/-- PORT_RESET (R325). -/
def execPortReset (n port : Nat) (blocks : List Dword) (s : State) : Host.Outcome State Fault Refusal := onDev (fun d => d.unit port 2 (fun x => x.nodeReq n port 0x08 blocks (fun y m => y.portReset port m))) s
/-- SET_IDENT (R325, R326). -/
def execSetIdent (n port : Nat) (blocks : List Dword) (s : State) : Host.Outcome State Fault Refusal := onDev (fun d => d.unit port 2 (fun x => x.nodeReq n port 0x7F blocks (fun y m => y.setIdent port m))) s

end Sys2Proof.Machine
end

