-- ==== Sys2Proof/Machine/ExecPair.lean ====
section
/-! DEFINITION. Redundancy (R343–R369). One meaning per command. -/
namespace Sys2Proof.Machine

/-- PAIR_BLOCK (R354). -/
def execPairBlock (lane : Nat) (block : Dword) (s : State) : Host.Outcome State Fault Refusal := onDev (fun d => d.unit lane 2 (fun x => x.pairBlock lane block)) s
/-- ESCROW_RECEIVED (R359). -/
def execEscrowReceived (lane : Nat) (blocks : List (Nat × Dword)) (s : State) : Host.Outcome State Fault Refusal := onDev (fun d => d.unit lane 2 (fun x => x.escrowIn lane blocks)) s
/-- ESCROW_CUTOFF (R360). -/
def execEscrowCutoff (s : State) : Host.Outcome State Fault Refusal := onDev Dev.cutoffEscrow s
/-- STALE_EP (R366). -/
def execStaleEp (s : State) : Host.Outcome State Fault Refusal := onDev Dev.staleEp s
/-- JOIN_EP (R365). -/
def execJoinEp (s : State) : Host.Outcome State Fault Refusal := onDev Dev.joinEp s
/-- JOIN_MS (R365). -/
def execJoinMs (s : State) : Host.Outcome State Fault Refusal := onDev Dev.joinMs s
/-- REVERT_MS (R367). -/
def execRevertMs (s : State) : Host.Outcome State Fault Refusal := onDev Dev.revertMs s
/-- GRADE_HOLD_MS (R344). -/
def execGradeHoldMs (s : State) : Host.Outcome State Fault Refusal := onDev Dev.gradeHold s

end Sys2Proof.Machine
end

