-- ==== Sys2Proof/Machine/ExecPeriod.lean ====
section
/-! DEFINITION. The control period, the modes and the protective causes (R33–R36, R59, R60, R77–R81, R105, R125–R132, R627). One meaning per command. -/
namespace Sys2Proof.Machine

/-- PERIOD_BOUNDARY (R35, R92): `late` when the release missed the dispatch deadline, `phase` the distance of SYNC from the grid in root cycles. -/
def execPeriodBoundary (late : Bool) (phase : Int) (s : State) : Host.Outcome State Fault Refusal := .next (s.periodBoundary late phase)
/-- OVERRUN_BLOCK (R34). -/
def execOverrunBlock (s : State) : Host.Outcome State Fault Refusal := onDev Dev.overrunBlock s
/-- FRT_EXIT (R125): the boundary carries it out. -/
def execFrtExit (s : State) : Host.Outcome State Fault Refusal := onDev Dev.frtExitDue s
/-- FRT_TIMEOUT (R127): the boundary carries it out. -/
def execFrtTimeout (s : State) : Host.Outcome State Fault Refusal := onDev Dev.frtTimeoutDue s
/-- PRECHARGE_TIMEOUT (R105). -/
def execPrechargeTimeout (s : State) : Host.Outcome State Fault Refusal := onDev Dev.prcTimeout s
/-- EMBLK_N (R130, R627). -/
def execEmblkN (s : State) : Host.Outcome State Fault Refusal := onDev Dev.emblkLow s
/-- EMBLK_N_RELEASE (R130). -/
def execEmblkNRelease (s : State) : Host.Outcome State Fault Refusal := onDev Dev.emblkHigh s
/-- COMMIT_GO (R41). -/
def execCommitGo (s : State) : Host.Outcome State Fault Refusal := onDev (fun d => d.commitWrite true false) s
/-- COMMIT_ABANDON (R49). -/
def execCommitAbandon (s : State) : Host.Outcome State Fault Refusal := onDev (fun d => d.commitWrite false true) s
/-- HOLD_SET (R59). -/
def execHoldSet (s : State) : Host.Outcome State Fault Refusal := .next s.holdSet
/-- HOLD_CLEAR (R60). -/
def execHoldClear (s : State) : Host.Outcome State Fault Refusal := .next s.holdClear
/-- HOLD_EXPIRED (R60). -/
def execHoldExpired (s : State) : Host.Outcome State Fault Refusal := .next s.holdExpired
/-- SYS_MODE_REQ (R78). -/
def execSysModeReq (target : Nat) (s : State) : Host.Outcome State Fault Refusal := onDev (fun d => d.modeWrite target) s
/-- TRIP_CTRL_TRIP (R132). -/
def execTripCtrlTrip (s : State) : Host.Outcome State Fault Refusal := onDev Dev.tripWrite s
/-- TRIP_CTRL_CLEAR (R131). -/
def execTripCtrlClear (s : State) : Host.Outcome State Fault Refusal := onDev Dev.tripClearWrite s

end Sys2Proof.Machine
end

