-- ==== Sys2Proof/Machine/ExecPower.lean ====
section
/-! DEFINITION. Resets, power, temperature and the reserve store (R92, R576–R603, R617). One meaning per command. -/
namespace Sys2Proof.Machine

/-- POWER_ON (R581). -/
def execPowerOn (s : State) : Host.Outcome State Fault Refusal := .next s.powerOn
/-- PORB_ASSERT (R581). -/
def execPorbAssert (s : State) : Host.Outcome State Fault Refusal := .next s.porbAssert
/-- PORB_RELEASE (R92, R591): `hot` when a comparator sees 125 °C or more, `selfTest` the outcome of step 3, `sfdp` whether the flash answers discovery, `flash` its content. -/
def execPorbRelease (hot selfTest sfdp : Bool) (flash : List Nat) (s : State) : Host.Outcome State Fault Refusal := onDev (fun d => d.porbRelease hot selfTest sfdp flash) s
/-- AON_BROWNOUT (R617). -/
def execAonBrownout (s : State) : Host.Outcome State Fault Refusal := .next s.brownout
/-- AON_BROWNOUT_RELEASE (R617). -/
def execAonBrownoutRelease (s : State) : Host.Outcome State Fault Refusal := onDev Dev.brownoutRelease s
/-- DOMAIN_POWER_GOOD (R577). -/
def execDomainPowerGood (n : Nat) (s : State) : Host.Outcome State Fault Refusal := onDev (fun d => d.powerGood n) s
/-- PWR_FAIL (R582, R592). -/
def execPwrFail (s : State) : Host.Outcome State Fault Refusal := onDev Dev.powerFail s
/-- PWR_FAIL_RELEASE (R582). -/
def execPwrFailRelease (s : State) : Host.Outcome State Fault Refusal := onDev Dev.powerFailOver s
/-- POWER_DOWN (R592). -/
def execPowerDown (s : State) : Host.Outcome State Fault Refusal := .next s.powerDown
/-- HARD_CUT (R591). -/
def execHardCut (s : State) : Host.Outcome State Fault Refusal := .next s.hardCut
/-- THERMAL_ROUND (R586–R590): reading n is that of sensor n. -/
def execThermalRound (rs : List Reading) (s : State) : Host.Outcome State Fault Refusal := onDev (fun d => d.powered (fun x => (x.thermalRound rs).tlySettle)) s
/-- JOURNAL_RECORD_WRITTEN (R596, R597). -/
def execJournalRecordWritten (s : State) : Host.Outcome State Fault Refusal := onDev Dev.recordWritten s
/-- COMPACTION_COMPLETE (R597). -/
def execCompactionComplete (s : State) : Host.Outcome State Fault Refusal := onDev Dev.compactDone s
/-- RSV_ERASE (R601). -/
def execRsvErase (s : State) : Host.Outcome State Fault Refusal := onDev Dev.eraseWrite s
/-- ERASE_COMPLETE (R601). -/
def execEraseComplete (s : State) : Host.Outcome State Fault Refusal := onDev Dev.eraseDone s
/-- RSV_COMPACT (R601). -/
def execRsvCompact (s : State) : Host.Outcome State Fault Refusal := onDev Dev.compactWrite s
/-- BOOT_IMAGE_TIMEOUT (R552). -/
def execBootImageTimeout (s : State) : Host.Outcome State Fault Refusal := onDev Dev.imageTimeout s
/-- VLT_BOOT_GO (R549, R552): `dma` when host memory cannot be read, else the bytes read. -/
def execVltBootGo (dma : Bool) (fw cfg : List Nat) (s : State) : Host.Outcome State Fault Refusal := onDev (fun d => d.bootGoWrite dma fw cfg) s

end Sys2Proof.Machine
end

