-- ==== Sys2Proof/Machine/ExecQueue.lean ====
section
/-! DEFINITION. The teller queues (R508–R538). One meaning per command. -/
namespace Sys2Proof.Machine

/-- SQ_TAIL (R510, R511): `bad` are the words 0 of entries with an opcode that R519 does not list. -/
def execSqTail (q index : Nat) (bad : List Word) (s : State) : Host.Outcome State Fault Refusal := if q < 32 then onDev (fun d => d.powered (fun x => x.sqTailWrite q index bad)) s else .fault .outsideBar2
/-- CQ_HEAD (R510, R511). -/
def execCqHead (q index : Nat) (s : State) : Host.Outcome State Fault Refusal := if q < 32 then onDev (fun d => d.powered (fun x => x.cqHeadWrite q index)) s else .fault .outsideBar2
/-- NOP (R519). -/
def execNop (q : Nat) (e : SqEntry) (s : State) : Host.Outcome State Fault Refusal := onDev (fun d => d.fetch q Op.nop e (fun x r => x.complete r 0 1 0 [])) s
/-- REG_STAGE (R521). -/
def execRegStage (q : Nat) (e : SqEntry) (s : State) : Host.Outcome State Fault Refusal := onDev (fun d => d.fetch q Op.regStage e (fun x r => x.regStage e r)) s
/-- REG_READ (R522). -/
def execRegRead (q : Nat) (e : SqEntry) (s : State) : Host.Outcome State Fault Refusal := onDev (fun d => d.fetch q Op.regRead e (fun x r => x.regRead s.view s.dram e r)) s
/-- COMMIT (R47): ABANDON 0. -/
def execCommit (q : Nat) (e : SqEntry) (s : State) : Host.Outcome State Fault Refusal := onDev (fun d => d.descForm q e (!(bit (sqW e 1) 1)) Op.commit (fun x r => x.commitReq e r)) s
/-- COMMIT with ABANDON 1 (R49). -/
def execCommitDescriptorAbandon (q : Nat) (e : SqEntry) (s : State) : Host.Outcome State Fault Refusal := onDev (fun d => d.descForm q e (bit (sqW e 1) 1) Op.commit (fun x r => x.commitReq e r)) s
/-- MODE (R78). -/
def execMode (q : Nat) (e : SqEntry) (s : State) : Host.Outcome State Fault Refusal := onDev (fun d => d.fetch q Op.mode e (fun x r => x.modeReqDesc e r)) s
/-- SCHED with OP ARM (R448). -/
def execSchedArm (q : Nat) (e : SqEntry) (s : State) : Host.Outcome State Fault Refusal := onDev (fun d => d.descForm q e (sqF e 1 31 28 != 2) Op.sched (fun x r => x.armReq e r)) s
/-- SCHED with OP CANCEL (R450). -/
def execSchedCancel (q : Nat) (e : SqEntry) (s : State) : Host.Outcome State Fault Refusal := onDev (fun d => d.descForm q e (sqF e 1 31 28 == 2) Op.sched (fun x r => x.cancelReq e r)) s
/-- TIME_ADJ with INCR (R426). -/
def execTimeAdjIncr (q : Nat) (e : SqEntry) (s : State) : Host.Outcome State Fault Refusal := onDev (fun d => d.descForm q e (bit (sqW e 1) 0 || !(bit (sqW e 1) 1)) Op.timeAdj (fun x r => x.incrReq e r)) s
/-- TIME_ADJ with STEP alone (R427). -/
def execTimeAdjStep (q : Nat) (e : SqEntry) (s : State) : Host.Outcome State Fault Refusal := onDev (fun d => d.descForm q e (!(bit (sqW e 1) 0) && bit (sqW e 1) 1) Op.timeAdj (fun x r => x.stepReq e r)) s
/-- TRIP with OP TRIP (R132). -/
def execTripOpTrip (q : Nat) (e : SqEntry) (s : State) : Host.Outcome State Fault Refusal := onDev (fun d => d.descForm q e (sqF e 1 3 0 != 2 && sqF e 1 3 0 != 3) Op.trip (fun x r => x.tripReq Cause.host r)) s
/-- TRIP with OP EMERGENCY (R130). -/
def execTripOpEmergency (q : Nat) (e : SqEntry) (s : State) : Host.Outcome State Fault Refusal := onDev (fun d => d.descForm q e (sqF e 1 3 0 == 2) Op.trip (fun x r => x.tripReq Cause.emergency r)) s
/-- TRIP with OP CLEAR (R131). -/
def execTripOpClear (q : Nat) (e : SqEntry) (s : State) : Host.Outcome State Fault Refusal := onDev (fun d => d.descForm q e (sqF e 1 3 0 == 3) Op.trip (fun x r => x.clearReqDesc r)) s
/-- REC_XFER (R523). -/
def execRecXfer (q : Nat) (e : SqEntry) (s : State) : Host.Outcome State Fault Refusal := onDev (fun d => d.fetch q Op.recXfer e (fun x r => x.xferReq e r)) s
/-- REC_XFER_DONE (R523). -/
def execRecXferDone (q : Nat) (s : State) : Host.Outcome State Fault Refusal := onDev (fun d => d.xferDone s.dram q) s
/-- REC_TRIG_DESCRIPTOR (R500). -/
def execRecTrigDescriptor (q : Nat) (e : SqEntry) (s : State) : Host.Outcome State Fault Refusal := onDev (fun d => d.fetch q Op.recTrig e (fun x r => x.trigReq e r)) s
/-- ETH_TX (R524). -/
def execEthTx (q : Nat) (e : SqEntry) (s : State) : Host.Outcome State Fault Refusal := onDev (fun d => d.fetch q Op.ethTx e (fun x r => x.txReq e r)) s
/-- ETH_TX_SENT (R524). -/
def execEthTxSent (port : Nat) (s : State) : Host.Outcome State Fault Refusal := onDev (fun d => d.ethSent port) s
/-- ETH_RXBUF (R525). -/
def execEthRxbuf (q : Nat) (e : SqEntry) (s : State) : Host.Outcome State Fault Refusal := onDev (fun d => d.fetch q Op.ethRxbuf e (fun x r => x.rxReq e r)) s
/-- DMA_ERROR (R535). -/
def execDmaError (q : Nat) (s : State) : Host.Outcome State Fault Refusal := onDev (fun d => d.unit q 32 (fun x => x.dmaError q)) s
/-- LINK_DOWN (R508). -/
def execLinkDown (s : State) : Host.Outcome State Fault Refusal := onDev Dev.linkDown s
/-- LINK_UP (R537). -/
def execLinkUp (speed width : Nat) (s : State) : Host.Outcome State Fault Refusal := onDev (fun d => d.linkUp speed width) s
/-- COALESCING_TIME (R536). -/
def execCoalescingTime (q : Nat) (s : State) : Host.Outcome State Fault Refusal := onDev (fun d => d.unit q 32 (fun x => x.coalesce q)) s
/-- MSIX_TABLE_WRITE (R510, R536): word `index` behind BAR2 offset 0x2_0000. -/
def execMsixTableWrite (index : Nat) (v : Word) (s : State) : Host.Outcome State Fault Refusal := if index < 32768 then onDev (fun d => d.powered (fun x => x.msixWrite index v)) s else .fault .outsideBar2

end Sys2Proof.Machine
end

