-- ==== Sys2Proof/Machine/ExecTime.lean ====
section
/-! DEFINITION. The root clock, station time, precision time and Ethernet (R413–R455, R524, R525). One meaning per command. -/
namespace Sys2Proof.Machine

/-- LOSS_OF_LOCK (R416, R420, R424). -/
def execLossOfLock (s : State) : Host.Outcome State Fault Refusal := onDev Dev.lockLost s
/-- LOCK (R417). -/
def execLock (s : State) : Host.Outcome State Fault Refusal := onDev Dev.locked s
/-- REF_IN_LOSS (R416, R419). -/
def execRefInLoss (s : State) : Host.Outcome State Fault Refusal := onDev (fun d => d.powered Dev.refLost) s
/-- REF_IN_RETURN (R419). -/
def execRefInReturn (s : State) : Host.Outcome State Fault Refusal := onDev (fun d => d.powered Dev.refReturn) s
/-- FAILED_LOCK_ATTEMPT (R422). -/
def execFailedLockAttempt (s : State) : Host.Outcome State Fault Refusal := onDev (fun d => d.powered Dev.lockFailed) s
/-- PHASE_STEP (R431). -/
def execPhaseStep (s : State) : Host.Outcome State Fault Refusal := onDev Dev.phaseStep s
/-- ALIGNED (R431). -/
def execAligned (s : State) : Host.Outcome State Fault Refusal := onDev Dev.setAligned s
/-- TMB_ADJ_GO_INCR (R426). -/
def execTmbAdjGoIncr (s : State) : Host.Outcome State Fault Refusal := onDev Dev.incrWrite s
/-- TMB_ADJ_GO_STEP (R427). -/
def execTmbAdjGoStep (s : State) : Host.Outcome State Fault Refusal := onDev Dev.stepWrite s
/-- TMB_CAP (R428). -/
def execTmbCap (s : State) : Host.Outcome State Fault Refusal := onDev Dev.capWrite s
/-- ETH_FRAME (R525). -/
def execEthFrame (f : EthFrame) (s : State) : Host.Outcome State Fault Refusal := onDev (fun d => d.ethRx f) s
/-- PTP_SYNC (R438). -/
def execPtpSync (m : PtpMsg) (s : State) : Host.Outcome State Fault Refusal := onDev (fun d => d.ptpSync m) s
/-- FOLLOW_UP (R438). -/
def execFollowUp (m : PtpMsg) (s : State) : Host.Outcome State Fault Refusal := onDev (fun d => d.ptpFollow m) s
/-- PDELAY_REQ (R437). -/
def execPdelayReq (m : PtpMsg) (s : State) : Host.Outcome State Fault Refusal := onDev (fun d => d.pdelayReq m) s
/-- PDELAY_REQ_INTERVAL (R437). -/
def execPdelayReqInterval (port : Nat) (s : State) : Host.Outcome State Fault Refusal := onDev (fun d => d.pdelaySend port) s
/-- PDELAY_RESP (R437). -/
def execPdelayResp (m : PtpMsg) (s : State) : Host.Outcome State Fault Refusal := onDev (fun d => d.pdelayResp m) s
/-- PDELAY_RESP_FOLLOW_UP (R437, R440). -/
def execPdelayRespFollowUp (m : PtpMsg) (s : State) : Host.Outcome State Fault Refusal := onDev (fun d => d.pdelayFollow m) s
/-- PDELAY_TIMEOUT (R437). -/
def execPdelayTimeout (port : Nat) (s : State) : Host.Outcome State Fault Refusal := onDev (fun d => d.unit port 4 (fun x => x.pdelayTimeout port)) s
/-- SYNC_TO (R439). -/
def execSyncTo (x : Nat) (s : State) : Host.Outcome State Fault Refusal := onDev (fun d => d.syncTimeout x) s
/-- ACCEPT (R441). -/
def execAccept (x : Nat) (s : State) : Host.Outcome State Fault Refusal := onDev (fun d => d.domWrite x true) s
/-- KEEP (R441). -/
def execKeep (x : Nat) (s : State) : Host.Outcome State Fault Refusal := onDev (fun d => d.domWrite x false) s
/-- SWITCH_SLEW_COMPLETE (R443). -/
def execSwitchSlewComplete (s : State) : Host.Outcome State Fault Refusal := onDev Dev.slewDone s
/-- TT_PULSE_START (R445, R448). -/
def execTtPulseStart (n : Nat) (s : State) : Host.Outcome State Fault Refusal := onDev (fun d => d.unit n 8 (fun x => x.ttStart n)) s
/-- TT_PULSE_END (R445). -/
def execTtPulseEnd (n : Nat) (s : State) : Host.Outcome State Fault Refusal := onDev (fun d => d.unit n 8 (fun x => x.ttEnd n)) s
/-- SCHED_CMD_ARM (R448, R450). -/
def execSchedCmdArm (entry : Nat) (s : State) : Host.Outcome State Fault Refusal := onDev (fun d => d.armWrite entry) s
/-- SCHED_CMD_CANCEL (R450). -/
def execSchedCmdCancel (entry : Nat) (s : State) : Host.Outcome State Fault Refusal := onDev (fun d => d.cancelWrite entry) s

end Sys2Proof.Machine
end

