-- ==== Sys2Proof/Machine/Dispatch.lean ====
section
/-! DEFINITION. One arm per command: a direct call of its meaning. -/
namespace Sys2Proof.Machine

/-- The effect of a command on everything but the queue of waiting commands. -/
def exec (i : Instr) (s : State) : Host.Outcome State Fault Refusal :=
  match i with
  | .powerOn => Sys2Proof.Machine.execPowerOn s
  | .porbAssert => Sys2Proof.Machine.execPorbAssert s
  | .porbRelease hot selfTest sfdp flash => Sys2Proof.Machine.execPorbRelease hot selfTest sfdp flash s
  | .aonBrownout => Sys2Proof.Machine.execAonBrownout s
  | .aonBrownoutRelease => Sys2Proof.Machine.execAonBrownoutRelease s
  | .domainPowerGood d => Sys2Proof.Machine.execDomainPowerGood d s
  | .pwrFail => Sys2Proof.Machine.execPwrFail s
  | .powerDown => Sys2Proof.Machine.execPowerDown s
  | .hardCut => Sys2Proof.Machine.execHardCut s
  | .thermalRound rs => Sys2Proof.Machine.execThermalRound rs s
  | .journalRecordWritten => Sys2Proof.Machine.execJournalRecordWritten s
  | .compactionComplete => Sys2Proof.Machine.execCompactionComplete s
  | .rsvErase => Sys2Proof.Machine.execRsvErase s
  | .eraseComplete => Sys2Proof.Machine.execEraseComplete s
  | .rsvCompact => Sys2Proof.Machine.execRsvCompact s
  | .periodBoundary late phase => Sys2Proof.Machine.execPeriodBoundary late phase s
  | .overrunBlock => Sys2Proof.Machine.execOverrunBlock s
  | .frtExit => Sys2Proof.Machine.execFrtExit s
  | .frtTimeout => Sys2Proof.Machine.execFrtTimeout s
  | .prechargeTimeout => Sys2Proof.Machine.execPrechargeTimeout s
  | .adcConversion core volts => Sys2Proof.Machine.execAdcConversion core volts s
  | .adcCutoff => Sys2Proof.Machine.execAdcCutoff s
  | .injectedTrigger core => Sys2Proof.Machine.execInjectedTrigger core s
  | .adcCorecSoft core => Sys2Proof.Machine.execAdcCorecSoft core s
  | .adcWake core => Sys2Proof.Machine.execAdcWake core s
  | .adcWarmUpEnd core => Sys2Proof.Machine.execAdcWarmUpEnd core s
  | .sampledValueFrame f => Sys2Proof.Machine.execSampledValueFrame f s
  | .mcdConditioning => Sys2Proof.Machine.execMcdConditioning s
  | .inputInvalid m => Sys2Proof.Machine.execInputInvalid m s
  | .gfeStep err => Sys2Proof.Machine.execGfeStep err s
  | .resyncInStep => Sys2Proof.Machine.execResyncInStep s
  | .cceStep err => Sys2Proof.Machine.execCceStep err s
  | .temporaryBlockClampCount => Sys2Proof.Machine.execTemporaryBlockClampCount s
  | .temporaryBlockEnd => Sys2Proof.Machine.execTemporaryBlockEnd s
  | .lpeEvaluation slot => Sys2Proof.Machine.execLpeEvaluation slot s
  | .pulseEdge pin level => Sys2Proof.Machine.execPulseEdge pin level s
  | .pulseTimeout pin => Sys2Proof.Machine.execPulseTimeout pin s
  | .branchSelection => Sys2Proof.Machine.execBranchSelection s
  | .report lane slot block => Sys2Proof.Machine.execReport lane slot block s
  | .reportCutoff lane => Sys2Proof.Machine.execReportCutoff lane s
  | .nodeLost addr => Sys2Proof.Machine.execNodeLost addr s
  | .modulate err => Sys2Proof.Machine.execModulate err s
  | .faultFlash lane block => Sys2Proof.Machine.execFaultFlash lane block s
  | .blockLock lane => Sys2Proof.Machine.execBlockLock lane s
  | .blockLockLoss lane => Sys2Proof.Machine.execBlockLockLoss lane s
  | .mgmtGo => Sys2Proof.Machine.execMgmtGo s
  | .mgmtResponse lane blocks => Sys2Proof.Machine.execMgmtResponse lane blocks s
  | .noResponse => Sys2Proof.Machine.execNoResponse s
  | .rebuild => Sys2Proof.Machine.execRebuild s
  | .scan => Sys2Proof.Machine.execScan s
  | .scanInterval => Sys2Proof.Machine.execScanInterval s
  | .discoveryResponse lane depth route rtt blocks => Sys2Proof.Machine.execDiscoveryResponse lane depth route rtt blocks s
  | .discoveryProbeTimeout lane depth route => Sys2Proof.Machine.execDiscoveryProbeTimeout lane depth route s
  | .nodeCmdRelease addr => Sys2Proof.Machine.execNodeCmdRelease addr s
  | .nodeCmdReadmit addr => Sys2Proof.Machine.execNodeCmdReadmit addr s
  | .ovfClear => Sys2Proof.Machine.execOvfClear s
  | .nodeSync n port block => Sys2Proof.Machine.execNodeSync n port block s
  | .nodeSyncLoss n => Sys2Proof.Machine.execNodeSyncLoss n s
  | .nodeCmdFrame n port blocks => Sys2Proof.Machine.execNodeCmdFrame n port blocks s
  | .nodeClearingWait n => Sys2Proof.Machine.execNodeClearingWait n s
  | .nodeEblk n port block => Sys2Proof.Machine.execNodeEblk n port block s
  | .nodeFlt n block => Sys2Proof.Machine.execNodeFlt n block s
  | .nodeCellFailure n => Sys2Proof.Machine.execNodeCellFailure n s
  | .ident n port blocks => Sys2Proof.Machine.execIdent n port blocks s
  | .echo n port blocks => Sys2Proof.Machine.execEcho n port blocks s
  | .portCfg n port blocks => Sys2Proof.Machine.execPortCfg n port blocks s
  | .admitNode n port blocks => Sys2Proof.Machine.execAdmitNode n port blocks s
  | .release n port blocks => Sys2Proof.Machine.execRelease n port blocks s
  | .status n port blocks => Sys2Proof.Machine.execStatus n port blocks s
  | .portReset n port blocks => Sys2Proof.Machine.execPortReset n port blocks s
  | .setIdent n port blocks => Sys2Proof.Machine.execSetIdent n port blocks s
  | .pairBlock lane block => Sys2Proof.Machine.execPairBlock lane block s
  | .escrowReceived lane blocks => Sys2Proof.Machine.execEscrowReceived lane blocks s
  | .escrowCutoff => Sys2Proof.Machine.execEscrowCutoff s
  | .staleEp => Sys2Proof.Machine.execStaleEp s
  | .joinEp => Sys2Proof.Machine.execJoinEp s
  | .joinMs => Sys2Proof.Machine.execJoinMs s
  | .revertMs => Sys2Proof.Machine.execRevertMs s
  | .gradeHoldMs => Sys2Proof.Machine.execGradeHoldMs s
  | .lossOfLock => Sys2Proof.Machine.execLossOfLock s
  | .lock => Sys2Proof.Machine.execLock s
  | .phaseStep => Sys2Proof.Machine.execPhaseStep s
  | .aligned => Sys2Proof.Machine.execAligned s
  | .tmbAdjGoIncr => Sys2Proof.Machine.execTmbAdjGoIncr s
  | .tmbAdjGoStep => Sys2Proof.Machine.execTmbAdjGoStep s
  | .tmbCap => Sys2Proof.Machine.execTmbCap s
  | .ethFrame f => Sys2Proof.Machine.execEthFrame f s
  | .ptpSync m => Sys2Proof.Machine.execPtpSync m s
  | .followUp m => Sys2Proof.Machine.execFollowUp m s
  | .pdelayReq m => Sys2Proof.Machine.execPdelayReq m s
  | .pdelayReqInterval port => Sys2Proof.Machine.execPdelayReqInterval port s
  | .pdelayResp m => Sys2Proof.Machine.execPdelayResp m s
  | .pdelayRespFollowUp m => Sys2Proof.Machine.execPdelayRespFollowUp m s
  | .pdelayTimeout port => Sys2Proof.Machine.execPdelayTimeout port s
  | .syncTo x => Sys2Proof.Machine.execSyncTo x s
  | .accept x => Sys2Proof.Machine.execAccept x s
  | .keep x => Sys2Proof.Machine.execKeep x s
  | .ttPulseStart n => Sys2Proof.Machine.execTtPulseStart n s
  | .ttPulseEnd n => Sys2Proof.Machine.execTtPulseEnd n s
  | .schedCmdArm entry => Sys2Proof.Machine.execSchedCmdArm entry s
  | .schedCmdCancel entry => Sys2Proof.Machine.execSchedCmdCancel entry s
  | .hoc n => Sys2Proof.Machine.execHoc n s
  | .desatTrip n => Sys2Proof.Machine.execDesatTrip n s
  | .blankingEnd n => Sys2Proof.Machine.execBlankingEnd n s
  | .deadTimeEnd n => Sys2Proof.Machine.execDeadTimeEnd n s
  | .ddpCommandEdge n => Sys2Proof.Machine.execDdpCommandEdge n s
  | .chopOnTimeEnd => Sys2Proof.Machine.execChopOnTimeEnd s
  | .uvlo => Sys2Proof.Machine.execUvlo s
  | .uvloRelease => Sys2Proof.Machine.execUvloRelease s
  | .offStateTestPhaseEnd n ballMv vddMv => Sys2Proof.Machine.execOffStateTestPhaseEnd n ballMv vddMv s
  | .reenable pairs => Sys2Proof.Machine.execReenable pairs s
  | .test pairs => Sys2Proof.Machine.execTest pairs s
  | .recArm => Sys2Proof.Machine.execRecArm s
  | .recDisarm => Sys2Proof.Machine.execRecDisarm s
  | .recTrig => Sys2Proof.Machine.execRecTrig s
  | .recReset => Sys2Proof.Machine.execRecReset s
  | .recFree seg => Sys2Proof.Machine.execRecFree seg s
  | .hostTriggerDue => Sys2Proof.Machine.execHostTriggerDue s
  | .sqTail q index bad => Sys2Proof.Machine.execSqTail q index bad s
  | .cqHead q index => Sys2Proof.Machine.execCqHead q index s
  | .nop q e => Sys2Proof.Machine.execNop q e s
  | .regStage q e => Sys2Proof.Machine.execRegStage q e s
  | .regRead q e => Sys2Proof.Machine.execRegRead q e s
  | .commit q e => Sys2Proof.Machine.execCommit q e s
  | .commitDescriptorAbandon q e => Sys2Proof.Machine.execCommitDescriptorAbandon q e s
  | .mode q e => Sys2Proof.Machine.execMode q e s
  | .schedArm q e => Sys2Proof.Machine.execSchedArm q e s
  | .schedCancel q e => Sys2Proof.Machine.execSchedCancel q e s
  | .timeAdjIncr q e => Sys2Proof.Machine.execTimeAdjIncr q e s
  | .timeAdjStep q e => Sys2Proof.Machine.execTimeAdjStep q e s
  | .tripOpTrip q e => Sys2Proof.Machine.execTripOpTrip q e s
  | .tripOpEmergency q e => Sys2Proof.Machine.execTripOpEmergency q e s
  | .tripOpClear q e => Sys2Proof.Machine.execTripOpClear q e s
  | .recXfer q e => Sys2Proof.Machine.execRecXfer q e s
  | .recXferDone q => Sys2Proof.Machine.execRecXferDone q s
  | .recTrigDescriptor q e => Sys2Proof.Machine.execRecTrigDescriptor q e s
  | .ethTx q e => Sys2Proof.Machine.execEthTx q e s
  | .ethTxSent port => Sys2Proof.Machine.execEthTxSent port s
  | .ethRxbuf q e => Sys2Proof.Machine.execEthRxbuf q e s
  | .dmaError q => Sys2Proof.Machine.execDmaError q s
  | .linkDown => Sys2Proof.Machine.execLinkDown s
  | .coalescingTime q => Sys2Proof.Machine.execCoalescingTime q s
  | .vltBootGo dma fw cfg => Sys2Proof.Machine.execVltBootGo dma fw cfg s
  | .provision => Sys2Proof.Machine.execProvision s
  | .setOwner => Sys2Proof.Machine.execSetOwner s
  | .storeCert len => Sys2Proof.Machine.execStoreCert len s
  | .ctrInc index => Sys2Proof.Machine.execCtrInc index s
  | .sealVault => Sys2Proof.Machine.execSealVault s
  | .attest => Sys2Proof.Machine.execAttest s
  | .attestReport => Sys2Proof.Machine.execAttestReport s
  | .challenge => Sys2Proof.Machine.execChallenge s
  | .challengeExpiry => Sys2Proof.Machine.execChallengeExpiry s
  | .unlock => Sys2Proof.Machine.execUnlock s
  | .tlyPassDue job => Sys2Proof.Machine.execTlyPassDue job s
  | .tlyPassComplete job corrected bad => Sys2Proof.Machine.execTlyPassComplete job corrected bad s
  | .emblkN => Sys2Proof.Machine.execEmblkN s
  | .commitGo => Sys2Proof.Machine.execCommitGo s
  | .commitAbandon => Sys2Proof.Machine.execCommitAbandon s
  | .holdSet => Sys2Proof.Machine.execHoldSet s
  | .holdClear => Sys2Proof.Machine.execHoldClear s
  | .holdExpired => Sys2Proof.Machine.execHoldExpired s
  | .sysModeReq target => Sys2Proof.Machine.execSysModeReq target s
  | .tripCtrlTrip => Sys2Proof.Machine.execTripCtrlTrip s
  | .tripCtrlClear => Sys2Proof.Machine.execTripCtrlClear s
  | .registerWrite off v whole => Sys2Proof.Machine.execRegisterWrite off v whole s
  | .emblkNRelease => Sys2Proof.Machine.execEmblkNRelease s
  | .hocRelease n => Sys2Proof.Machine.execHocRelease n s
  | .dsInputChange n level => Sys2Proof.Machine.execDsInputChange n level s
  | .refInLoss => Sys2Proof.Machine.execRefInLoss s
  | .refInReturn => Sys2Proof.Machine.execRefInReturn s
  | .failedLockAttempt => Sys2Proof.Machine.execFailedLockAttempt s
  | .linkUp speed width => Sys2Proof.Machine.execLinkUp speed width s
  | .pwrFailRelease => Sys2Proof.Machine.execPwrFailRelease s
  | .vltCommandComplete => Sys2Proof.Machine.execVltCommandComplete s
  | .bootImageTimeout => Sys2Proof.Machine.execBootImageTimeout s
  | .bar0ReadFault off whole => Sys2Proof.Machine.execBar0ReadFault off whole s
  | .codeError lane block => Sys2Proof.Machine.execCodeError lane block s
  | .boundaryScan instr => Sys2Proof.Machine.execBoundaryScan instr s
  | .servicePortAccess => Sys2Proof.Machine.execServicePortAccess s
  | .flashCondition n flag => Sys2Proof.Machine.execFlashCondition n flag s
  | .switchSlewComplete => Sys2Proof.Machine.execSwitchSlewComplete s
  | .msixTableWrite index v => Sys2Proof.Machine.execMsixTableWrite index v s

end Sys2Proof.Machine
end

