-- ==== Sys2Proof/Safety.lean ====
section
/-! DEFINITION. What counts as a safe run, the invariants, and the conditions under which a command is carried out, in the terms claims use. -/
namespace Sys2Proof.Machine

/-- A state from which a step answers a next state. -/
def State.runs (s : State) : Prop := ∃ t, step s = .next t

/-- The recorder memory is in its canonical form: addresses of the 256 MiB strictly rising, no byte listed that an unlisted address reads as (R488). -/
def State.memOk (s : State) : Bool := dramWf s.dram

/-- The command register at `off` takes a BAR0 write of the level it asks for: the host reaches it, no rule refuses it, its domain is on (R540, R545, R579). -/
def Dev.bar0Open (d : Dev) (off maxLvl : Nat) : Bool :=
  d.hostUp && !(d.bootHidden off) && d.writeAdmitted none maxLvl off && !(d.blockOff (off / 0x10000))

/-- The host reaches the register, but no rule admits the write (R540). -/
def Dev.bar0Refused (d : Dev) (off maxLvl : Nat) : Bool := d.hostUp && !(d.bootHidden off) && !(d.writeAdmitted none maxLvl off)

/-- The vault takes a command: the write reaches it, no command runs, and the level is admitted (R540, R545, R556). -/
def Dev.vaultOpen (d : Dev) (maxLvl : Nat) : Bool :=
  d.hostUp && !(d.bootHidden R.VLT_CMD) && d.vlt.running.isNone && decide (d.level none ≤ maxLvl) && d.regionAdmits (d.level none) R.VLT_CMD true

/-- A queue fetches an entry with an opcode and the entry is well formed (R511, R517–R520). -/
def Dev.takesEntry (d : Dev) (q op : Nat) (e : SqEntry) : Bool := d.canFetch q (sqFence e) && !(sqMalformed op e)

/-- The request a fetched entry becomes. -/
def Dev.entryRef (d : Dev) (q op : Nat) (e : SqEntry) : CompRef := ⟨q, (d.queue q).gen, e.tag, op⟩

/-- A command that reaches the block as a BAR0 access (R9, R10). -/
def isBar0 : Instr → Bool
  | .registerWrite o _ _ | .bar0ReadFault o _ => decide (o < 16777216)
  | .commitGo | .commitAbandon | .holdSet | .holdClear | .sysModeReq _ | .tripCtrlTrip | .tripCtrlClear | .tmbAdjGoIncr | .tmbAdjGoStep | .tmbCap
  | .schedCmdArm _ | .schedCmdCancel _ | .accept _ | .keep _ | .adcCorecSoft _ | .mgmtGo | .rebuild | .scan | .nodeCmdRelease _ | .nodeCmdReadmit _
  | .ovfClear | .reenable _ | .test _ | .recArm | .recDisarm | .recTrig | .recReset | .recFree _ | .rsvErase | .rsvCompact | .vltBootGo _ _ _
  | .provision | .setOwner | .storeCert _ | .ctrInc _ | .sealVault | .attest | .challenge | .unlock => true
  | _ => false

/-- A command at which power is removed from every domain, or a reset takes it (R581, R591, R592, R617). -/
def removesPower : Instr → Bool
  | .powerOn | .porbAssert | .hardCut | .aonBrownout | .powerDown => true
  | _ => false

/-- A command that removes power does so in this state (R581, R591, R592, R617). -/
def takesPower (c : Instr) (s : State) : Bool :=
  match c with
  | .powerOn => true
  | .porbAssert => !s.dev.pwr.porb
  | .hardCut => !s.dev.unpowered
  | .aonBrownout => !s.dev.pwr.brownout
  | .powerDown => s.dev.pwr.stopAt.isSome && s.dev.pwr.blockDone && s.dev.rsv.writing.isNone && !s.dev.unpowered
  | _ => false

/-- The bits of `SYS_RESET_CAUSE` that a removal of power adds (R584). -/
def removalBits : Instr → Nat
  | .porbAssert => 2 | .hardCut => 16 | .aonBrownout => 32 | _ => 0

/-- A cause of a protective block waits for the boundary (R128). -/
def Dev.causeUp (d : Dev) (bit : Nat) : Bool := d.sys.raised.any (fun r => r.bit == bit)

/-- What raising a cause may change (R128): the causes, the claim, the drive pairs with their sticky bits, the lanes, the events and recorder triggers. -/
def Dev.onlyCause (a b : Dev) : Prop :=
  b = { a with sticky := b.sticky, clears := b.clears, sys := { a.sys with raised := b.sys.raised }, rdn := { a.rdn with nextClaim := b.rdn.nextClaim }, ddp := b.ddp, ikl := b.ikl
               pci := { a.pci with evq := b.pci.evq }, recd := { a.recd with trigs := b.recd.trigs } }

/-- What recording an access fault may change (R543). -/
def Dev.onlyFault (a b : Dev) : Prop := b = { a with apu := b.apu, pci := { a.pci with evq := b.pci.evq } }

end Sys2Proof.Machine
end

