-- ==== Sys2Proof/WellFormed.lean ====
section
/-! DEFINITION. The commands whose operands lie in the ranges the spec gives them. -/
namespace Sys2Proof

/-- A number below a bound. -/
def isBelow (n m : Nat) : Bool := decide (n < m)
/-- Bytes. -/
def areBytes (l : List Nat) : Bool := l.all (fun b => decide (b < 256))

/-- The frame came in on one of the four ports (R524), in one of the 12 root cycles of a tick (R435), as bytes. -/
def EthFrame.wf (f : EthFrame) : Bool := isBelow f.port 4 && isBelow f.cyc 12 && areBytes f.bytes
/-- A sampled-value frame (R392, R393): 16-bit APPID, 16-bit smpCnt. -/
def SvFrame.wf (f : SvFrame) : Bool := f.eth.wf && isBelow f.appid 65536 && areBytes f.svid && f.asdus.all (fun a => decide (a.smpCnt < 65536))
/-- A PTP message (R436): 8-bit domain, 16-bit sequence, nanoseconds below 10⁹. -/
def PtpMsg.wf (m : PtpMsg) : Bool := m.eth.wf && isBelow m.domain 256 && isBelow m.seq 65536 && isBelow m.ns 1000000000
/-- A submission entry (R518): 16-bit TAG, 8-bit FLAGS, words 1 to 15. -/
def SqEntry.wf (e : SqEntry) : Bool := isBelow e.tag 65536 && isBelow e.flags 256 && decide (e.w.length = 15)

/-- The bytes of a scan space (R566); only spaces 1 to 4 carry check bits. -/
def spaceSize (n : Nat) : Nat := match n with | 1 => 12 * 2 ^ 20 | 2 => 2 ^ 23 | 3 => 2 ^ 28 | 4 => 2 ^ 22 | _ => 0
/-- A 64-bit word of a memory with check bits (R570, R571). -/
def ReadErr.wf (e : ReadErr) : Bool := isBelow e.addr (spaceSize e.space) && decide (e.addr % 8 = 0)
/-- No error, or one of a word that exists. -/
def errWf (e : Option ReadErr) : Bool := (e.map ReadErr.wf).getD true

/-- A management frame has a header, at most seven data blocks and a trailer (R323). -/
def frameWf (bs : List Dword) : Bool := decide (2 ≤ bs.length) && decide (bs.length ≤ 9)

/-- A command's operands are in range. -/
def Instr.wf : Instr → Bool
  | .porbRelease _ _ _ flash => areBytes flash
  | .domainPowerGood d => decide (1 ≤ d) && isBelow d 15
  | .thermalRound rs => decide (rs.length ≤ 12)
  | .adcConversion c _ | .injectedTrigger c | .adcCorecSoft c | .adcWake c | .adcWarmUpEnd c => isBelow c 4
  | .sampledValueFrame f => f.wf
  | .gfeStep e | .cceStep e | .modulate e => errWf e
  | .inputInvalid m => isBelow m 24
  | .lpeEvaluation n => isBelow n 64
  | .pulseEdge n _ | .pulseTimeout n => isBelow n 8
  | .report l s _ => isBelow l 12 && isBelow s 0x1FF
  | .reportCutoff l | .faultFlash l _ => isBelow l 12
  | .nodeLost a | .nodeCmdRelease a | .nodeCmdReadmit a => isBelow a 8192
  | .codeError l _ => isBelow l 14
  | .mgmtResponse l bs => isBelow l 12 && frameWf bs
  | .discoveryResponse l d r _ bs => isBelow l 12 && decide (1 ≤ d) && isBelow d 17 && isBelow r 65536 && frameWf bs
  | .discoveryProbeTimeout l d r => isBelow l 12 && decide (1 ≤ d) && isBelow d 17 && isBelow r 65536
  | .nodeSync _ p _ | .nodeEblk _ p _ | .nodeCmdFrame _ p _ => isBelow p 2
  | .nodeFlt _ b => isBelow b.down 2
  | .flashCondition _ (.comm r) => isBelow r 4
  | .ident _ p bs | .echo _ p bs | .portCfg _ p bs | .admitNode _ p bs | .release _ p bs | .status _ p bs | .portReset _ p bs | .setIdent _ p bs =>
    isBelow p 2 && frameWf bs
  | .pairBlock l _ => isBelow l 2
  | .escrowReceived l bs => isBelow l 2 && decide (bs.length ≤ 328)
  | .ethFrame f => f.wf
  | .ptpSync m | .followUp m | .pdelayReq m | .pdelayResp m | .pdelayRespFollowUp m => m.wf
  | .pdelayReqInterval p | .pdelayTimeout p | .ethTxSent p => isBelow p 4
  | .syncTo x | .accept x | .keep x => isBelow x 2
  | .ttPulseStart n | .ttPulseEnd n => isBelow n 8
  | .schedCmdArm e | .schedCmdCancel e => isBelow e 16
  | .hoc n | .hocRelease n | .dsInputChange n _ | .desatTrip n | .blankingEnd n | .deadTimeEnd n | .ddpCommandEdge n | .offStateTestPhaseEnd n _ _ => isBelow n 12
  | .reenable p | .test p => isBelow p 4096
  | .recFree s => isBelow s 8192
  | .sqTail q i _ | .cqHead q i => isBelow q 32 && isBelow i 4096
  | .nop q e | .regStage q e | .regRead q e | .commit q e | .commitDescriptorAbandon q e | .mode q e | .schedArm q e | .schedCancel q e | .timeAdjIncr q e
  | .timeAdjStep q e | .tripOpTrip q e | .tripOpEmergency q e | .tripOpClear q e | .recXfer q e | .recTrigDescriptor q e | .ethTx q e | .ethRxbuf q e =>
    isBelow q 32 && e.wf
  | .recXferDone q | .dmaError q | .coalescingTime q => isBelow q 32
  | .linkUp s w => isBelow s 16 && isBelow w 16
  | .vltBootGo _ f c => areBytes f && areBytes c
  | .storeCert n => isBelow n 4096
  | .ctrInc i => isBelow i 16
  | .tlyPassDue j => isBelow j 8
  | .tlyPassComplete j _ _ => isBelow j 8
  | .sysModeReq t => isBelow t 16
  | .registerWrite o _ _ | .bar0ReadFault o _ => isBelow o 16777216
  | .msixTableWrite i _ => isBelow i 256
  | .powerOn | .porbAssert | .aonBrownout | .aonBrownoutRelease | .pwrFail | .powerDown | .hardCut | .journalRecordWritten | .compactionComplete | .rsvErase
  | .eraseComplete | .rsvCompact | .periodBoundary _ _ | .overrunBlock | .frtExit | .frtTimeout | .prechargeTimeout | .adcCutoff | .mcdConditioning
  | .resyncInStep | .temporaryBlockClampCount | .temporaryBlockEnd | .branchSelection | .mgmtGo | .noResponse | .rebuild | .scan
  | .scanInterval | .ovfClear | .nodeSyncLoss _ | .nodeClearingWait _ | .nodeCellFailure _ | .escrowCutoff | .staleEp
  | .flashCondition _ .overvolt | .flashCondition _ .desat | .flashCondition _ .rx11 | .flashCondition _ .alarm | .blockLock _ | .blockLockLoss _
  | .joinEp | .joinMs | .revertMs | .gradeHoldMs | .lossOfLock | .lock | .phaseStep | .aligned | .tmbAdjGoIncr | .tmbAdjGoStep | .tmbCap | .chopOnTimeEnd
  | .uvlo | .uvloRelease | .recArm | .recDisarm | .recTrig | .recReset | .hostTriggerDue | .linkDown | .provision | .setOwner | .sealVault | .attest
  | .attestReport | .challenge | .challengeExpiry | .unlock | .emblkN | .commitGo | .commitAbandon | .holdSet | .holdClear | .holdExpired | .tripCtrlTrip
  | .tripCtrlClear | .emblkNRelease | .refInLoss | .refInReturn | .failedLockAttempt | .pwrFailRelease | .vltCommandComplete | .bootImageTimeout
  | .boundaryScan _ | .servicePortAccess | .switchSlewComplete => true

end Sys2Proof
end

