-- ==== Sys2Proof/Certificates/Slice0/Obligations.lean ====
section
/-! DEFINITION. The statements for the provers. A command that changes the device alone is said to answer `{ s with dev := d }`: the snapshot, the hold, the
recorder DRAM and the waiting commands stand as they were. What a command leaves unchanged in the device is said by an equation that names the parts it may change. -/
open Sys2Proof Sys2Proof.Machine

-- The machine as a whole -------------------------------------------------------------------------------------------------

/-- A step with a command at the front of the queue is that command's effect on the state with the rest of the queue. -/
def Obligations.StepRunsTheFrontCommand : Prop := ∀ (s : State) (c : Instr) (rest : List Instr), s.pending = c :: rest → step s = exec c { s with pending := rest }

/-- With no command waiting a step is a tick of the timebase (log 10): it answers a next state in which elapsed time has gone on and the register banks, the ledgers and
the epoch counter stand as they were; so do the safety island and the network, but for an expiry of a watchdog, whose instant is free (log 94). -/
def Obligations.EmptyQueueTicks : Prop :=
  ∀ s : State, s.pending = [] → ∃ d, step s = .next { s with dev := d } ∧ s.dev.tmb.up < d.tmb.up ∧ d.tmb.epoch = s.dev.tmb.epoch ∧
    d.active = s.dev.active ∧ d.staging = s.dev.staging ∧ d.rw = s.dev.rw ∧ d.mbe = s.dev.mbe ∧ d.sys = { s.dev.sys with raised := d.sys.raised } ∧
    (Config.watchdogExpires d.tmb.up = false → d.sys = s.dev.sys ∧ d.ikl = s.dev.ikl)

/-- The recorder DRAM keeps its canonical form over every step. -/
def Obligations.StepKeepsDramCanonical : Prop := ∀ (s t : State), dramWf s.dram = true → step s = .next t → dramWf t.dram = true

/-- The recorder DRAM is in canonical form at reset. -/
def Obligations.ResetDramCanonical : Prop := dramWf State.reset.dram = true

/-- The device at reset: held by PORB in BOOT with every domain off, POR the only cause, staging equal to active, no queue running, the trip latch clear. -/
def Obligations.ResetLeavesBoot : Prop :=
  State.reset.dev.mode = .boot ∧ State.reset.dev.pwr.porb = true ∧ State.reset.dev.boot.cause = 1 ∧ State.reset.dev.sys.tripCause = 0 ∧
  State.reset.dev.sys.stageGen = 0 ∧ State.reset.dev.sys.dirty = false ∧ State.reset.pending = [] ∧ State.reset.held = none ∧
  (∀ n, State.reset.dev.domOn n = false) ∧ (∀ q, (State.reset.dev.queue q).st = 0) ∧ (∀ off, State.reset.dev.stg off = State.reset.dev.act off)

/-- No command adds to or takes from the waiting commands. The snapshot that reads see and the recorder DRAM move at a period boundary or with the power, at no other
command (R56); the held snapshot moves with the commands of `SYS_SNAP_CTRL`, the 1 ms limit and the removal of power alone (R59, R60). -/
def Obligations.ReadsMoveAtBoundaries : Prop :=
  ∀ (c : Instr) (s t : State), exec c s = .next t → t.pending = s.pending ∧ (removesPower c = false →
    ((∀ late phase, c ≠ .periodBoundary late phase) → t.snap = s.snap ∧ t.dram = s.dram) ∧
    (c ≠ .holdSet → c ≠ .holdClear → c ≠ .holdExpired → (∀ v, c ≠ .registerWrite R.SYS_SNAP_CTRL v true) → t.held = s.held))

/-- Every well-formed command answers a next state in every state. -/
def Obligations.WellFormedCommandsComplete : Prop := ∀ (c : Instr) (s : State), c.wf = true → ∃ t, exec c s = .next t

/-- No command is refused, and the commands that fault are the BAR0 and BAR2 accesses outside the windows of R8 and R510. -/
def Obligations.OnlyOutsideAccessesStop : Prop :=
  ∀ (c : Instr) (s : State), (∀ r, exec c s ≠ .refused r) ∧
    ((∃ f, exec c s = .fault f) ↔
      ((∃ o v w, c = .registerWrite o v w ∧ 16777216 ≤ o) ∨ (∃ o w, c = .bar0ReadFault o w ∧ 16777216 ≤ o) ∨ (∃ q i b, c = .sqTail q i b ∧ 32 ≤ q) ∨
       (∃ q i, c = .cqHead q i ∧ 32 ≤ q) ∨ (∃ i v, c = .msixTableWrite i v ∧ 32768 ≤ i)))

/-- While the host does not reach the device (no power, or the PCI or fabric domain off) a BAR0 access has no effect. -/
def Obligations.UnreachedDeviceIgnoresBar0 : Prop := ∀ (c : Instr) (s : State), s.dev.hostUp = false → isBar0 c = true → exec c s = .next s

/-- The mode changes at a period boundary or with the power, at no other command (R35). -/
def Obligations.ModeMovesAtBoundaries : Prop :=
  ∀ (c : Instr) (s t : State), exec c s = .next t → removesPower c = false → (∀ late phase, c ≠ .periodBoundary late phase) → t.dev.mode = s.dev.mode

-- Power, reset, temperature, the reserve store ---------------------------------------------------------------------------

/-- A command that removes power from every domain (POWER_ON, PORB_ASSERT, HARD_CUT, AON_BROWNOUT, POWER_DOWN) leaves the device in BOOT with everything but the MRAM, the
vault's storage and the nodes at its reset value, the recorder DRAM empty (R497), and its cause added to the reset causes (R581, R584, R591, R592, R600, R617). -/
def Obligations.PowerRemovalLeavesReset : Prop :=
  ∀ (c : Instr) (s : State), takesPower c s = true →
    ∃ t, exec c s = .next t ∧ t.pending = s.pending ∧ t.dram = [] ∧ t.held = none ∧ t.snap = t.dev ∧ t.dev.mode = .boot ∧ t.dev.sys = {} ∧
      (∀ n, t.dev.domOn n = false) ∧ (∀ q, (t.dev.queue q).st = 0) ∧ (∀ off, t.dev.act off = resetOf off ∧ t.dev.stg off = resetOf off) ∧
      t.dev.nodes = s.dev.nodes ∧ t.dev.rsv.mram = s.dev.cutMram ∧ t.dev.vlt = s.dev.vlt.kept ∧
      t.dev.boot.causeNext = (if c = .powerOn then 1 else s.dev.boot.causeNext ||| removalBits c)

/-- The end of a reset starts BOOT with step 1, the first domain powering up and the gathered causes shown (R92, R577, R581, R584, R591, R617); power-good of a domain
that is powering up lets its logic run 1 µs later, and in BOOT the next domain starts (R577). -/
def Obligations.ResetReleaseStartsBoot : Prop :=
  (∀ (s : State) (st sf : Bool) (fl : List Nat), s.dev.pwr.porb = true → s.dev.pwr.brownout = false →
    ∃ d, exec (.porbRelease false st sf fl) s = .next { s with dev := d } ∧ d = { s.dev with pwr := d.pwr, boot := d.boot, clk := d.clk, vlt := d.vlt } ∧
      d.pwr = { porb := false, rising := [1], seqNext := 2 } ∧ d.boot.step = 1 ∧ d.boot.cause = s.dev.boot.causeNext ∧ d.boot.selfTestGood = st ∧
      d.boot.flashGood = sf ∧ d.boot.flash = fl ∧ d.clk.lock = false ∧ d.clk.fallback = true) ∧
  (∀ (s : State) (st sf : Bool) (fl : List Nat), exec (.porbRelease true st sf fl) s = .next s) ∧
  (∀ s : State, s.dev.pwr.brownout = true → s.dev.pwr.porb = false →
    ∃ d, exec .aonBrownoutRelease s = .next { s with dev := d } ∧ d = { s.dev with pwr := d.pwr, boot := d.boot, clk := d.clk, vlt := d.vlt } ∧
      d.pwr = { porb := false, rising := [1], seqNext := 2 } ∧ d.boot.step = 1 ∧ d.boot.cause = s.dev.boot.causeNext) ∧
  (∀ (s : State) (n : Nat), s.dev.pwr.rising.contains n = true → s.dev.unpowered = false → n - 1 < s.dev.pwr.on.length →
    ∃ d, exec (.domainPowerGood n) s = .next { s with dev := d } ∧ nth d.pwr.on (n - 1) none = some (s.dev.tmb.up + usU) ∧ d.sys = s.dev.sys ∧ d.nodes = s.dev.nodes ∧
      (s.dev.boot.step = 1 → s.dev.pwr.seqNext ≤ 14 → d.pwr.rising = [s.dev.pwr.seqNext] ∧ d.pwr.seqNext = s.dev.pwr.seqNext + 1) ∧
      (s.dev.boot.step ≠ 1 → d.pwr.rising = s.dev.pwr.rising.filter (· != n) ∧ d.boot = s.dev.boot))

/-- `PWR_FAIL` starts an orderly stop (R582, R592): the store starts no further record, the cause is noted, and outside BOOT the protective block is raised; its release
changes the pin alone. -/
def Obligations.PwrFailStartsAnOrderlyStop : Prop :=
  (∀ s : State, s.dev.unpowered = false → s.dev.pwr.stopAt = none →
    ∃ d, exec .pwrFail s = .next { s with dev := d } ∧ d.pwr.pwrFail = true ∧ d.pwr.stopAt = some s.dev.tmb.up ∧ d.rsv.stopped = true ∧
      d.boot.causeNext = s.dev.boot.causeNext ||| 4 ∧ (s.dev.mode ≠ .boot → d.causeUp Cause.thermal = true) ∧ (s.dev.mode = .boot → d.sys = s.dev.sys)) ∧
  (∀ s : State, exec .pwrFailRelease s = .next { s with dev := { s.dev with pwr := { s.dev.pwr with pwrFail := false } } })

/-- A sensor round takes every reading of a die sensor that is in the round, with the level of R589, and STOP stays set (R587, R589, R592). -/
def Obligations.ThermalRoundTakesTheReadings : Prop :=
  ∀ (s : State) (rs : List Reading), s.dev.unpowered = false → s.dev.domOn 1 = true →
    ∃ d, exec (.thermalRound rs) s = .next { s with dev := d } ∧
      (∀ n (r : Reading), n < 8 → rs[n]? = some r →
        nth d.thm.sensors n {} = { (nth s.dev.thm.sensors n {}).take false r with level := levelOf (s.dev.thresholds n) ((nth s.dev.thm.sensors n {}).take false r).temp }) ∧
      (s.dev.thm.stop = true → d.thm.stop = true) ∧ (d.thm.stop = true → s.dev.thm.stop = true ∨ ∃ n, n < 12 ∧ 3 ≤ (nth d.thm.sensors n {}).level)

/-- A record complete in the MRAM stands behind the records before it, is counted, and ends its commit when it is the last one; compaction ends with the image that a
header now names and the records of later commits alone; ERASE runs in SERVICE and leaves images and ring empty (R543, R596, R597, R601). -/
def Obligations.ReserveStoreKeepsItsJournal : Prop :=
  (∀ (s : State) (x : JRec), s.dev.rsv.writing = some x → s.dev.rsv.fresh = false →
    ∃ d, exec .journalRecordWritten s = .next { s with dev := d } ∧ d = { s.dev with rsv := d.rsv } ∧ d.rsv.mram.ring = s.dev.rsv.mram.ring ++ [x] ∧
      d.rsv.records = sat32 s.dev.rsv.records 1 ∧ d.rsv.commitId = (if x.last then x.commit else s.dev.rsv.commitId)) ∧
  (∀ (s : State) (im : RsvImg), s.dev.rsv.compact = some im →
    ∃ d, exec .compactionComplete s = .next { s with dev := d } ∧ d = { s.dev with rsv := d.rsv } ∧ d.rsv.compact = none ∧
      d.rsv.mram.ring = s.dev.rsv.mram.ring.filter (fun x => decide (s.dev.rsv.compactCommit < x.commit)) ∧
      d.rsv.mram.imgs = setAt s.dev.rsv.mram.imgs (match s.dev.rsv.mram.header with | some h => 1 - h.image | none => 0) im) ∧
  (∀ s : State, s.dev.bar0Open R.RSV_CMD 1 = true → s.dev.rsv.compact = none → s.dev.rsv.erasing = false → s.dev.rsv.erased = false → s.dev.rsv.stopped = false →
    ∃ d, exec .rsvCompact s = .next { s with dev := d } ∧ d = { s.dev with rsv := d.rsv } ∧ d.rsv.mram = s.dev.rsv.mram ∧
      (s.dev.thm.throttle = false → d.rsv.compact.isSome = true) ∧ (s.dev.thm.throttle = true → d.rsv = { s.dev.rsv with compactWait := true })) ∧
  (∀ s : State, s.dev.bar0Open R.RSV_CMD 0 = true → s.dev.mode = .service → s.dev.rsv.erasing = false → s.dev.rsv.erased = false →
    exec .rsvErase s = .next { s with dev := { s.dev with rsv := { s.dev.rsv with erasing := true, queue := [], writing := none, compact := none, compactWait := false } } }) ∧
  (∀ s : State, s.dev.bar0Open R.RSV_CMD 0 = true → s.dev.mode ≠ .service →
    ∃ d, exec .rsvErase s = .next { s with dev := d } ∧ s.dev.onlyFault d ∧ d.apu.ofs = R.RSV_CMD ∧ fld (word d.apu.info) 31 28 = 5) ∧
  (∀ s : State, s.dev.rsv.erasing = true →
    ∃ d, exec .eraseComplete s = .next { s with dev := d } ∧ d = { s.dev with rsv := d.rsv } ∧ d.rsv.erasing = false ∧ d.rsv.erased = true ∧ d.rsv.mram.ring = [] ∧
      d.rsv.mram.imgs = [⟨false, []⟩, ⟨false, []⟩] ∧ d.rsv.mram.contents = none)

/-- Step 4 of BOOT: 300 ms without an image let the vault take one from the host; an image from the host is an attempt, with result 8 when host memory cannot be read
(R549, R552). -/
def Obligations.BootImagesFromTheHost : Prop :=
  (∀ s : State, s.dev.boot.step = 4 → s.dev.boot.start + 300 * msU ≤ s.dev.tmb.up →
    ∃ d, exec .bootImageTimeout s = .next { s with dev := d } ∧ d = { s.dev with boot := { s.dev.boot with waitHost := true }, vlt := { s.dev.vlt with bootResult := d.vlt.bootResult } } ∧
      d.vlt.bootResult = (if s.dev.vlt.bootResult = 0 then 2 else s.dev.vlt.bootResult)) ∧
  (∀ (s : State) (fw cfg : List Nat), s.dev.bar0Open R.VLT_BOOT_GO 3 = true → s.dev.boot.step = 4 → s.dev.boot.waitHost = true →
    ∃ d, exec (.vltBootGo true fw cfg) s = .next { s with dev := d } ∧ d = { s.dev with boot := { s.dev.boot with source := 0 }, vlt := d.vlt } ∧
      d.vlt = { s.dev.vlt with bootResult := 8, bootImage := 0, attempts := sat16 s.dev.vlt.attempts 1 }) ∧
  (∀ (s : State) (fw cfg : List Nat), s.dev.bar0Open R.VLT_BOOT_GO 3 = true → s.dev.boot.step = 4 → s.dev.boot.waitHost = true →
    ∃ d, exec (.vltBootGo false fw cfg) s = .next { s with dev := d } ∧ d.boot.source = 0 ∧ d.vlt.attempts = sat16 s.dev.vlt.attempts 1 ∧
      (d.vlt.bootResult = 1 ↔ d.boot.step = 6) ∧ (d.vlt.bootResult ≠ 1 → d.boot.step = 4 ∧ d.sys = s.dev.sys ∧ d.active = s.dev.active))

-- Commits, reads, modes, trips -------------------------------------------------------------------------------------------

/-- A write of `SYS_COMMIT` leaves a request pending behind those before it; one from a level that is not admitted is an access fault (R41–R43, R50, R543). -/
def Obligations.CommitRequestsWait : Prop :=
  (∀ s : State, s.dev.bar0Open R.SYS_COMMIT 2 = true →
    exec .commitGo s = .next { s with dev := { s.dev with sys := { s.dev.sys with commitReqs := s.dev.sys.commitReqs ++ [⟨false, none, .bar0, s.dev.stampNow⟩] } } } ∧
    exec .commitAbandon s = .next { s with dev := { s.dev with sys := { s.dev.sys with commitReqs := s.dev.sys.commitReqs ++ [⟨true, none, .bar0, s.dev.stampNow⟩] } } }) ∧
  (∀ s : State, s.dev.bar0Refused R.SYS_COMMIT 2 = true →
    ∃ d, exec .commitGo s = .next { s with dev := d } ∧ exec .commitAbandon s = .next { s with dev := d } ∧ s.dev.onlyFault d ∧ d.apu.ofs = R.SYS_COMMIT)

/-- R46: a write of a register with a staging copy through BAR0, one through REG_STAGE, and an abandon applied at a boundary each add 1 to `SYS_STAGE_GEN`. -/
def Obligations.StagingWritesCount : Prop :=
  (∀ (s : State) (off : Nat) (v : Word) (r : RegDef), findReg off = some r → r.flds.any (fun f => isStaged f.acc) = true →
    s.dev.sealedReg r = false ∨ r.flds.any (fun f => f.acc == .rws) = true → off < 16777216 →
    off % 4 = 0 → off ≠ R.SYS_SNAP_CTRL → readOnly off = false → s.dev.cmdWrite off v = none → s.dev.hostUp = true → s.dev.bootHidden off = false →
    s.dev.writeAdmitted none 3 off = true → ((schedReg off).map (fun e => (s.dev.sched e).st == 1)).getD false = false →
    ∃ d, exec (.registerWrite off v true) s = .next { s with dev := d } ∧ d.sys.stageGen = s.dev.sys.stageGen + 1 ∧ d.sys.dirty = true) ∧
  (∀ (d : Dev) (off : Nat) (v : Word), (d.stage off v).sys.stageGen = d.sys.stageGen + 1) ∧
  (∀ (s : State) (q : Nat) (e : SqEntry), s.dev.takesEntry q Op.regStage e = true →
    ∃ d, exec (.regStage q e) s = .next { s with dev := d } ∧
      d.sys.stageGen = s.dev.sys.stageGen + BitVec.ofNat 32 (Dev.stageFrom e q (sqF e 1 2 0) 0 (s.dev.fetched q)).2.1) ∧
  (∀ (d : Dev) (b : Nat) (r : CommitReq), (d.sys.commitReqs.filter (d.commitDue b)).getLast? = some r → r.abandon = true →
    (d.commitStep b).dev.sys.stageGen = d.sys.stageGen + 1)

/-- A commit is applied whole or not at all: the active bank becomes the staging bank as it stood, or stays, with the result code told; an abandon that decides the
boundary reloads the whole staging bank from the active bank (R45, R48, R49). -/
def Obligations.CommitsApplyWholeOrNotAtAll : Prop :=
  (∀ (d : Dev) (b : Nat), (d.commitStep b).dev.active = (if (d.commitStep b).applied then d.staging else d.active) ∧
    ((d.commitStep b).applied = true → (d.commitStep b).dev.staging = d.staging ∧ (d.commitStep b).dev.sys.dirty = false ∧
      ((d.commitStep b).dev.sys.commitResult = 1 ∨ (d.commitStep b).dev.sys.commitResult = 2)) ∧
    ((d.commitStep b).dev.sys.mode = d.sys.mode ∧ (d.commitStep b).dev.rw = d.rw ∧ (d.commitStep b).dev.sys.tripCause = d.sys.tripCause)) ∧
  (∀ (d : Dev) (b : Nat) (r : CommitReq), (d.sys.commitReqs.filter (d.commitDue b)).getLast? = some r → r.abandon = true →
    (d.commitStep b).dev.staging = d.active ∧ (d.commitStep b).dev.active = d.active ∧ (d.commitStep b).dev.sys.dirty = false ∧ (d.commitStep b).applied = false)

/-- HOLD keeps the snapshot of the moment it is set for register reads, until it is cleared or 1 ms has passed (R59, R60). -/
def Obligations.HoldKeepsTheSnapshot : Prop :=
  (∀ s : State, s.dev.bar0Open R.SYS_SNAP_CTRL 3 = true → s.dev.sys.holdStart = none →
    ∃ d, exec .holdSet s = .next { s with dev := d, held := some s.snap } ∧ d = { s.dev with rw := d.rw, sys := { s.dev.sys with holdStart := some s.dev.tmb.up } }) ∧
  (∀ s : State, s.dev.bar0Open R.SYS_SNAP_CTRL 3 = true → s.dev.sys.holdStart.isSome = true → exec .holdSet s = .next s) ∧
  (∀ s : State, s.dev.bar0Open R.SYS_SNAP_CTRL 3 = true → s.dev.sys.holdStart.isSome = true →
    ∃ d, exec .holdClear s = .next { s with dev := d, held := none } ∧ d = { s.dev with rw := d.rw, sys := { s.dev.sys with holdStart := none } }) ∧
  (∀ (s : State) (t : Nat), s.dev.sys.holdStart = some t →
    (t + msU ≤ s.dev.tmb.up → ∃ d, exec .holdExpired s = .next { s with dev := d, held := none } ∧
      d = { s.dev with rw := d.rw, sticky := d.sticky, clears := d.clears, sys := { s.dev.sys with holdStart := none } } ∧ (d.stk R.SYS_SNAP_CTRL).getLsbD 1 = true) ∧
    (s.dev.tmb.up < t + msU → exec .holdExpired s = .next s))

/-- An immediate mode request takes the place of the one received before it in the same epoch, whose descriptor completes with SUPERSEDED; only one of the epoch before
may wait beside it. One from a level that is not admitted takes no place and shows PRIVILEGE (R65, R78, R79, R81). -/
def Obligations.ModeRequestsReplaceEachOther : Prop :=
  (∀ (s : State) (t : Nat), s.dev.bar0Open R.SYS_MODE_REQ (s.dev.modeLevel (t % 16)) = true →
    ∃ d, exec (.sysModeReq t) s = .next { s with dev := d } ∧
      d.sys.modeReqs = s.dev.sys.modeReqs.filter (fun r => s.dev.afterEpoch && decide (r.stamp < s.dev.grid (s.dev.tmb.epoch + 1))) ++ [⟨t % 16, .bar0, s.dev.stampNow⟩] ∧
      d = { s.dev with sys := { s.dev.sys with modeReqs := d.sys.modeReqs }, pci := d.pci } ∧
      (∀ (c : CompRef) (m b : Nat), s.dev.afterEpoch = false → s.dev.sys.modeReqs = [⟨m, .desc c, b⟩] →
        d = ({ s.dev with sys := { s.dev.sys with modeReqs := [⟨t % 16, .bar0, s.dev.stampNow⟩] } }).complete c 0 7 0 [s.dev.modeResultWord]) ∧
      ((∀ r ∈ s.dev.sys.modeReqs, ∀ c, r.origin ≠ .desc c) → d.pci = s.dev.pci)) ∧
  (∀ (s : State) (t : Nat), s.dev.bar0Refused R.SYS_MODE_REQ (s.dev.modeLevel (t % 16)) = true →
    ∃ d, exec (.sysModeReq t) s = .next { s with dev := d } ∧ d.sys.modeReqs = s.dev.sys.modeReqs ∧ d.sys.mrResult = 10 ∧ d.sys.mrTarget = t % 16 ∧
      d.sys.mrSource = s.dev.mode.code ∧ d.apu.ofs = R.SYS_MODE_REQ)

/-- R132: a TRIP request through BAR0 or a descriptor is admitted from levels 0, 1 and 2, which raises the cause HOST; another level is refused without effect on the
causes. -/
def Obligations.TripRequestsNeedLevelTwo : Prop :=
  (∀ s : State, s.dev.bar0Open R.SYS_TRIP_CTRL 2 = true →
    ∃ d, exec .tripCtrlTrip s = .next { s with dev := d } ∧ s.dev.onlyCause d ∧ d.causeUp Cause.host = true) ∧
  (∀ s : State, s.dev.hostUp = true → s.dev.bootHidden R.SYS_TRIP_CTRL = false → 2 < s.dev.level none →
    ∃ d, exec .tripCtrlTrip s = .next { s with dev := d } ∧ s.dev.onlyFault d) ∧
  (∀ (s : State) (q : Nat) (e : SqEntry), s.dev.takesEntry q Op.trip e = true → sqF e 1 3 0 = 1 → s.dev.level (some q) ≤ 2 →
    ∃ d, exec (.tripOpTrip q e) s = .next { s with dev := d } ∧ d.causeUp Cause.host = true ∧ d.sys.tripRefs = s.dev.sys.tripRefs ++ [(s.dev.stampNow, s.dev.entryRef q Op.trip e)]) ∧
  (∀ (s : State) (q : Nat) (e : SqEntry), s.dev.takesEntry q Op.trip e = true → sqF e 1 3 0 = 1 → 2 < s.dev.level (some q) →
    ∃ d, exec (.tripOpTrip q e) s = .next { s with dev := d } ∧ d.sys = s.dev.sys)

/-- Step 1 at station time `b` latches every cause raised before it; a clear request received before it removes the others whose condition is no longer present; what came
at `b` or later waits for the next boundary (R65, R128, R130, R131). -/
def Obligations.CausesLatchAndClear : Prop :=
  ∀ (d : Dev) (b n : Nat), n < 12 →
    ∃ up : Bool, (up = true ↔ ∃ r ∈ d.sys.raised, r.bit = n ∧ r.stamp < b) ∧
      (d.protectStep b).sys.tripCause.testBit n = ((d.sys.tripCause.testBit n || up) && (d.sys.tripClears.all (fun c => decide (b ≤ c.1)) || up || d.causePresent n)) ∧
      (d.protectStep b).sys.raised = d.sys.raised.filter (fun r => decide (b ≤ r.stamp)) ∧
      (d.protectStep b).sys.tripClears = d.sys.tripClears.filter (fun c => decide (b ≤ c.1)) ∧ (d.protectStep b).sys.mode = d.sys.mode

/-- A low emergency input outside BOOT, a third overrun and a precharge that takes too long raise their causes; an FRT exit or time limit is noted for the boundary, and a
clear request waits for it (R34, R105, R125, R127, R130, R131, R627). -/
def Obligations.ProtectiveEventsRaiseCauses : Prop :=
  (∀ s : State, s.dev.unpowered = false → s.dev.mode ≠ .boot →
    ∃ d, exec .emblkN s = .next { s with dev := d } ∧ ({ s.dev with pins := { s.dev.pins with emblkLow := true } }).onlyCause d ∧ d.causeUp Cause.emergency = true) ∧
  (∀ s : State, s.dev.mode = .boot → exec .emblkN s = .next { s with dev := { s.dev with pins := { s.dev.pins with emblkLow := true } } }) ∧
  (∀ s : State, exec .emblkNRelease s = .next { s with dev := { s.dev with pins := { s.dev.pins with emblkLow := false } } }) ∧
  (∀ s : State, 3 ≤ s.dev.sys.overrunRun →
    ∃ d, exec .overrunBlock s = .next { s with dev := d } ∧ ({ s.dev with sys := { s.dev.sys with overrunRun := 0 } }).onlyCause d ∧ d.causeUp Cause.overrun = true) ∧
  (∀ s : State, s.dev.mode = .precharge → s.dev.prc.stage ≠ 3 → s.dev.prc.stage ≠ 4 → s.dev.prc.entry + s.dev.afld R.CCE_PRC_TIMEOUT 15 0 * secU ≤ s.dev.tmb.up →
    ∃ d, exec .prechargeTimeout s = .next { s with dev := d } ∧ ({ s.dev with prc := { s.dev.prc with stage := 4 } }).onlyCause d ∧ d.causeUp Cause.prechargeTimeout = true) ∧
  (∀ s : State, s.dev.mode = .frt → s.dev.frtOk = true → s.dev.frtN ≤ s.dev.frt.count + 1 →
    exec .frtExit s = .next { s with dev := { s.dev with frt := { s.dev.frt with exitDue := true } } }) ∧
  (∀ s : State, s.dev.mode = .frt → s.dev.frt.entryTime + s.dev.afld R.SYS_FRT_TIMING 31 16 * msU ≤ s.dev.tmb.up →
    exec .frtTimeout s = .next { s with dev := { s.dev with frt := { s.dev.frt with timeout := true } } }) ∧
  (∀ s : State, s.dev.bar0Open R.SYS_TRIP_CTRL 1 = true →
    exec .tripCtrlClear s = .next { s with dev := { s.dev with sys := { s.dev.sys with tripClears := s.dev.sys.tripClears ++ [(s.dev.stampNow, none)] } } })

/-- The boundary latches the snapshot of the epoch that ends, at its SYNC, and with no commit or time adjustment pending the epoch counter goes on by one; a boundary
before the timebase runs has no effect, and the first one ends BOOT (R25, R35, R56, R92, R96). -/
def Obligations.BoundaryEndsTheEpoch : Prop :=
  (∀ (s : State) (late : Bool) (phase : Int), s.dev.unpowered = false → s.dev.tmb.running = true → s.dev.mode ≠ .boot →
    ∃ t, exec (.periodBoundary late phase) s = .next t ∧ t.pending = s.pending ∧ t.held = s.held ∧ t.snap.tmb.epoch = s.dev.tmb.epoch ∧
      t.snap.tmb.now = s.dev.syncAt (s.dev.tmb.epoch + 1) phase ∧ (∀ c ∈ t.snap.sys.tripClears, t.snap.tmb.now ≤ c.1) ∧
      (s.dev.sys.commitReqs = [] → s.dev.tmb.reqs = [] → t.dev.tmb.epoch = s.dev.tmb.epoch + 1)) ∧
  (∀ (s : State) (late : Bool) (phase : Int), s.dev.tmb.running = false → exec (.periodBoundary late phase) s = .next s) ∧
  (∀ (s : State) (late : Bool) (phase : Int), s.dev.unpowered = false → s.dev.tmb.running = true → s.dev.mode = .boot → s.dev.boot.step = 6 →
    ∃ t, exec (.periodBoundary late phase) s = .next t ∧ t.dev.mode = s.dev.bootEndMode ∧ t.dev.boot.step = 7 ∧ t.dev.tmb.epoch = s.dev.tmb.epoch)

-- Measurement and the engines --------------------------------------------------------------------------------------------

/-- A regular conversion advances its entry; once the entry has its conversions the sequence goes on, or ends with its last entry, and before the cut-off of its epoch the
entry has a result; an injected conversion advances the injected sequence; a trigger whose time has come acts ahead of the conversion; at the end of the cycle of the
cut-off, SYNC + Tc/2, entries without a result of the epoch repeat the one before, HELD and not VALID (R67, R372, R375, R377, R380, R382–R384). -/
def Obligations.ConversionsAdvanceTheSequences : Prop :=
  (∀ (s : State) (c e : Nat) (v : Rat), s.dev.coreOn c = true → c < s.dev.adc.cores.length → (s.dev.core c).inj = none → (s.dev.core c).run = some e →
    (s.dev.core c).trig = false ∨ s.dev.tmb.up < (s.dev.core c).startAt → e < (s.dev.core c).done.length →
    ∃ d, exec (.adcConversion c v) s = .next { s with dev := d } ∧ d = { s.dev with adc := d.adc } ∧ (∀ n, n ≠ c → d.core n = s.dev.core n) ∧
      ((s.dev.core c).conv + 1 < s.dev.afld (R.ADC_COREc_REGe c e) 20 16 →
        (d.core c).run = some e ∧ (d.core c).conv = (s.dev.core c).conv + 1 ∧ (d.core c).res = (s.dev.core c).res) ∧
      (s.dev.afld (R.ADC_COREc_REGe c e) 20 16 ≤ (s.dev.core c).conv + 1 →
        (d.core c).run = (if e + 1 < s.dev.regLen c then some (e + 1) else none) ∧ (d.core c).conv = 0 ∧
        ((s.dev.core c).late = false → s.dev.adc.cut = false → nth (d.core c).done e false = true) ∧
        (s.dev.adc.cut = true → (d.core c).res = (s.dev.core c).res))) ∧
  (∀ (s : State) (c e : Nat) (v : Rat), s.dev.coreOn c = true → c < s.dev.adc.cores.length → (s.dev.core c).inj = some e →
    (s.dev.core c).trig = false ∨ s.dev.tmb.up < (s.dev.core c).startAt →
    ∃ d, exec (.adcConversion c v) s = .next { s with dev := d } ∧ d = { s.dev with adc := d.adc } ∧ (d.core c).run = (s.dev.core c).run ∧
      (e + 1 < s.dev.injLen c → (d.core c).inj = some (e + 1) ∧ (d.core c).injSeqs = (s.dev.core c).injSeqs) ∧
      (s.dev.injLen c ≤ e + 1 → (d.core c).inj = none ∧ (d.core c).injSeqs = (s.dev.core c).injSeqs + 1)) ∧
  (∀ (s : State) (c : Nat) (v : Rat), c < 4 →
    ∃ d, exec (.injectedTrigger c) s = .next { s with dev := d } ∧ exec (.adcConversion c v) s = exec (.adcConversion c v) { s with dev := d }) ∧
  (∀ s : State, s.dev.mode ≠ .boot → s.dev.tmb.running = true → s.dev.adc.cut = false → s.dev.adc.cores.length = 4 →
    ∃ d, exec .adcCutoff s = .next { s with dev := d } ∧
      d = { s.dev with adc := d.adc, tmb := { s.dev.tmb with now := d.tmb.now, up := d.tmb.up, age := d.tmb.age }, ptp := { s.dev.ptp with rem := d.ptp.rem } } ∧ d.adc.cut = true ∧
      d.tmb.now = max s.dev.tmb.now (s.dev.tmb.sync + s.dev.tc / 2 + s.dev.advance1.toNat) ∧ s.dev.tmb.up ≤ d.tmb.up ∧
      (∀ c e, d.coreOn c = true → e < 16 → wAt (d.core c).res e =
        if decide (e < s.dev.regLen c) && !(nth (s.dev.core c).done e false) then heldWord (wAt (s.dev.core c).res e) else wAt (s.dev.core c).res e))

/-- A software trigger reaches an enabled core with that trigger, or is counted while one is pending or its sequence runs; it starts the injected sequence at the next
tick, or 0.5 µs later on a core that is powered down, which wakes for it (R381–R384, R387); the warm-up ends 200 µs after it started (R386). -/
def Obligations.TriggersStartInjectedSequences : Prop :=
  (∀ (s : State) (c : Nat), s.dev.bar0Open (R.ADC_COREc_SOFT c) 3 = true → s.dev.afld (R.ADC_COREc_CFG c) 28 24 = 1 → s.dev.coreOn c = true → c < s.dev.adc.cores.length →
    ∃ d, exec (.adcCorecSoft c) s = .next { s with dev := d } ∧ d = { s.dev with adc := d.adc } ∧
      ((s.dev.core c).inj = none → (s.dev.core c).trig = false →
        d.core c = { s.dev.core c with trig := true, startAt := s.dev.tmb.up + (if (s.dev.core c).pd = true then 500 * nsU else s.dev.tickU) }) ∧
      ((s.dev.core c).inj.isSome = true ∨ (s.dev.core c).trig = true → d.core c = { s.dev.core c with injOvr := satAdd 255 (s.dev.core c).injOvr 1 })) ∧
  (∀ (s : State) (c : Nat), s.dev.tmb.up < (s.dev.core c).startAt → exec (.injectedTrigger c) s = .next s) ∧
  (∀ (s : State) (c : Nat), s.dev.coreOn c = true → c < s.dev.adc.cores.length → (s.dev.core c).trig = true → (s.dev.core c).pd = false →
    (s.dev.core c).startAt ≤ s.dev.tmb.up →
    ∃ d, exec (.injectedTrigger c) s = .next { s with dev := d } ∧ d = { s.dev with adc := d.adc } ∧ (d.core c).inj = some 0 ∧ (d.core c).trig = false ∧ (d.core c).conv = 0 ∧
      ((s.dev.core c).run.isSome = true → (d.core c).moved = true)) ∧
  (∀ (s : State) (c : Nat), c < 4 → (s.dev.core c).pd = true →
    ((s.dev.core c).trig = true ∧ (s.dev.core c).startAt ≤ s.dev.tmb.up) ∨ s.dev.grid (s.dev.tmb.epoch + 1) ≤ s.dev.tmb.now + 500 * nsU →
    exec (.adcWake c) s = .next { s with dev := s.dev.setCore c { s.dev.core c with pd := false } }) ∧
  (∀ (s : State) (c t : Nat), c < 4 → (s.dev.core c).warmEnd = some t → t ≤ s.dev.tmb.up →
    exec (.adcWarmUpEnd c) s = .next { s with dev := s.dev.setCore c { s.dev.core c with ready := true, warmEnd := none } })

/-- A sampled-value frame goes to the first stream it matches, any other frame to the host; an ASDU with too few values or a count outside the rate is discarded and
counted, one of a sample time received before is a duplicate (R392–R396). -/
def Obligations.SampledValuesReachTheirStream : Prop :=
  (∀ (s : State) (f : SvFrame) (n sec : Nat) (a : Asdu), s.dev.domOn 6 = true → f.eth.good = true → (etherType f.eth.bytes).1 = 0x88BA → f.asdus = [a] →
    (List.range 16).find? (fun m => s.dev.svMatch f m) = some n → n < s.dev.svi.length →
    sec = sampleSec (s.dev.afld (R.SVI_STRs_RATE n) 16 0) a.smpCnt (s.dev.rxStamp f.eth.port f.eth.cyc) →
    ∃ d, exec (.sampledValueFrame f) s = .next { s with dev := d } ∧ d = { s.dev with svi := d.svi } ∧ (∀ m, m ≠ n → d.stream m = s.dev.stream m) ∧
      (a.vals.length < s.dev.afld (R.SVI_STRs_CFG n) 27 24 ∨ s.dev.afld (R.SVI_STRs_RATE n) 16 0 ≤ a.smpCnt →
        d.stream n = { s.dev.stream n with disc := sat32 (s.dev.stream n).disc 1 }) ∧
      (s.dev.afld (R.SVI_STRs_CFG n) 27 24 ≤ a.vals.length → a.smpCnt < s.dev.afld (R.SVI_STRs_RATE n) 16 0 →
        (if (s.dev.stream n).hasSeen sec a.smpCnt (s.dev.afld (R.SVI_STRs_RATE n) 16 0)
         then d.stream n = { s.dev.stream n with dup := sat32 (s.dev.stream n).dup 1 }
         else (d.stream n).hasSeen sec a.smpCnt (s.dev.afld (R.SVI_STRs_RATE n) 16 0) = true ∧ (d.stream n).disc = (s.dev.stream n).disc ∧
           (d.stream n).dup = (s.dev.stream n).dup))) ∧
  (∀ (s : State) (f : SvFrame), s.dev.domOn 6 = true → (∀ n, n < 16 → s.dev.svMatch f n = false) →
    exec (.sampledValueFrame f) s = .next { s with dev := s.dev.ethRx f.eth })

/-- Conditioning runs once an epoch, when the regular sequences are done or cut off (R377, R410); an input held too long is INVALID, and its sets with it (R401, R404). -/
def Obligations.ConditioningRunsOnceAnEpoch : Prop :=
  (∀ s : State, s.dev.mode ≠ .boot → s.dev.mcd.next = none → (s.dev.adcDone = true ∨ s.dev.adc.cut = true) →
    ∃ d, exec .mcdConditioning s = .next { s with dev := d } ∧ d = { s.dev with mcd := { s.dev.mcd with next := some s.dev.mcdEval }, mbe := d.mbe, pci := d.pci }) ∧
  (∀ s : State, s.dev.mcd.next.isSome = true → exec .mcdConditioning s = .next s) ∧
  (∀ (s : State) (m : Nat), m < 24 → m < s.dev.mcdNow.ins.length → s.dev.afld R.MCD_TIMING 15 0 ≤ (nth s.dev.mcdNow.ins m {}).hold →
    ∃ d, exec (.inputInvalid m) s = .next { s with dev := d } ∧ d = { s.dev with mcd := d.mcd, pci := d.pci } ∧ (nth d.mcdNow.ins m {}).invalid = true ∧
      (∀ n, n ≠ m → nth d.mcdNow.ins n {} = nth s.dev.mcdNow.ins n {}) ∧ (∀ i, wAt d.mcdNow.q i = wAt s.dev.mcdNow.q i) ∧
      (∀ i, i < 6 → s.dev.setOn i = true → (s.dev.setInputs i).contains m = true → nth d.mcdNow.inv i false = true))

/-- The Terord engine steps once an epoch behind conditioning: on the normal path and every enabled branch in an energized mode, on the normal path alone in another
(R138, R224, R231); the converter control engine follows it, once the ledgers are complete, on the same paths (R183, R235). -/
def Obligations.EnginesStepOnceAnEpoch : Prop :=
  (∀ s : State, s.dev.mode ≠ .boot → s.dev.mcd.next.isSome = true → nth s.dev.rae.paths 0 none = none →
    ∃ d, exec (.gfeStep none) s = .next { s with dev := d } ∧ d = { s.dev with rae := { s.dev.rae with paths := d.rae.paths, front := d.rae.front } } ∧
      (∀ p, p < 5 → (nth d.rae.paths p none).isSome = (p == 0 || (s.dev.mode.energized && s.dev.brEn.testBit (p - 1)))) ∧ d.rae.front = nth d.rae.paths 0 none) ∧
  (∀ s : State, s.dev.mode ≠ .boot → (∀ n, n < 6 → (nth s.dev.mbe.arms n {}).complete = true) → s.dev.rae.front.isSome = true →
    ∃ d, exec (.cceStep none) s = .next { s with dev := d } ∧ d.rae.front = none ∧ d.mbe = s.dev.mbe ∧ d.gc = s.dev.gc ∧ d.tmb = s.dev.tmb ∧
      (∀ p, p < 5 → (nth d.rae.paths p none).isSome = (nth s.dev.rae.paths p none).isSome) ∧
      (∀ p, p < 5 → (nth d.rae.paths p none).map Path.g = (nth s.dev.rae.paths p none).map Path.g))

/-- The selection point takes the fired branch of highest priority of the enabled ones, C1, C0, C3, C2, and the normal path when none fired (R237). -/
def Obligations.SelectionFollowsThePriority : Prop :=
  ∀ s : State, s.dev.mode ≠ .boot → (nth s.dev.rae.paths 0 none).isSome = true → s.dev.rae.front = none → s.dev.rae.selected = false →
    ∃ d, exec .branchSelection s = .next { s with dev := d } ∧ d.rae.selected = true ∧ d.rae.fired = s.dev.firedMap ∧ d.rae.paths = s.dev.rae.paths ∧
      d.rae.sel = (if s.dev.firedMap.testBit 1 && s.dev.brEn.testBit 1 then 2 else if s.dev.firedMap.testBit 0 && s.dev.brEn.testBit 0 then 1
        else if s.dev.firedMap.testBit 3 && s.dev.brEn.testBit 3 then 4 else if s.dev.firedMap.testBit 2 && s.dev.brEn.testBit 2 then 3 else 0) ∧
      d.gc = s.dev.gc ∧ d.mbe = s.dev.mbe ∧ d.sys = s.dev.sys ∧ d.tmb = s.dev.tmb

/-- Modulation gives every arm its commands for the next period, behind the selection and the ledgers (R32, R268): all blocked in a blocked mode (R271). -/
def Obligations.ModulationCommandsEveryArm : Prop :=
  ∀ s : State, s.dev.mode ≠ .boot → s.dev.rae.selected = true → (∀ n, n < 6 → (nth s.dev.mbe.arms n {}).complete = true) → s.dev.mbe.next = none →
    ∃ d arms, exec (.modulate none) s = .next { s with dev := d } ∧ d.mbe = { s.dev.mbe with next := some arms } ∧ arms.length = 6 ∧ d.gc = s.dev.gc ∧ d.tmb = s.dev.tmb ∧
      (s.dev.mode.blocked = true → ∀ n, n < 6 → (∀ c ∈ (nth arms n {}).cells, c.gone = false → c.cmd = {})) ∧
      (∀ n, n < 6 → ((nth arms n {}).cells.map Cell.addr) = ((nth s.dev.mbe.arms n {}).cells.map Cell.addr))

/-- Resynchronization in step, the clamp count of a temporary block, and its end with a deblock preset (R173, R200–R202). An error in an engine's own reads: a single-bit
one is counted by the jobs whose range holds the word, the first uncorrectable one of the epoch makes it an overrun and raises one event (R33, R571); which subsystem and
register that event names is the model's choice (log 77). -/
def Obligations.EngineConditionsTakeEffect : Prop :=
  (∀ s : State, s.dev.mode = .gfIsland → s.dev.abit R.GFE_RESYNC_CTRL 0 = true → s.dev.gc.g.rsState = 1 →
    qdiv ((s.dev.afld R.GFE_RESYNC_CFG 15 0 : Rat) / 1000) s.dev.tcs ≤ (s.dev.gc.g.rsHold : Rat) →
    exec .resyncInStep s = .next { s with dev := { s.dev with gc := { s.dev.gc with g := { s.dev.gc.g with rsState := 2 } } } }) ∧
  (∀ s : State, s.dev.mode = .frt → s.dev.frt.causeDc = true → s.dev.afld R.CCE_CTRL 13 12 = 1 → s.dev.afld R.CCE_DCF_TIMING 7 0 ≤ s.dev.gc.c.clampRun →
    exec .temporaryBlockClampCount s = .next { s with dev := { s.dev with gc := { s.dev.gc with c := { s.dev.gc.c with tblk := true, armLim := 63 } } } }) ∧
  (∀ s : State, s.dev.gc.c.tblk = true → qdiv ((s.dev.afld R.CCE_DCF_TIMING 31 16 : Rat) / 1000000) s.dev.tcs ≤ (s.dev.gc.c.tblkRun : Rat) →
    ∃ d, exec .temporaryBlockEnd s = .next { s with dev := d } ∧ d = { s.dev with gc := d.gc } ∧ d.gc.c.tblk = false ∧ d.gc.c.preset = 1 ∧ d.gc.g = s.dev.gc.g) ∧
  (∀ (d : Dev) (n : Nat) (e : ReadErr), d.unpowered = false → d.mode ≠ .boot →
    (e.single = true → d.engineRead n (some e) = { d with jobs := (d.engineRead n (some e)).jobs } ∧
      (∀ j, j < 8 → ((d.engineRead n (some e)).job j).corrected = (if d.jobHolds j e.space e.addr then sat16 (d.job j).corrected 1 else (d.job j).corrected))) ∧
    (e.single = false → (d.engineRead n (some e)).sys.engineErr = true ∧ (d.engineRead n (some e)).jobs = d.jobs ∧
      (d.lanesRun = true → ∀ late, (d.engineRead n (some e)).isOverrun late = true) ∧
      (d.sys.engineErr = true → (d.engineRead n (some e)).pci = d.pci) ∧ (d.sys.engineErr = false → (d.engineRead n (some e)).pci.evq.length = d.pci.evq.length + 1))) ∧
  (∀ (s : State) (e : ReadErr), exec (.gfeStep (some e)) s = exec (.gfeStep none) { s with dev := s.dev.engineRead Sub.gfe (some e) } ∧
    exec (.cceStep (some e)) s = exec (.cceStep none) { s with dev := s.dev.engineRead Sub.cce (some e) } ∧
    exec (.modulate (some e)) s = exec (.modulate none) { s with dev := s.dev.engineRead Sub.mbe (some e) })

/-- A loop slot that is due takes its evaluation into the results of the epoch, or holds with SRC_INVALID when a source is invalid, and the outputs of other slots stay; a
pulse input takes its level, and one without a start edge for its time-out is invalid (R209–R213). -/
def Obligations.LoopsAndPulseInputsEvaluate : Prop :=
  (∀ (s : State) (n : Nat), n < 64 → s.dev.lpe.next.length = 64 → s.dev.mode ≠ .boot → (nth s.dev.lpe.slots n {}).on = true →
    s.dev.tmb.epoch % fld (s.dev.act (R.LPE_SLOTn_CTRL n)) 9 0 = 0 →
    ∃ d, exec (.lpeEvaluation n) s = .next { s with dev := d } ∧
      d = { s.dev with lpe := { s.dev.lpe with next := setAt s.dev.lpe.next n (nth d.lpe.next n {}) } } ∧
      ((s.dev.lpeSource n (fld (s.dev.act (R.LPE_SLOTn_SRC n)) 31 16) = none ∨ s.dev.lpeSource n (fld (s.dev.act (R.LPE_SLOTn_SRC n)) 15 0) = none) →
        (nth d.lpe.next n {}).srcInvalid = true ∧ (nth d.lpe.next n {}).u = (nth s.dev.lpe.slots n {}).u ∧ (nth d.lpe.next n {}).i = (nth s.dev.lpe.slots n {}).i) ∧
      (∀ x y, s.dev.lpeSource n (fld (s.dev.act (R.LPE_SLOTn_SRC n)) 31 16) = some x → s.dev.lpeSource n (fld (s.dev.act (R.LPE_SLOTn_SRC n)) 15 0) = some y →
        (nth d.lpe.next n {}).srcInvalid = false ∧ (nth d.lpe.next n {}).first = false)) ∧
  (∀ (s : State) (n : Nat) (level : Bool), n < 8 → n < s.dev.lpe.pulses.length →
    ∃ d, exec (.pulseEdge n level) s = .next { s with dev := d } ∧ d = { s.dev with lpe := { s.dev.lpe with pulses := d.lpe.pulses }, adc := d.adc } ∧
      (nth d.lpe.pulses n {}).level = level ∧ (∀ m, m ≠ n → nth d.lpe.pulses m {} = nth s.dev.lpe.pulses m {}) ∧
      (level = (nth s.dev.lpe.pulses n {}).level → d = s.dev)) ∧
  (∀ (s : State) (n t : Nat), n < 8 → n < s.dev.lpe.pulses.length → s.dev.abit (R.LPE_PIn_CFG n) 0 = true → (nth s.dev.lpe.pulses n {}).startAt = some t →
    t + s.dev.afld (R.LPE_PIn_CFG n) 31 16 * 200000 ≤ s.dev.tmb.up / (5 * nsU) →
    ∃ d, exec (.pulseTimeout n) s = .next { s with dev := d } ∧ d = { s.dev with lpe := { s.dev.lpe with pulses := d.lpe.pulses } } ∧
      (nth d.lpe.pulses n {}).valid = false ∧ (nth d.lpe.pulses n {}).timedOut = true)

-- The submodule network --------------------------------------------------------------------------------------------------

/-- A report accepted in its slot gives its node a status, or a measured value, of the epoch; one of no scheduled node, or with a bad CRC, is discarded and counted; the
cut-off closes its lane at the end of its tick and counts what is missing; a node that has missed three reports is LOST in its ledger, or, for a measurement node, in the node table
(R259, R305, R309, R317, R319, R335, R337). -/
def Obligations.ReportsReachTheNode : Prop :=
  (∀ (s : State) (lane slot addr : Nat) (b : Dword) (e : NodeEnt), lane < 12 → s.dev.lanesRun = true → s.dev.laneOn lane = true → (nth s.dev.ikl.lanes lane {}).lock = true →
    slotNode s.dev.ikl.nodes lane slot s.dev.tmb.epoch = some (addr, e) → (nth s.dev.ikl.lanes lane {}).cut = false → e.valueEpoch ≠ some s.dev.tmb.epoch → crcOk b = true →
    bfld b 63 51 = addr → bfld b 18 16 = s.dev.tmb.epoch % 8 →
    ∃ d x, exec (.report lane slot b) s = .next { s with dev := d } ∧ findNode d.ikl.nodes addr = some x ∧ x.valueEpoch = some s.dev.tmb.epoch ∧ d.tmb = s.dev.tmb ∧
      d.sys.mode = s.dev.sys.mode ∧ (e.sm = true → x.status = bfld b 34 19) ∧ (e.sm = false → x.value = signed 31 (bfld b 50 20) ∧ x.missedRun = 0 ∧ x.adm = 1)) ∧
  (∀ (s : State) (lane slot : Nat) (b : Dword), lane < 12 → s.dev.lanesRun = true → s.dev.laneOn lane = true → (nth s.dev.ikl.lanes lane {}).lock = true →
    s.dev.mode ≠ .precharge → slotNode s.dev.ikl.nodes lane slot s.dev.tmb.epoch = none →
    exec (.report lane slot b) s = .next { s with dev := s.dev.modLane lane (fun l => { l with crcErr := sat16 l.crcErr 1 }) }) ∧
  (∀ (s : State) (lane slot addr : Nat) (b : Dword) (e : NodeEnt), lane < 12 → s.dev.lanesRun = true → s.dev.laneOn lane = true → (nth s.dev.ikl.lanes lane {}).lock = true →
    s.dev.mode ≠ .precharge → slotNode s.dev.ikl.nodes lane slot s.dev.tmb.epoch = some (addr, e) → crcOk b = false →
    exec (.report lane slot b) s = .next { s with dev := s.dev.modLane lane (fun l => { l with crcErr := sat16 l.crcErr 1 }) }) ∧
  (∀ (s : State) (lane : Nat), lane < 12 → lane < s.dev.ikl.lanes.length → s.dev.mode ≠ .boot → s.dev.tmb.running = true → s.dev.lanesRun = true → s.dev.laneOn lane = true →
    (nth s.dev.ikl.lanes lane {}).cut = false →
    ∃ d, exec (.reportCutoff lane) s = .next { s with dev := d } ∧ (nth d.ikl.lanes lane {}).cut = true ∧
      (nth d.ikl.lanes lane {}).missed =
        (s.dev.ikl.nodes.filter (fun p => p.2.lane == lane && p.2.adm != 0 && p.2.dueIn s.dev.tmb.epoch && p.2.valueEpoch != some s.dev.tmb.epoch)).length ∧
      d.tmb.now = max s.dev.tmb.now (s.dev.tmb.sync + (nth s.dev.ikl.lanes lane {}).cutTicks * 5 * nsU + s.dev.advance1.toNat) ∧ d.tmb.epoch = s.dev.tmb.epoch) ∧
  (∀ (s : State) (addr : Nat) (e : NodeEnt) (c : Cell), findNode s.dev.ikl.nodes addr = some e → e.sm = true → s.dev.cell e.arm addr = some c → 3 ≤ c.missed → c.got = none →
    c.gone = false →
    ∃ d, exec (.nodeLost addr) s = .next { s with dev := d } ∧ d = { s.dev with mbe := d.mbe } ∧ d.cell e.arm addr = some { c with st := 3 }) ∧
  (∀ (s : State) (addr : Nat) (e : NodeEnt), findNode s.dev.ikl.nodes addr = some e → e.sm = false → 3 ≤ e.missedRun → e.adm = 1 →
    ∃ d, exec (.nodeLost addr) s = .next { s with dev := d } ∧ d = { s.dev with ikl := { s.dev.ikl with nodes := d.ikl.nodes } } ∧
      findNode d.ikl.nodes addr = some { e with adm := 2 })

/-- What a lane receives beside reports: fault flashes join the fault map, block lock comes and goes and its losses are counted, unknown control blocks are discarded and
counted; the same on the mirror lanes; the receivers of a node gain and lose block lock, a loss flashing COMM (R294, R295, R320, R338, R353). -/
def Obligations.LanesReceive : Prop :=
  (∀ (s : State) (lane : Nat) (b : Dword), lane < 12 → s.dev.lanesRun = true → s.dev.laneOn lane = true → (nth s.dev.ikl.lanes lane {}).lock = true →
    ∃ d, exec (.faultFlash lane b) s = .next { s with dev := d } ∧ d = { s.dev with ikl := d.ikl } ∧
      (blockType b = 0x66 → crcOk b = true → d.ikl.map = s.dev.ikl.map ||| bfld b 55 20 ∧ d.ikl.flash = s.dev.ikl.flash ||| 2 ^ lane ∧ d.ikl.lanes = s.dev.ikl.lanes) ∧
      (¬(blockType b = 0x66 ∧ crcOk b = true) → d = s.dev.modLane lane (fun l => { l with crcErr := sat16 l.crcErr 1 }))) ∧
  (∀ (s : State) (lane : Nat), s.dev.lanesRun = true → s.dev.laneOn lane = true →
    exec (.blockLock lane) s = .next { s with dev := s.dev.modLane lane (fun l => { l with lock := true }) }) ∧
  (∀ (s : State) (n r : Nat), r < 4 → (s.dev.node n).ports.length = 2 → (s.dev.node n).down.length = 2 →
    (∃ x, exec (.blockLock (14 + 4 * n + r)) s = .next { s with dev := s.dev.setNode n x } ∧ x.locked r = true ∧ (∀ q, q ≠ r → x.locked q = (s.dev.node n).locked q)) ∧
    (∃ x, exec (.blockLockLoss (14 + 4 * n + r)) s = .next { s with dev := s.dev.setNode n x } ∧ x.locked r = false ∧
      ((s.dev.node n).locked r = true → x.lockLosses = sat16 (s.dev.node n).lockLosses 1 ∧
        (x.admitted = true → x.ident.arm ≤ 5 → x.flash = (s.dev.node n).flash ||| 2 ^ (18 + x.ident.arm))) ∧
      ((s.dev.node n).locked r = false → x = s.dev.node n))) ∧
  (∀ (s : State) (n : Nat), n < 2 → s.dev.lanesRun = true → s.dev.domOn 14 = true → s.dev.abit R.RDN_MIR_EN n = true →
    exec (.blockLock (12 + n)) s = .next { s with dev := { s.dev with rdn := { s.dev.rdn with mirLock := setAt s.dev.rdn.mirLock n true } } }) ∧
  (∀ (s : State) (lane : Nat), lane < 12 → (nth s.dev.ikl.lanes lane {}).lock = true →
    exec (.blockLockLoss lane) s = .next { s with dev := s.dev.modLane lane (fun l => { l with lock := false, lostNow := true, lockLoss := sat16 l.lockLoss 1 }) }) ∧
  (∀ (s : State) (n : Nat), n < 2 →
    ∃ d, exec (.blockLockLoss (12 + n)) s = .next { s with dev := d } ∧ d = { s.dev with rdn := d.rdn } ∧ d.rdn.mirLock = setAt s.dev.rdn.mirLock n false ∧
      d.rdn.role = s.dev.rdn.role) ∧
  (∀ (s : State) (lane : Nat) (b : Dword), lane < 12 → s.dev.lanesRun = true → s.dev.laneOn lane = true → (nth s.dev.ikl.lanes lane {}).lock = true →
    laneTypes.contains (blockType b) = false →
    exec (.codeError lane b) s = .next { s with dev := s.dev.modLane lane (fun l => { l with crcErr := sat16 l.crcErr 1 }) }) ∧
  (∀ (s : State) (n : Nat) (b : Dword), n < 2 → s.dev.mirOk n = true → mirrorTypes.contains (blockType b) = false →
    exec (.codeError (12 + n) b) s = .next { s with dev := { s.dev with rdn := { s.dev.rdn with mirErr := modAt s.dev.rdn.mirErr n (fun x => sat16 x 1) } } })

/-- A management request of software waits for the boundary, one more while it is pending is BUSY; the response of its tag completes it, also one that comes as its wait
ends, and the end of the period after the response time ends it without one (R67, R327). -/
def Obligations.ManagementRequests : Prop :=
  (∀ s : State, s.dev.bar0Open R.IKL_MGMT_GO 3 = true →
    ∃ d, exec .mgmtGo s = .next { s with dev := d } ∧ d = { s.dev with ikl := { s.dev.ikl with mgmt := d.ikl.mgmt } } ∧
      (s.dev.ikl.mgmt.pending = false → d.ikl.mgmt = { s.dev.ikl.mgmt with pending := true, result := 1, frame := none, sent := none, ended := none, level := s.dev.level none }) ∧
      (s.dev.ikl.mgmt.pending = true → d.ikl.mgmt = { s.dev.ikl.mgmt with result := 5 })) ∧
  (∀ (s : State) (lane : Nat) (bs : List Dword) (f : MFrame), parseFrame bs = some f → s.dev.laneOn lane = true → f.tag = s.dev.ikl.mgmt.tag → 0x80 ≤ f.opcode →
    (s.dev.ikl.mgmt.pending = true ∧ s.dev.ikl.mgmt.sent ≠ none) ∨ (s.dev.ikl.mgmt.result = 3 ∧ ∃ t, s.dev.ikl.mgmt.ended = some t ∧ s.dev.tmb.now ≤ t) →
    exec (.mgmtResponse lane bs) s = .next { s with dev := { s.dev with ikl := { s.dev.ikl with mgmt := { s.dev.ikl.mgmt with
      pending := false, frame := none, sent := none, ended := none, result := 2, rlen := f.data.length, rnode := f.target % 2 ^ 13, resp := f.data.flatMap (fun b => [hi32 b.toNat, lo32 b.toNat]) } } } }) ∧
  (∀ (s : State) (k : Nat), s.dev.ikl.mgmt.sent = some k → s.dev.ikl.mgmt.pending = true → k + 2 ≤ s.dev.tmb.epoch →
    exec .noResponse s = .next { s with dev := { s.dev with ikl := { s.dev.ikl with mgmt := { s.dev.ikl.mgmt with
      pending := false, result := 3, frame := none, sent := none, ended := some (s.dev.tmb.sync + s.dev.tc) } } } })

/-- A full discovery starts in STANDBY and probes depth 1 of every enabled lane, a scan is taken up by the boundary, and outside their modes the write is a MODE fault;
the identity a probed port answers with is noted and its downstream ports are probed, a further echo raises the measured round trip, and a port without an answer by the
end of its wait is empty (R67, R329, R330, R543). -/
def Obligations.DiscoveryProbesThePorts : Prop :=
  (∀ s : State, s.dev.bar0Open R.IKL_DISC 3 = true → s.dev.mode = .standby →
    ∃ d, exec .rebuild s = .next { s with dev := d } ∧ d = { s.dev with ikl := d.ikl } ∧ d.ikl.disc = 1 ∧ d.ikl.done = [] ∧ d.ikl.ovf = [] ∧ d.ikl.nodes = s.dev.ikl.nodes ∧
      (∀ n, s.dev.laneOn n = true → ({ lane := n, depth := 1, route := 0 } : Probe) ∈ d.ikl.probes)) ∧
  (∀ s : State, s.dev.bar0Open R.IKL_DISC 3 = true → s.dev.mode ≠ .standby →
    ∃ d, exec .rebuild s = .next { s with dev := d } ∧ s.dev.onlyFault d ∧ d.apu.ofs = R.IKL_DISC) ∧
  (∀ s : State, s.dev.bar0Open R.IKL_DISC 3 = true → s.dev.scanMode = true → s.dev.ikl.disc = 0 →
    exec .scan s = .next { s with dev := { s.dev with ikl := { s.dev.ikl with scanReq := true } } }) ∧
  (∀ s : State, s.dev.bar0Open R.IKL_DISC 3 = true → s.dev.scanMode = false →
    ∃ d, exec .scan s = .next { s with dev := d } ∧ s.dev.onlyFault d ∧ d.apu.ofs = R.IKL_DISC) ∧
  (∀ s : State, s.dev.abit R.IKL_CTRL 4 = true → s.dev.scanMode = true → s.dev.ikl.disc = 0 → s.dev.ikl.lastScan + s.dev.afld R.IKL_SCAN 15 0 * msU ≤ s.dev.tmb.up →
    exec .scanInterval s = .next { s with dev := { s.dev with ikl := { s.dev.ikl with scanReq := true, lastScan := s.dev.tmb.up } } }) ∧
  (∀ (s : State) (lane depth route rtt : Nat) (bs : List Dword) (p : Probe) (m : MFrame) (i : Ident),
    outstanding s.dev.ikl.probes lane depth route = some p → parseFrame bs = some m → p.answered m.tag s.dev.tmb.now = true → p.ident = none → p.own = none → m.opcode = 0x81 → parseIdent m.data = some i → depth < 16 →
    s.dev.ikl.disc ≠ 2 →
    ∃ d, exec (.discoveryResponse lane depth route rtt bs) s = .next { s with dev := d } ∧ d = { s.dev with ikl := { s.dev.ikl with probes := d.ikl.probes } } ∧
      d.ikl.probes = s.dev.ikl.probes.map (fun x => if x.isAt lane depth route then { p with sent := none, ended := none, ident := some i, echoes := s.dev.afld R.IKL_SCAN 31 16 }
        else x) ++
        (List.range i.downs).map (fun k => { lane := lane, depth := depth + 1, route := route + k * 2 ^ (depth - 1) })) ∧
  (∀ (s : State) (lane depth route rtt : Nat) (bs : List Dword) (p : Probe) (m : MFrame),
    outstanding s.dev.ikl.probes lane depth route = some p → parseFrame bs = some m → p.answered m.tag s.dev.tmb.now = true → p.ident.isSome = true → m.opcode = 0x82 → 2 ≤ p.echoes →
    ∃ d, exec (.discoveryResponse lane depth route rtt bs) s = .next { s with dev := d } ∧ d = { s.dev with ikl := { s.dev.ikl with probes := d.ikl.probes } } ∧
      d.ikl.probes = s.dev.ikl.probes.map (fun x => if x.isAt lane depth route then { p with sent := none, ended := none, echoes := p.echoes - 1, rtt := max p.rtt rtt } else x)) ∧
  (∀ (s : State) (lane depth route k : Nat) (p : Probe), outstanding s.dev.ikl.probes lane depth route = some p → p.sent = some k → k + 2 ≤ s.dev.tmb.epoch → p.ended = none →
    exec (.discoveryProbeTimeout lane depth route) s = .next { s with dev := { s.dev with ikl := { s.dev.ikl with
      probes := s.dev.ikl.probes.map (fun x => if x.isAt lane depth route then { x with ended := some (s.dev.tmb.sync + s.dev.tc) } else x) } } }) ∧
  (∀ (d : Dev) (p : Probe) (t : Nat), p.ended = some t → t < d.tmb.now → p ∉ d.probeStep.ikl.probes)

/-- Node commands: a release leaves four epochs later and is told to the node, a lost or bypassed node asked back is probed on its route, and the overflow table is
emptied at the boundary (R332, R334). -/
def Obligations.NodeTableCommands : Prop :=
  (∀ (s : State) (addr : Nat) (e : NodeEnt), s.dev.bar0Open R.IKL_NODE_CMD 1 = true → findNode s.dev.ikl.nodes (addr % 8192) = some e → e.adm ≠ 0 → e.rel = none →
    ∃ d, exec (.nodeCmdRelease addr) s = .next { s with dev := d } ∧ d = { s.dev with ikl := { s.dev.ikl with nodes := d.ikl.nodes, queue := d.ikl.queue } } ∧
      findNode d.ikl.nodes (addr % 8192) = some { e with rel := some (s.dev.tmb.epoch + 4) } ∧
      d.ikl.queue = s.dev.ikl.queue ++ [(e.lane, e.request 0x05 [BitVec.ofNat 64 (put 47 32 (s.dev.tmb.epoch + 4))])]) ∧
  (∀ (s : State) (addr : Nat) (e : NodeEnt), s.dev.bar0Open R.IKL_NODE_CMD 1 = true → findNode s.dev.ikl.nodes (addr % 8192) = some e → s.dev.readmits (addr % 8192) e = true →
    (∀ p ∈ s.dev.ikl.probes, p.own ≠ some (addr % 8192)) → e.redo = none →
    exec (.nodeCmdReadmit addr) s = .next { s with dev := { s.dev with ikl := { s.dev.ikl with
      probes := s.dev.ikl.probes ++ [{ lane := e.lane, depth := e.depth, route := e.route, own := some (addr % 8192) }] } } }) ∧
  (∀ s : State, s.dev.bar0Open R.IKL_OVF_CLEAR 3 = true →
    exec .ovfClear s = .next { s with dev := { s.dev with ikl := { s.dev.ikl with ovfClear := true } } })

/-- A node takes what it receives on a port in block lock: a SYNC moves its period on and tells the claim of its side, a frame's command waits for its SYNC, an emergency
block drops the commands of its port, and each goes on to the downstream ports of the side; a block of a downstream port tells the side, joins the flash or goes upstream.
Without block lock nothing is received. By itself, SYNC loss opens every leg, the wait of the clearing ends with its period, and a cell failure and the other conditions are
kept for the report and flashed by an admitted node (R295, R298, R306, R315, R318, R320, R322, R324, R328, R340, R350). -/
def Obligations.NodesReceiveAndAct : Prop :=
  (∀ (s : State) (n p : Nat) (b : Dword), p < 2 → p < (s.dev.node n).ports.length → ((s.dev.node n).port p).lock = true → blockType b = 0x2D → crcOk b = true →
    ∃ v t x, exec (.nodeSync n p b) s = .next { s with dev := s.dev.tookFree.setNode n x } ∧
      x = ((s.dev.node n).onSync p (bfld b 55 40) (bfld b 39 24) (bfld b 23 17) s.dev.tmb.up v t).forward p [b] ∧
      (x.port p).syncSeq = some (bfld b 55 40) ∧ (x.port p).claim = bfld b 39 24 ∧ (x.port p).syncAt = s.dev.tmb.up - bfld b 23 17 * 5 * 2 ^ 36 ∧ (x.port p).eblk = false ∧
      ((x.port p).admitted = true → x.lastValid = some s.dev.tmb.up ∧ (x.seq = some (bfld b 55 40) ∨ ∃ w, x.waitFor = some w ∧ w.seq = bfld b 55 40))) ∧
  (∀ (s : State) (n p : Nat) (b : Dword), p < 2 → ((s.dev.node n).port p).lock = true → ¬(blockType b = 0x2D ∧ crcOk b = true) →
    exec (.nodeSync n p b) s = .next { s with dev := s.dev.setNode n (((s.dev.node n).forward p [b]).modPort p (fun q => { q with crcErr := sat16 q.crcErr 1 })) }) ∧
  (∀ (s : State) (n p : Nat) (bs : List Dword) (c : NodeCmd), p < 2 → ((s.dev.node n).port p).lock = true → ((s.dev.node n).port p).admitted = true → (s.dev.node n).sm = true →
    readFrame (s.dev.node n).ident.addr (s.dev.node n).ident.arm ((s.dev.node n).port p).cslot bs = some c →
    (c.claim ≠ 0 → ((s.dev.node n).port p).eblk = false → ((s.dev.node n).port p).pending.map (·.seq) ≠ some c.seq →
      exec (.nodeCmdFrame n p bs) s = .next { s with dev := s.dev.setNode n (((s.dev.node n).forward p bs).modPort p (fun z => { z with pending := some c })) }) ∧
    (c.claim = 0 ∨ ((s.dev.node n).port p).eblk = true → exec (.nodeCmdFrame n p bs) s = .next { s with dev := s.dev.setNode n ((s.dev.node n).forward p bs) })) ∧
  (∀ (s : State) (n p : Nat) (b : Dword), p < 2 → p < (s.dev.node n).ports.length → ((s.dev.node n).port p).lock = true → blockType b = 0x33 → crcOk b = true →
    ∃ x, exec (.nodeEblk n p b) s = .next { s with dev := s.dev.setNode n x } ∧ (x.port p).pending = none ∧ (x.port p).current = none ∧ (x.port p).eblk = true ∧
      (x.port p).claim = 0 ∧ (∀ w, x.waitFor = some w → nth w.cmds p none = none) ∧
      ((x.port (1 - p)).current = none → ((s.dev.node n).port p).admitted = true → (s.dev.node n).follows = true → (s.dev.node n).src = p → x.legs = {} ∧ x.follows = false)) ∧
  (∀ (s : State) (n p : Nat) (b : Dword) (bs : List Dword) (c : Instr), p < 2 → ((s.dev.node n).port p).lock = false →
    c ∈ [Instr.nodeSync n p b, .nodeCmdFrame n p bs, .nodeEblk n p b, .ident n p bs, .echo n p bs, .portCfg n p bs, .admitNode n p bs, .release n p bs, .status n p bs,
      .portReset n p bs, .setIdent n p bs] → exec c s = .next s) ∧
  (∀ (s : State) (n i slot : Nat) (control : Bool) (b : Dword) (y : DownPort), i < 2 → i < (s.dev.node n).ident.downs → (s.dev.node n).down[i]? = some y → y.lock = true →
    ∃ x, exec (.nodeFlt n ⟨i, slot, control, b⟩) s = .next { s with dev := s.dev.setNode n x } ∧
      (control = true → blockType b = 0x1E → x.down[i]? = some { y with side := some (bfld b 55 55) }) ∧
      (control = true → blockType b = 0x66 → crcOk b = true → (s.dev.node n).admitted = true → x = { s.dev.node n with flash := (s.dev.node n).flash ||| bfld b 55 20 }) ∧
      (control = true → blockType b = 0x66 → crcOk b = false → (s.dev.node n).admitted = true → (s.dev.node n).ident.arm ≤ 5 →
        x = { s.dev.node n with flash := (s.dev.node n).flash ||| 2 ^ (18 + (s.dev.node n).ident.arm) }) ∧
      (∀ p, control = false → y.side = some p → p < (s.dev.node n).ports.length → (∀ z ∈ ((s.dev.node n).port p).line, z.1 ≠ slot) → x.blockAt p slot = b)) ∧
  (∀ (s : State) (n i slot : Nat) (control : Bool) (b : Dword), i < 2 → (nth (s.dev.node n).down i {}).lock = false ∨ (s.dev.node n).ident.downs ≤ i →
    exec (.nodeFlt n ⟨i, slot, control, b⟩) s = .next { s with dev := s.dev.setNode n (s.dev.node n) }) ∧
  (∀ (s : State) (n t : Nat), (s.dev.node n).lastValid = some t → (s.dev.node n).admitted = true →
    t + 2 * (max (if ((s.dev.node n).port 0).admitted then ((s.dev.node n).port 0).tc else 0) (if ((s.dev.node n).port 1).admitted then ((s.dev.node n).port 1).tc else 0)) * rootU
      + 250 * nsU ≤ s.dev.tmb.up →
    ∃ x, x = { s.dev.node n with legs := {}, on := 0, off := 0, follows := false, syncLost := true, lost := true, waitFor := none } ∧
      exec (.nodeSyncLoss n) s = .next { s with dev := s.dev.setNode n x }) ∧
  (∀ (s : State) (n : Nat) (w : NodeWait), (s.dev.node n).waitFor = some w → w.till ≤ s.dev.tmb.up →
    ∃ x, exec (.nodeClearingWait n) s = .next { s with dev := s.dev.tookFree.setNode n x } ∧ x.waitFor = none ∧ x.seq = some w.seq ∧ x.ident = (s.dev.node n).ident ∧
      (nth w.cmds w.first none = none → x.follows = false ∧ x.missRun = (s.dev.node n).missRun + 1) ∧
      (∀ c, nth w.cmds w.first none = some c → x.follows = true ∧ x.src = w.first ∧ x.missRun = 0)) ∧
  (∀ (s : State) (n : Nat), (s.dev.node n).waitFor = none → exec (.nodeClearingWait n) s = .next { s with dev := s.dev.tookFree.setNode n (s.dev.node n) }) ∧
  (∀ (s : State) (n : Nat),
    ∃ x, exec (.nodeCellFailure n) s = .next { s with dev := s.dev.setNode n x } ∧ x = { s.dev.node n with fault := true, flash := x.flash } ∧
      ((s.dev.node n).fault = true ∨ (s.dev.node n).admitted = false → x.flash = (s.dev.node n).flash) ∧
      ((s.dev.node n).fault = false → (s.dev.node n).admitted = true → (s.dev.node n).ident.arm ≤ 5 → x.flash = (s.dev.node n).flash ||| 2 ^ (s.dev.node n).ident.arm)) ∧
  (∀ (s : State) (n : Nat) (c : NodeFlag × Nat), c ∈ [(NodeFlag.overvolt, 1), (.desat, 2), (.rx11, 4), (.alarm, 5)] →
    ∃ x, exec (.flashCondition n c.1) s = .next { s with dev := s.dev.setNode n x } ∧
      x = { s.dev.node n with overvolt := x.overvolt, rx11 := x.rx11, alarm := x.alarm, flash := x.flash } ∧
      (c.1 = .overvolt → x.overvolt = true) ∧ (c.1 = .rx11 → x.rx11 = true) ∧ (c.1 = .alarm → x.alarm = true) ∧
      ((s.dev.node n).admitted = true → (s.dev.node n).ident.arm ≤ 5 → x.flash = (s.dev.node n).flash ||| 2 ^ (6 * c.2 + (s.dev.node n).ident.arm)) ∧
      ((s.dev.node n).admitted = false → x.flash = (s.dev.node n).flash)) ∧
  (∀ (s : State) (n r : Nat), r < 4 → (s.dev.node n).locked r = true →
    ∃ x, exec (.flashCondition n (.comm r)) s = .next { s with dev := s.dev.setNode n x } ∧ x.lockLosses = sat16 (s.dev.node n).lockLosses 1 ∧ x.locked r = false)

/-- A management request that reaches a node on a port in block lock by its address, a route of depth 1 or a broadcast is carried out and answered on the port it came by; a
broadcast, and a request of another node, goes on; one that fails its checks is counted (R295, R298, R324–R326). -/
def Obligations.NodesAnswerRequests : Prop :=
  (∀ (s : State) (n p : Nat) (bs : List Dword) (m : MFrame) (y : Node), p < 2 → ((s.dev.node n).port p).lock = true → parseFrame bs = some m →
    consumes (s.dev.node n).ident.addr m = true → m.data ≠ [] → y = (s.dev.node n).pass p m bs →
    (m.opcode = 0x01 → exec (.ident n p bs) s = .next { s with dev := s.dev.setNode n (y.respond p m (identBlocks (s.dev.node n).ident)) }) ∧
    (m.opcode = 0x02 → exec (.echo n p bs) s = .next { s with dev := s.dev.setNode n (y.respond p m []) }) ∧
    (m.opcode = 0x03 → exec (.portCfg n p bs) s = .next { s with dev := s.dev.setNode n (y.portCfg p m) }) ∧
    (m.opcode = 0x04 → exec (.admitNode n p bs) s = .next { s with dev := s.dev.setNode n ((y.later p m .enter).respond p m []) }) ∧
    (m.opcode = 0x05 → exec (.release n p bs) s = .next { s with dev := s.dev.setNode n ((y.later p m .release).respond p m []) }) ∧
    (m.opcode = 0x06 → exec (.status n p bs) s = .next { s with dev := s.dev.setNode n (y.statusReq p m) }) ∧
    (m.opcode = 0x08 → m.amode = true → m.depth = 0 → p < (s.dev.node n).ports.length →
      ∃ x, exec (.portReset n p bs) s = .next { s with dev := s.dev.setNode n x } ∧ (x.port p).admitted = false ∧ (x.port p).cslot = 0x1FF ∧ (x.port p).rslot = 0x1FF ∧
        (x.port p).changes = [] ∧ x.ident = (s.dev.node n).ident) ∧
    (m.opcode = 0x7F → (s.dev.node n).admitted = false → 2 ≤ m.data.length →
      ∃ x, exec (.setIdent n p bs) s = .next { s with dev := s.dev.setNode n x } ∧ x.ident.addr = bfld (m.data.getD 1 0) 63 51 ∧ x.ident.arm = bfld (m.data.getD 1 0) 50 48 ∧
        x.ident.position = bfld (m.data.getD 1 0) 47 38 ∧ x.ident.serial = (s.dev.node n).ident.serial)) ∧
  (∀ (x : Node) (p : Nat) (m : MFrame) (bs : List Dword), x.pass p m bs = { x with down := (x.pass p m bs).down } ∧
    (m.amode = true → m.depth = 1 → x.pass p m bs = x) ∧ (m.amode = false → m.target % 2 ^ 13 = x.ident.addr → x.pass p m bs = x)) ∧
  (∀ (s : State) (n p : Nat) (bs : List Dword) (c : Instr), p < 2 → ((s.dev.node n).port p).lock = true →
    c ∈ [Instr.ident n p bs, .echo n p bs, .portCfg n p bs, .admitNode n p bs, .release n p bs, .status n p bs, .portReset n p bs, .setIdent n p bs] →
    (parseFrame bs = none →
      exec c s = .next { s with dev := s.dev.setNode n (((s.dev.node n).forward p bs).modPort p (fun q => { q with crcErr := sat16 q.crcErr 1 })) }) ∧
    (∀ m, parseFrame bs = some m → consumes (s.dev.node n).ident.addr m = false → exec c s = .next { s with dev := s.dev.setNode n ((s.dev.node n).pass p m bs) }))

/-- Every command at node `n` answers a next state, and changes that node, and the count of free values, alone. -/
def Obligations.NodeCommandsChangeTheirNode : Prop :=
  ∀ (s : State) (c : Instr) (n p : Nat) (b : Dword) (u : UpBlock) (bs : List Dword) (f : NodeFlag),
    c ∈ [Instr.nodeSync n p b, .nodeSyncLoss n, .nodeCmdFrame n p bs, .nodeClearingWait n, .nodeEblk n p b, .nodeFlt n u, .nodeCellFailure n, .flashCondition n f,
      .ident n p bs, .echo n p bs, .portCfg n p bs, .admitNode n p bs, .release n p bs, .status n p bs, .portReset n p bs, .setIdent n p bs] →
    ∃ t, exec c s = .next t ∧ t = { s with dev := { s.dev with nodes := t.dev.nodes, free := t.dev.free } } ∧ (∀ m, m ≠ n → t.dev.node m = s.dev.node m)

-- Redundant pairs, the root clock, station time --------------------------------------------------------------------------

/-- A PAIR block tells the partner's claim, unit, mode and state and settles the role when its sequence number is that of the epoch; one of another number is a timing
failure, an invalid one is counted. An escrow run is accepted when it is complete and of the epoch before, with the same period and origin; a torn one is noted; the
cut-off lies 50 ns before the next SYNC (R347, R348, R353, R354, R359, R360). -/
def Obligations.PairBlocksAndEscrowAreChecked : Prop :=
  (∀ (s : State) (lane : Nat) (b : Dword), lane < 2 → s.dev.pairEn = true → s.dev.mirOk lane = true → blockType b = 0x99 → crcOk b = true →
    ∃ d, exec (.pairBlock lane b) s = .next { s with dev := d } ∧ d = { s.dev with rdn := d.rdn, ddp := { s.dev.ddp with pairs := d.ddp.pairs }, pci := d.pci, recd := d.recd } ∧
      d.rdn.pClaim = bfld b 39 24 ∧ d.rdn.pUnit = bfld b 23 23 ∧ d.rdn.pMode = bfld b 22 19 ∧ d.rdn.pState = bfld b 18 16 ∧
      d.rdn.unitConflict = decide (bfld b 23 23 = s.dev.unitNo) ∧
      (bfld b 55 40 = s.dev.tmb.epoch % 65536 → d.rdn.pEpoch = some s.dev.tmb.epoch ∧ d.rdn.role = (if bfld b 39 24 < s.dev.rdn.own then 1 else 2)) ∧
      (bfld b 55 40 ≠ s.dev.tmb.epoch % 65536 → d.rdn.pEpoch = s.dev.rdn.pEpoch ∧ d.rdn.timingNow = true ∧ d.rdn.role = s.dev.rdn.role)) ∧
  (∀ (s : State) (lane : Nat) (b : Dword), lane < 2 → s.dev.pairEn = true → s.dev.mirOk lane = true → ¬(blockType b = 0x99 ∧ crcOk b = true) →
    exec (.pairBlock lane b) s = .next { s with dev := { s.dev with rdn := { s.dev.rdn with mirErr := modAt s.dev.rdn.mirErr lane (fun x => sat16 x 1) } } }) ∧
  (∀ (s : State) (lane : Nat) (bs : List (Nat × Dword)), lane < 2 → s.dev.pairEn = true → s.dev.mirOk lane = true → s.dev.rdn.unitConflict = false → s.dev.rdn.escGot = false →
    escrowComplete bs = false → s.dev.rdn.escTorn = false →
    ∃ d, exec (.escrowReceived lane bs) s = .next { s with dev := d } ∧ d = { s.dev with rdn := { s.dev.rdn with escTorn := true, torn := d.rdn.torn } } ∧
      d.rdn.torn = (if s.dev.rdn.cutPassed then sat32 s.dev.rdn.torn 1 else s.dev.rdn.torn)) ∧
  (∀ (s : State) (lane : Nat) (bs : List (Nat × Dword)) (e : Escrow), lane < 2 → s.dev.pairEn = true → s.dev.mirOk lane = true → s.dev.rdn.unitConflict = false →
    s.dev.rdn.escGot = false → escrowComplete bs = true → e = readEscrow (bs.map (fun x => x.2)) →
    ∃ d, exec (.escrowReceived lane bs) s = .next { s with dev := d } ∧ d = { s.dev with rdn := d.rdn, pci := d.pci } ∧
      (e.epoch + 1 = s.dev.tmb.epoch → e.tc = s.dev.cycles → e.origin * secU = s.dev.origin →
        d.pci = s.dev.pci ∧ d.rdn.esc = some e ∧ d.rdn.escGot = true ∧ d.rdn.escIn = !s.dev.rdn.cutPassed ∧
        d.rdn.late = (if s.dev.rdn.cutPassed then sat32 s.dev.rdn.late 1 else s.dev.rdn.late) ∧ d.rdn.role = s.dev.rdn.role) ∧
      ((e.epoch + 1 ≠ s.dev.tmb.epoch ∨ e.tc ≠ s.dev.cycles ∨ e.origin * secU ≠ s.dev.origin) → d.rdn = { s.dev.rdn with timingNow := true })) ∧
  (∀ s : State, s.dev.mode ≠ .boot → s.dev.tmb.running = true → s.dev.rdn.cutPassed = false →
    ∃ d, exec .escrowCutoff s = .next { s with dev := d } ∧
      d = { s.dev with rdn := { s.dev.rdn with cutPassed := true, torn := d.rdn.torn }, tmb := { s.dev.tmb with now := d.tmb.now, up := d.tmb.up, age := d.tmb.age }
                       ptp := { s.dev.ptp with rem := d.ptp.rem } } ∧
      d.tmb.now = max s.dev.tmb.now (s.dev.tmb.sync + (s.dev.tc - 50 * nsU) + s.dev.advance1.toNat))

/-- The time limits of a pair: an aged escrow and the end of a join change the state, a join that takes too long raises the cause REDUNDANCY, HOLDOFF ends, and the
deductions of the grade run out (R344, R365, R366, R367). -/
def Obligations.PairTimersTakeEffect : Prop :=
  (∀ s : State, s.dev.pairEn = true → s.dev.rdn.role = 2 → s.dev.mode.energized = true → s.dev.rdn.state ≠ 5 → s.dev.rdn.state ≠ 1 →
    s.dev.afld R.RDN_HOLD 7 0 ≤ s.dev.rdn.staleRun → exec .staleEp s = .next { s with dev := { s.dev with rdn := { s.dev.rdn with state := 5 } } }) ∧
  (∀ s : State, s.dev.rdn.state = 3 → s.dev.afld R.RDN_JOIN 15 0 ≤ s.dev.rdn.joinRun →
    exec .joinEp s = .next { s with dev := { s.dev with rdn := { s.dev.rdn with state := 4, holdoffAt := s.dev.tmb.up, joinAt := none, joinRun := 0 } } }) ∧
  (∀ (s : State) (t : Nat), s.dev.rdn.joinAt = some t → t + s.dev.afld R.RDN_JOIN 31 16 * msU ≤ s.dev.tmb.up →
    ∃ d, exec .joinMs s = .next { s with dev := d } ∧ ({ s.dev with rdn := { s.dev.rdn with joinAt := none } }).onlyCause d ∧ d.causeUp Cause.redundancy = true) ∧
  (∀ s : State, s.dev.rdn.state = 4 → s.dev.rdn.holdoffAt + s.dev.afld R.RDN_HOLD 31 16 * msU ≤ s.dev.tmb.up →
    exec .revertMs s = .next { s with dev := { s.dev with rdn := { s.dev.rdn with state := 2 } } }) ∧
  (∀ s : State, ∃ d, exec .gradeHoldMs s = .next { s with dev := d } ∧ d = { s.dev with rdn := { s.dev.rdn with c3At := d.rdn.c3At, overrunAt := d.rdn.overrunAt } } ∧
    (s.dev.held s.dev.rdn.c3At = false → d.rdn.c3At = none) ∧ (s.dev.held s.dev.rdn.overrunAt = false → d.rdn.overrunAt = none))

/-- Loss of lock moves the device to the fallback clock, darkens the lanes and raises the cause CLOCK; lock leaves the fallback clock to the next SYNC; the reference's
loss is kept; a failed attempt starts another; ALIGNED takes 1,000 epochs inside the bound; a phase step moves the phase by one step, at most one in 256 root cycles, with
the multiplier within 200 ppm (R416, R417, R419, R420, R422, R424, R431). -/
def Obligations.ClockFollowsTheReference : Prop :=
  (∀ s : State, s.dev.clk.lock = true →
    ∃ d, exec .lossOfLock s = .next { s with dev := d } ∧ d.clk.lock = false ∧ d.clk.fallback = true ∧ d.clk.aligned = false ∧ d.clk.lockLoss = sat16 s.dev.clk.lockLoss 1 ∧
      d.causeUp Cause.clock = true ∧ (∀ l ∈ d.ikl.lanes, l.lock = false) ∧ d.rdn.mirLock = [false, false] ∧ d.tmb = s.dev.tmb ∧ d.active = s.dev.active ∧ d.sys.mode = s.dev.sys.mode) ∧
  (∀ s : State, s.dev.unpowered = false → s.dev.domOn 2 = true → s.dev.clk.refOk = true → s.dev.clk.lock = false → 2 < s.dev.boot.step →
    ∃ d, exec .lock s = .next { s with dev := d } ∧ d = { s.dev with clk := d.clk } ∧ d.clk.lock = true ∧ d.clk.relock = s.dev.clk.fallback ∧
      d.clk.fallback = s.dev.clk.fallback ∧ d.clk.pstep = 0) ∧
  (∀ s : State, s.dev.unpowered = false → s.dev.domOn 2 = true → s.dev.clk.refOk = true → s.dev.clk.lock = false → s.dev.boot.step = 2 → s.dev.boot.selfTestGood = false →
    ∃ d, exec .lock s = .next { s with dev := d } ∧ d.clk.lock = true ∧ d.boot = { s.dev.boot with step := 3 }) ∧
  (∀ s : State, s.dev.unpowered = false →
    (s.dev.clk.lock = false → exec .refInLoss s = .next { s with dev := { s.dev with clk := { s.dev.clk with refOk := false, freeRun := true } } }) ∧
    (s.dev.clk.lock = true → ∃ d, exec .refInLoss s = .next { s with dev := d } ∧ d.clk.refOk = false ∧ d.clk.lock = false ∧ d.clk.fallback = true ∧ d.clk.freeRun = true ∧
      d.clk.lockLoss = sat16 s.dev.clk.lockLoss 1 ∧ d.causeUp Cause.clock = true ∧ d.tmb = s.dev.tmb ∧ d.sys.mode = s.dev.sys.mode) ∧
    exec .refInReturn s = .next { s with dev := { s.dev with clk := { s.dev.clk with refOk := true, freeRun := false } } }) ∧
  (∀ s : State, s.dev.unpowered = false → s.dev.clk.lock = false →
    ∃ d, exec .failedLockAttempt s = .next { s with dev := d } ∧ d = { s.dev with clk := d.clk } ∧ d.clk.lock = false ∧ d.clk.fallback = true ∧ d.clk.mult = s.dev.multNom ∧
      d.clk.lockLoss = s.dev.clk.lockLoss) ∧
  (∀ s : State, 1000 ≤ s.dev.clk.alignRun → exec .aligned s = .next { s with dev := { s.dev with clk := { s.dev.clk with aligned := true } } }) ∧
  (∀ s : State, s.dev.clk.alignRun < 1000 → exec .aligned s = .next s) ∧
  (∀ s : State, s.dev.abit R.CLK_PLL_CFG 12 = true → s.dev.clk.lock = true → s.dev.clk.fallback = false → (163 : Rat) / 100 < rabs (s.dev.clk.err * 1250 / 3) →
    (∃ d, ((∀ t, s.dev.clk.lastStep = some t → s.dev.tmb.up - t < 256 * rootU) → d = s.dev) ∧
      ((∃ t, s.dev.clk.lastStep = some t ∧ 256 * rootU ≤ s.dev.tmb.up - t) →
        d = { s.dev with clk := d.clk, pci := d.pci, free := d.free } ∧ d.clk.pstep = s.dev.clk.pstep + (if 0 < s.dev.clk.err then 1 else -1) ∧
        d.clk.lastStep = some s.dev.tmb.up ∧ s.dev.multNom - s.dev.multLim ≤ d.clk.mult ∧ d.clk.mult ≤ s.dev.multNom + s.dev.multLim) ∧
      exec .phaseStep s = .next { s with dev := d }))

/-- Time adjustments: a rate within its range replaces the one of the same epoch that waits, one outside is RANGE; a step waits in CONFIG, STANDBY and SERVICE and is MODE
in any other; a capture takes station time at its tick; a switch slew that ends leaves no remainder (R65, R426–R428, R443). -/
def Obligations.TimeAdjustmentsWait : Prop :=
  (∀ (s : State) (trim : Int), s.dev.bar0Open R.TMB_ADJ_GO 1 = true → trim = signed 40 ((s.dev.rwv R.TMB_ADJ_TRIM_LO).toNat + (s.dev.rwv R.TMB_ADJ_TRIM_HI).toNat * 2 ^ 32) →
    ∃ d, exec .tmbAdjGoIncr s = .next { s with dev := d } ∧ d = { s.dev with tmb := { s.dev.tmb with reqs := d.tmb.reqs, result := d.tmb.result }, pci := d.pci } ∧
      (trim < -2748779069 ∨ 2748779069 < trim → d.tmb.reqs = s.dev.tmb.reqs ∧ d.tmb.result = 3) ∧
      (-2748779069 ≤ trim → trim ≤ 2748779069 → d.tmb.reqs.getLast? = some ⟨false, trim, .bar0, s.dev.stampNow, false⟩ ∧
        (∀ r ∈ d.tmb.reqs.dropLast, r.step = false → s.dev.afterEpoch = true ∧ r.stamp < s.dev.grid (s.dev.tmb.epoch + 1)) ∧
        (s.dev.afterEpoch = false → (∀ r ∈ s.dev.tmb.reqs, r.joint = false) →
          d.tmb.reqs = s.dev.tmb.reqs.filter (·.step) ++ [⟨false, trim, .bar0, s.dev.stampNow, false⟩]))) ∧
  (∀ s : State, s.dev.bar0Open R.TMB_ADJ_GO 1 = true →
    (s.dev.mode = .config ∨ s.dev.mode = .standby ∨ s.dev.mode = .service → exec .tmbAdjGoStep s = .next { s with dev := { s.dev with tmb := { s.dev.tmb with reqs := s.dev.tmb.reqs ++
      [⟨true, signed 64 ((s.dev.rwv R.TMB_ADJ_STEP_LO).toNat + (s.dev.rwv R.TMB_ADJ_STEP_HI).toNat * 2 ^ 32), .bar0, s.dev.stampNow, false⟩] } } }) ∧
    (s.dev.mode ≠ .config → s.dev.mode ≠ .standby → s.dev.mode ≠ .service → exec .tmbAdjGoStep s = .next { s with dev := { s.dev with tmb := { s.dev.tmb with result := 2 } } })) ∧
  (∀ s : State, s.dev.bar0Refused R.TMB_ADJ_GO 1 = true →
    ∃ d, exec .tmbAdjGoStep s = .next { s with dev := d } ∧ exec .tmbAdjGoIncr s = .next { s with dev := d } ∧ d.tmb = { s.dev.tmb with result := 5 } ∧ d.apu.ofs = R.TMB_ADJ_GO) ∧
  (∀ s : State, s.dev.bar0Open R.TMB_CAP 3 = true →
    exec .tmbCap s = .next { s with dev := { s.dev with tmb := { s.dev.tmb with capSec := tSec s.dev.stampNow, capNs := tNs s.dev.stampNow, capFrac := tFrac s.dev.stampNow } } }) ∧
  (∀ s : State, s.dev.slew1 = s.dev.ptp.rem →
    ∃ d, exec .switchSlewComplete s = .next { s with dev := d } ∧ d = { s.dev with tmb := { s.dev.tmb with now := d.tmb.now }, ptp := { s.dev.ptp with rem := 0 } })

/-- A Sync or Follow_Up message is used by the domain of its port and number, a two-step Sync waits for its Follow_Up, SYNC_TO and the commands of a SUSPECT domain move
its state; peer delay is requested each interval and answered when asked, the response and its follow-up complete the measurement, and without a response it is given up
(R437–R441). -/
def Obligations.PtpMessagesAreUsed : Prop :=
  (∀ (s : State) (m : PtpMsg) (x : Nat), x < 2 → x < s.dev.ptp.doms.length → s.dev.takes m x = true → m.twoStep = true →
    ∃ d, exec (.ptpSync m) s = .next { s with dev := d } ∧ d = { s.dev with ptp := d.ptp, pci := d.pci } ∧
      (s.dev.takes m (1 - x) = false → d.dom x = { s.dev.dom x with wait := some ⟨m.seq, s.dev.rxStamp m.eth.port m.eth.cyc, m.corr⟩ } ∧ d.dom (1 - x) = s.dev.dom (1 - x))) ∧
  (∀ (s : State) (m : PtpMsg) (x : Nat), x < 2 → x < s.dev.ptp.doms.length → s.dev.takes m x = true → s.dev.takes m (1 - x) = false → m.twoStep = false →
    ∃ d, exec (.ptpSync m) s = .next { s with dev := d } ∧ (d.dom x).st = (if (s.dev.dom x).st = 3 then 3 else 2) ∧ (d.dom x).lastSync = s.dev.tmb.up ∧ (d.dom x).wait = none ∧
      d.dom (1 - x) = s.dev.dom (1 - x) ∧ d.tmb = s.dev.tmb ∧ d.active = s.dev.active) ∧
  (∀ (s : State) (m : PtpMsg) (x : Nat) (w : SyncWait), x < 2 → x < s.dev.ptp.doms.length → s.dev.takes m x = true → (s.dev.dom x).wait = some w → w.seq = m.seq →
    (s.dev.dom (1 - x)).wait = none →
    ∃ d, exec (.followUp m) s = .next { s with dev := d } ∧ (d.dom x).st = (if (s.dev.dom x).st = 3 then 3 else 2) ∧ (d.dom x).lastSync = s.dev.tmb.up ∧ (d.dom x).wait = none ∧
      d.dom (1 - x) = s.dev.dom (1 - x)) ∧
  (∀ (s : State) (x : Nat), s.dev.domEn x = true → x < s.dev.ptp.doms.length → (s.dev.dom x).st = 2 →
    (s.dev.dom x).lastSync + (s.dev.act (R.PTP_DOMx_SYNC_TO x)).toNat * msU ≤ s.dev.tmb.up →
    ∃ d, exec (.syncTo x) s = .next { s with dev := d } ∧ d = { s.dev with ptp := d.ptp } ∧ d.dom x = { s.dev.dom x with st := 1 }) ∧
  (∀ (s : State) (x : Nat), x < 2 → x < s.dev.ptp.doms.length → s.dev.bar0Open (R.PTP_DOMx_CMD x) 1 = true → (s.dev.dom x).st = 3 →
    exec (.accept x) s = .next { s with dev := s.dev.setDom x { s.dev.dom x with st := 2, unfreeze := true, hist := (s.dev.dom x).kept, kept := [], cand := none } } ∧
    exec (.keep x) s = .next { s with dev := s.dev.setDom x { s.dev.dom x with st := 2, unfreeze := true, kept := [], cand := none } }) ∧
  (∀ (s : State) (p : Nat), s.dev.p2p p = true → p < s.dev.ptp.ports.length → (s.dev.pdel p).nextReq ≤ s.dev.tmb.up →
    ∃ x, exec (.pdelayReqInterval p) s = .next { s with dev := s.dev.tookFree.setPdel p x } ∧ x.seq = ((s.dev.pdel p).seq + 1) % 65536 ∧ x.t1 = some (s.dev.txStamp p) ∧ x.t2 = none ∧ x.gaveUp = none ∧
      x.nextReq = s.dev.tmb.up + s.dev.pdInterval ∧ x.sent = sat32 (s.dev.pdel p).sent 1 ∧ x.answered = (s.dev.pdel p).answered) ∧
  (∀ (s : State) (m : PtpMsg), s.dev.p2p m.eth.port = true → m.eth.port < s.dev.ptp.ports.length → m.eth.good = true →
    ∃ d, exec (.pdelayReq m) s = .next { s with dev := d } ∧ d = { s.dev with ptp := { s.dev.ptp with ports := d.ptp.ports }, pci := d.pci, free := d.free } ∧
      d.pdel m.eth.port = { s.dev.pdel m.eth.port with answered := (d.pdel m.eth.port).answered
                                                       lastReq := some ⟨m.seq, s.dev.clockId, s.dev.rxStamp m.eth.port m.eth.cyc, s.dev.txStamp m.eth.port⟩ } ∧
      (d.pdel m.eth.port).answered = sat32 (s.dev.pdel m.eth.port).answered 1) ∧
  (∀ (s : State) (m : PtpMsg) (t1 : Nat), s.dev.p2p m.eth.port = true → m.eth.port < s.dev.ptp.ports.length → m.eth.good = true → (s.dev.pdel m.eth.port).seq = m.seq →
    (s.dev.pdel m.eth.port).t1 = some t1 ∨ ((s.dev.pdel m.eth.port).t1 = none ∧ (s.dev.pdel m.eth.port).gaveUp = some (s.dev.tmb.up, t1)) →
    ∃ d, exec (.pdelayResp m) s = .next { s with dev := d } ∧ d = { s.dev with ptp := { s.dev.ptp with ports := d.ptp.ports }, pci := d.pci } ∧
      d.pdel m.eth.port = { s.dev.pdel m.eth.port with t1 := some t1, t2 := some (tOf m.sec m.ns), t4 := s.dev.rxStamp m.eth.port m.eth.cyc, corr := m.corr }) ∧
  (∀ (s : State) (m : PtpMsg) (t1 t2 : Nat), s.dev.p2p m.eth.port = true → m.eth.port < s.dev.ptp.ports.length → m.eth.good = true → (s.dev.pdel m.eth.port).t1 = some t1 →
    (s.dev.pdel m.eth.port).t2 = some t2 → (s.dev.pdel m.eth.port).seq = m.seq →
    ∃ d, exec (.pdelayRespFollowUp m) s = .next { s with dev := d } ∧ d.pdel m.eth.port = { s.dev.pdel m.eth.port with t1 := none, t2 := none, gaveUp := none } ∧ d.tmb = s.dev.tmb ∧
      (∀ x, x < 2 → x < s.dev.ptp.doms.length → s.dev.domEn x = true → s.dev.afld (R.PTP_DOMx_CFG x) 17 16 = m.eth.port →
        (d.dom x).mpd = (((((s.dev.pdel m.eth.port).t4 : Nat) : Int) - (t1 : Nat)) - (((tOf m.sec m.ns : Nat) : Int) - (t2 : Nat))) * 65536 / (nsU : Int)
          - 2 * ((s.dev.pdel m.eth.port).corr + m.corr))) ∧
  (∀ (s : State) (p t : Nat), p < 4 → (s.dev.pdel p).t1 = some t →
    exec (.pdelayTimeout p) s = .next { s with dev := s.dev.setPdel p { s.dev.pdel p with t1 := none, gaveUp := some (s.dev.tmb.up, t) } })

/-- A frame goes to the oldest receive buffer of its port, or is counted as rejected or without a buffer; a sent frame leaves its queue. A NOP and a REG_READ are answered
at once: one slot of the delivery ring with the request's TAG and the values that reads see (R516, R519, R522, R524, R525, R530). -/
def Obligations.FramesAndImmediateRequests : Prop :=
  (∀ (s : State) (f : EthFrame), s.dev.domOn 6 = true → f.port < 4 → f.good = false →
    exec (.ethFrame f) s = .next { s with dev := { s.dev with pci := { s.dev.pci with ethRejected := sat16 s.dev.pci.ethRejected 1 } } }) ∧
  (∀ (s : State) (f : EthFrame), s.dev.domOn 6 = true → f.port < 4 → f.good = true → nth f.bytes 0 0 % 2 = 1 → f.bytes.length ≤ 2040 →
    s.dev.abit R.PCI_ETH_CFG (8 * f.port + 7) = true →
    ∃ d, exec (.ethFrame f) s = .next { s with dev := d } ∧ d = { s.dev with pci := d.pci } ∧
      ((∀ b ∈ s.dev.pci.rxbufs, b.port ≠ f.port) → d.pci = { s.dev.pci with ethNoBuf := sat16 s.dev.pci.ethNoBuf 1 }) ∧
      (∀ b, s.dev.pci.rxbufs.find? (fun x => x.port == f.port) = some b → d.pci.rxbufs = s.dev.pci.rxbufs.erase b ∧ d.pci.ethNoBuf = s.dev.pci.ethNoBuf)) ∧
  (∀ (s : State) (p : Nat) (b : EthReq), s.dev.domOn 6 = true → s.dev.pci.txq.find? (fun x => x.port == p) = some b →
    ∃ d, exec (.ethTxSent p) s = .next { s with dev := d } ∧ d = { s.dev with pci := d.pci, free := d.free } ∧ d.pci.txq = s.dev.pci.txq.erase b) ∧
  (∀ (s : State) (q : Nat) (e : SqEntry), s.dev.takesEntry q Op.nop e = true → q < s.dev.pci.queues.length →
    ∃ d, exec (.nop q e) s = .next { s with dev := d } ∧ d = { s.dev with pci := d.pci } ∧ (d.queue q).sqHead = ((s.dev.queue q).sqHead + 1) % s.dev.sqSize q ∧
      (d.queue q).reserved = (s.dev.queue q).reserved ∧
      (d.queue q).slots = (s.dev.queue q).slots ++ [slotWords (s.dev.queue q).phase 1 1 0
        [word (put 31 16 e.tag), 1, word (((s.dev.queue q).sqHead + 1) % s.dev.sqSize q), 0, 0]]) ∧
  (∀ (s : State) (q : Nat) (e : SqEntry), s.dev.takesEntry q Op.regRead e = true →
    (∀ i, i < sqF e 1 3 0 → sqF e (2 + i) 23 0 % 4 = 0 ∧ s.dev.regionAdmits (s.dev.level (some q)) (sqF e (2 + i) 23 0) false = true) →
    ∃ ws, exec (.regRead q e) s = .next { s with dev := (s.dev.fetched q).complete (s.dev.entryRef q Op.regRead e) 0 1 s.view.tmb.epoch ws } ∧
      ws = forN (sqF e 1 3 0) (fun i => readOffset (s.dev.fetched q) s.view s.dram (sqF e (2 + i) 23 0)))

/-- An ARM that no rule refuses leaves its entry PENDING, a COMMIT entry with the commit requests, a TT time too near is missed; an ARM of a PENDING entry is a fault; a
CANCEL ends it. A due pulse of a time-triggered output begins, and the next period or the entry's completion follows; pulses whose width has passed end (R52, R445, R446,
R448, R450, R452). -/
def Obligations.ScheduledActionsAndPulses : Prop :=
  (∀ (s : State) (e : Nat), e < 16 → e < s.dev.tmb.sched.length → s.dev.bar0Open R.TMB_SCHED_CMD (s.dev.schedLevel (s.dev.schedKind e) (s.dev.schedTarget e)) = true →
    (s.dev.sched e).st ≠ 1 →
    ∃ d, exec (.schedCmdArm e) s = .next { s with dev := d } ∧ d.rw = s.dev.rw ∧ d.tmb.now = s.dev.tmb.now ∧
      (s.dev.armCode e ≠ 0 → (d.sched e).st = 5 ∧ (d.sched e).result = s.dev.armCode e ∧ d.sys = s.dev.sys) ∧
      (s.dev.armCode e = 0 → s.dev.schedKind e = 4 → s.dev.schedT e < s.dev.tmb.now + 100 * nsU → (d.sched e).st = 4 ∧ d.sys = s.dev.sys ∧
        (s.dev.schedTarget e < s.dev.tmb.tt.length → (d.tt (s.dev.schedTarget e)).missed = sat16 (s.dev.tt (s.dev.schedTarget e)).missed 1)) ∧
      (s.dev.armCode e = 0 → ¬(s.dev.schedKind e = 4 ∧ s.dev.schedT e < s.dev.tmb.now + 100 * nsU) →
        (d.sched e).st = 1 ∧ (d.sched e).prog = s.dev.stampNow ∧
        d.sys.commitReqs = (if s.dev.schedKind e = 1 then s.dev.sys.commitReqs ++ [⟨false, none, .entry e, s.dev.stampNow⟩] else s.dev.sys.commitReqs))) ∧
  (∀ (s : State) (e : Nat), e < 16 → s.dev.bar0Open R.TMB_SCHED_CMD (s.dev.schedLevel (s.dev.schedKind e) (s.dev.schedTarget e)) = true → (s.dev.sched e).st = 1 →
    ∃ d, exec (.schedCmdArm e) s = .next { s with dev := d } ∧ s.dev.onlyFault d ∧ d.apu.ofs = R.TMB_SCHED_CMD) ∧
  (∀ (s : State) (e : Nat), e < 16 → e < s.dev.tmb.sched.length → s.dev.bar0Open R.TMB_SCHED_CMD (s.dev.schedLevel (s.dev.schedKind e) (s.dev.schedTarget e)) = true →
    (s.dev.sched e).st = 1 →
    ∃ d, exec (.schedCmdCancel e) s = .next { s with dev := d } ∧ (d.sched e).st = 6 ∧ d.sys = { s.dev.sys with commitReqs := d.sys.commitReqs } ∧
      d.sys.commitReqs = s.dev.sys.commitReqs.filter (fun r => r.origin != .entry e)) ∧
  (∀ (s : State) (n t : Nat), n < 8 → n < s.dev.tmb.tt.length → s.dev.ttMode n = 1 → (s.dev.tt n).next = some t → t ≤ s.dev.tmb.now →
    ∃ d, exec (.ttPulseStart n) s = .next { s with dev := d } ∧ (d.tt n).next = some (t + (s.dev.act (R.TMB_TTn_PERIOD n)).toNat * nsU) ∧
      (d.tt n).ends = (s.dev.tt n).ends ++ [s.dev.edgeAt t + (s.dev.act (R.TMB_TTn_WIDTH n)).toNat * nsU] ∧ d.sys = s.dev.sys ∧ (∀ m, m ≠ n → d.tt m = s.dev.tt m)) ∧
  (∀ (s : State) (n e : Nat), n < 8 → n < s.dev.tmb.tt.length → e < s.dev.tmb.sched.length → s.dev.ttMode n = 2 →
    (List.range 16).find? (fun i => (s.dev.sched i).st == 1 && s.dev.schedKind i == 4 && s.dev.schedTarget i == n && decide (s.dev.schedT i ≤ s.dev.tmb.now)) = some e →
    ∃ d, exec (.ttPulseStart n) s = .next { s with dev := d } ∧ (d.sched e).st = 2 ∧ (d.tt n).ends = (s.dev.tt n).ends ++ [s.dev.edgeAt (s.dev.schedT e) + (s.dev.schedValue e).toNat * nsU] ∧
      d.sys = s.dev.sys) ∧
  (∀ (s : State) (n : Nat), n < 8 → n < s.dev.tmb.tt.length →
    ∃ d, exec (.ttPulseEnd n) s = .next { s with dev := d } ∧ (d.tt n).ends = (s.dev.tt n).ends.filter (fun t => decide (s.dev.tmb.up < t)) ∧ (d.tt n).next = (s.dev.tt n).next ∧
      d.sys = s.dev.sys ∧ (∀ m, m ≠ n → d.tt m = s.dev.tt m))

-- Direct drive -----------------------------------------------------------------------------------------------------------

/-- What trips an ENABLED pair opens both outputs of it and latches the cause; a pair in another state keeps it; the other pairs stay. A pair that is neither tripped nor
forced follows its commands: an output goes off with its command, and goes on only after the dead time of the other one, so that never both are on (R463, R465, R467,
R469, R470, R472, R474). -/
def Obligations.DrivePairsTripAndInterlock : Prop :=
  (∀ (s : State) (n : Nat), n < 12 → n < s.dev.ddp.pairs.length →
    ∃ d, exec (.hoc n) s = .next { s with dev := d } ∧ d.sys = s.dev.sys ∧ (∀ m, m ≠ n → d.pair m = s.dev.pair m) ∧ (d.pair n).hocOn (s.dev.pairCfg n) = true ∧ (d.pair n).h = false ∧
      (d.pair n).l = false ∧ ((s.dev.pair n).st = 2 → (d.pair n).st = 3 ∧ (d.pair n).hocTrip = true ∧ (d.pair n).trips = sat16 (s.dev.pair n).trips 1) ∧
      ((s.dev.pair n).st ≠ 2 → (d.pair n).st = (s.dev.pair n).st)) ∧
  (∀ (s : State) (n : Nat), n < 12 → exec (.hocRelease n) s = .next { s with dev := s.dev.setPair n { s.dev.pair n with hoc := bit (s.dev.pairCfg n) 24 } }) ∧
  (∀ (s : State) (n : Nat) (level : Bool), n < 12 → n < s.dev.ddp.pairs.length →
    ∃ d, exec (.dsInputChange n level) s = .next { s with dev := d } ∧ d.sys = s.dev.sys ∧ (∀ m, m ≠ n → d.pair m = s.dev.pair m) ∧
      (d.pair n).ds = level ∧ ((d.pair n).dsFrom = if level = bit (s.dev.pairCfg n) 25 then none else some s.dev.tmb.up) ∧
      (level = bit (s.dev.pairCfg n) 25 → (s.dev.pair n).hocOn (s.dev.pairCfg n) = false → fld (s.dev.pairCfg n) 29 28 ≠ 2 → (d.pair n).st = (s.dev.pair n).st)) ∧
  (∀ (s : State) (n : Nat), n < 12 → n < s.dev.ddp.pairs.length → (s.dev.pair n).st = 2 → (s.dev.pair n).desatDue (s.dev.pairCfg n) s.dev.tmb.up = true →
    ∃ d, exec (.desatTrip n) s = .next { s with dev := d } ∧ d.sys = s.dev.sys ∧ (∀ m, m ≠ n → d.pair m = s.dev.pair m) ∧ (d.pair n).st = 3 ∧ (d.pair n).desat = true ∧
      (d.pair n).h = false ∧ (d.pair n).l = false ∧ (d.stk R.DDP_TRIP_STICKY).getLsbD n = true) ∧
  (∀ (s : State) (n e : Nat), n < 12 → n < s.dev.ddp.pairs.length → (s.dev.pair n).blankEnd = some e → e ≤ s.dev.tmb.up →
    ∃ d, exec (.blankingEnd n) s = .next { s with dev := d } ∧ d.sys = s.dev.sys ∧ (∀ m, m ≠ n → d.pair m = s.dev.pair m) ∧
      (d.pair n).dsFrom = (s.dev.pair n).dsFrom.map (max e) ∧ (∀ t, (d.pair n).blankEnd = some t → s.dev.tmb.up ≤ t)) ∧
  (∀ (s : State) (n : Nat), n < 12 → n < s.dev.ddp.pairs.length → (s.dev.pair n).st = 2 → (s.dev.pair n).hocOn (s.dev.pairCfg n) = false →
    (s.dev.pair n).desatDue (s.dev.pairCfg n) s.dev.tmb.up = false → s.dev.ddHeld = false → s.dev.forced n = false →
    ¬(fld (s.dev.pairCfg n) 29 28 = 2 ∧ (s.dev.pairCmd n).1 = true ∧ (s.dev.pairCmd n).2 = true) →
    ∃ p, exec (.ddpCommandEdge n) s = .next { s with dev := s.dev.setPair n p } ∧ exec (.deadTimeEnd n) s = .next { s with dev := s.dev.setPair n p } ∧ p.st = 2 ∧
      (p.h = true → (s.dev.pairCmd n).1 = true) ∧ (p.l = true → (s.dev.pairCmd n).2 = true) ∧ (¬((s.dev.pair n).h = true ∧ (s.dev.pair n).l = true) → ¬(p.h = true ∧ p.l = true)) ∧
      ((s.dev.pair n).h = false → p.h = true → (s.dev.pair n).l = false ∧ (s.dev.pair n).offL + 1000 * 2 ^ fld (s.dev.pairCfg n) 31 30 * nsU ≤ s.dev.tmb.up) ∧
      ((s.dev.pair n).l = false → p.l = true → (s.dev.pair n).h = false ∧ (s.dev.pair n).offH + 1000 * 2 ^ fld (s.dev.pairCfg n) 31 30 * nsU ≤ s.dev.tmb.up)) ∧
  (∀ (s : State) (n : Nat), n < 12 → n < s.dev.ddp.pairs.length → (s.dev.pair n).st = 2 → fld (s.dev.pairCfg n) 29 28 = 2 → (s.dev.pairCmd n).1 = true →
    (s.dev.pairCmd n).2 = true →
    ∃ d, exec (.ddpCommandEdge n) s = .next { s with dev := d } ∧ (d.pair n).st = 3 ∧ (d.pair n).conflict = true ∧ (d.pair n).h = false ∧ (d.pair n).l = false ∧ d.sys = s.dev.sys)

/-- The chopper's on-time ends, undervoltage holds every output off until it is over, a test phase measures its output, and REENABLE and TEST wait for the boundary (R461,
R474–R477, R479). -/
def Obligations.DriveUnitEventsTakeEffect : Prop :=
  (∀ (s : State) (t : Nat), s.dev.ddp.chopEnd = some t → t ≤ s.dev.tmb.up →
    ∃ d, exec .chopOnTimeEnd s = .next { s with dev := d } ∧ d.ddp.chop = false ∧ d.ddp.chopEnd = none ∧ d.sys = s.dev.sys ∧ d.tmb = s.dev.tmb) ∧
  (∀ s : State, s.dev.ddp.uvlo = false →
    ∃ d, exec .uvlo s = .next { s with dev := d } ∧ d.ddp.uvlo = true ∧ (∀ n, n < 12 → (d.pair n).h = false ∧ (d.pair n).l = false) ∧ d.sys = s.dev.sys) ∧
  (∀ s : State, ∃ d, exec .uvloRelease s = .next { s with dev := d } ∧ d = { s.dev with ddp := { s.dev.ddp with uvlo := false, pairs := d.ddp.pairs } } ∧
      (∀ n, n < 12 → (d.pair n).testWait = false) ∧
      (∀ n, n < 12 → (s.dev.pair n).testWait = false → (d.pair n).st = (s.dev.pair n).st ∧ (d.pair n).h = (s.dev.pair n).h ∧ (d.pair n).l = (s.dev.pair n).l)) ∧
  (∀ (s : State) (n mv vdd : Nat) (r : TestRun), n < 12 → n < s.dev.ddp.pairs.length → (s.dev.pair n).test = some r → r.phaseEnd ≤ s.dev.tmb.up →
    ∃ d, exec (.offStateTestPhaseEnd n mv vdd) s = .next { s with dev := d } ∧ d = { s.dev with ddp := d.ddp, pci := d.pci } ∧ (∀ m, m ≠ n → d.pair m = s.dev.pair m) ∧
      (r.phase = 0 → d.pair n = { s.dev.pair n with test := some { r with phase := 1, phaseEnd := r.phaseEnd + 50000 * nsU, vs := mv } }) ∧
      (r.phase ≠ 0 → r.out = 0 → (d.pair n).resH = testResult (s.dev.act R.DDP_TEST_CFG) r.vs mv vdd ∧ (d.pair n).ohmH = min r.vs 8000) ∧
      (r.phase ≠ 0 → r.out ≠ 0 → (d.pair n).resL = testResult (s.dev.act R.DDP_TEST_CFG) r.vs mv vdd ∧ (d.pair n).ohmL = min r.vs 8000 ∧ (d.pair n).test = none)) ∧
  (∀ (s : State) (pairs : Nat), s.dev.bar0Open R.DDP_CMD 1 = true →
    exec (.reenable pairs) s = .next { s with dev := { s.dev with ddp := { s.dev.ddp with reen := s.dev.ddp.reen ++ [(s.dev.stampNow, pairs % 4096)] } } } ∧
    exec (.test pairs) s = .next { s with dev := { s.dev with ddp := { s.dev.ddp with tests := s.dev.ddp.tests ++ [(s.dev.stampNow, pairs % 4096)] } } })

-- The recorder and the host interface ------------------------------------------------------------------------------------

/-- Recorder commands wait for the boundary, triggers keep their stamp, a host trigger ahead of its time is held, and a transfer names the segment it reads until it is
done (R493, R500, R501, R523). -/
def Obligations.RecorderRequestsWait : Prop :=
  (∀ s : State, s.dev.bar0Open R.REC_CMD 2 = true →
    exec .recArm s = .next { s with dev := { s.dev with recd := { s.dev.recd with cmds := s.dev.recd.cmds ++ [⟨1, 0, s.dev.stampNow⟩] } } } ∧
    exec .recDisarm s = .next { s with dev := { s.dev with recd := { s.dev.recd with cmds := s.dev.recd.cmds ++ [⟨2, 0, s.dev.stampNow⟩] } } } ∧
    exec .recTrig s = .next { s with dev := { s.dev with recd := { s.dev.recd with trigs := s.dev.recd.trigs ++ [⟨26, s.dev.stampNow, s.dev.tmb.epoch, none⟩] } } }) ∧
  (∀ (s : State) (seg : Nat), s.dev.bar0Open R.REC_CMD 1 = true →
    exec .recReset s = .next { s with dev := { s.dev with recd := { s.dev.recd with cmds := s.dev.recd.cmds ++ [⟨4, 0, s.dev.stampNow⟩] } } } ∧
    exec (.recFree seg) s = .next { s with dev := { s.dev with recd := { s.dev.recd with cmds := s.dev.recd.cmds ++ [⟨5, seg % 8192, s.dev.stampNow⟩] } } }) ∧
  (∀ (s : State) (t : Nat) (c : CompRef), s.dev.recd.hostT = some (t, c) → t ≤ s.dev.tmb.now →
    exec .hostTriggerDue s = .next { s with dev := { s.dev with recd := { s.dev.recd with hostT := none, trigs := s.dev.recd.trigs ++ [⟨26, t, s.dev.tmb.epoch, some c⟩] } } }) ∧
  (∀ (s : State) (q : Nat) (e : SqEntry), s.dev.takesEntry q Op.recTrig e = true → s.dev.level (some q) ≤ 2 → s.dev.domOn 11 = true →
    ∃ d, exec (.recTrigDescriptor q e) s = .next { s with dev := d } ∧ d = { s.dev with recd := { s.dev.recd with hostT := d.recd.hostT, trigs := d.recd.trigs }, pci := d.pci } ∧
      (s.dev.tmb.now < sqT e 2 → d.recd.hostT = some (sqT e 2, s.dev.entryRef q Op.recTrig e) ∧ d.recd.trigs = s.dev.recd.trigs) ∧
      (sqT e 2 ≤ s.dev.tmb.now → d.recd.hostT = s.dev.recd.hostT ∧
        d.recd.trigs = s.dev.recd.trigs ++ [⟨26, sqT e 2, s.dev.epochAt (sqT e 2), some (s.dev.entryRef q Op.recTrig e)⟩])) ∧
  (∀ (s : State) (q : Nat) (e : SqEntry) (y : Nat × Nat), s.dev.takesEntry q Op.recXfer e = true → s.dev.regionAdmits (s.dev.level (some q)) 0xC00000 false = true →
    s.dev.domOn 11 = true → s.dev.recd.segs.find? (fun x => x.1 == sqF e 1 12 0) = some y → (sqW e 2).toNat % 4 = 0 → (sqW e 3).toNat % 4 = 0 →
    (sqW e 2).toNat + (sqW e 3).toNat ≤ s.dev.segSize →
    ∃ d, exec (.recXfer q e) s = .next { s with dev := d } ∧ d = { s.dev with pci := d.pci } ∧
      d.pci.xfers = s.dev.pci.xfers ++ [⟨s.dev.entryRef q Op.recXfer e, sqF e 1 12 0, (sqW e 2).toNat, (sqW e 3).toNat, y.2, false⟩]) ∧
  (∀ (s : State) (q : Nat) (t : Xfer), s.dev.pci.xfers.find? (fun x => x.ref.q == q) = some t →
    ∃ d, exec (.recXferDone q) s = .next { s with dev := d } ∧ d = { s.dev with pci := d.pci, free := d.free } ∧ d.pci.xfers = s.dev.pci.xfers.erase t)

/-- R511: a doorbell write to a queue that is not RUNNING is ignored; an index at or above the ring size, or a tail that would leave more than SIZE − 1 entries unfetched,
puts the queue in ERROR with code BAD_DOORBELL; another index is taken. -/
def Obligations.DoorbellsAreChecked : Prop :=
  ∀ (s : State) (q i : Nat) (bad : List Word), q < 32 → s.dev.unpowered = false →
    ((s.dev.queue q).st ≠ 1 → exec (.sqTail q i bad) s = .next s ∧ exec (.cqHead q i) s = .next s) ∧
    ((s.dev.queue q).st = 1 →
      (s.dev.sqSize q ≤ i ∨ s.dev.sqSize q - 1 < (i + s.dev.sqSize q - (s.dev.queue q).sqHead) % s.dev.sqSize q →
        exec (.sqTail q i bad) s = .next { s with dev := s.dev.setQueue q { s.dev.queue q with st := 2, err := 1 } }) ∧
      (s.dev.cqSize q ≤ i → exec (.cqHead q i) s = .next { s with dev := s.dev.setQueue q { s.dev.queue q with st := 2, err := 1 } }) ∧
      (i < s.dev.sqSize q → exec (.sqTail q i []) s = .next { s with dev := s.dev.setQueue q { s.dev.queue q with sqTail := i } }) ∧
      (i < s.dev.cqSize q → ∃ x, exec (.cqHead q i) s = .next { s with dev := s.dev.setQueue q x } ∧ x = { s.dev.queue q with slots := x.slots } ∧
        (((s.dev.queue q).cqTail + s.dev.cqSize q - i) % s.dev.cqSize q ≤ (s.dev.queue q).slots.length →
          x.slots.length = ((s.dev.queue q).cqTail + s.dev.cqSize q - i) % s.dev.cqSize q)))

/-- A failed access of host memory stops its queue, the coalescing time signals it, unmasking a vector sends its pending message, and the link going down leaves the
queues to the boundary (R508, R535–R537). -/
def Obligations.LinkAndInterrupts : Prop :=
  (∀ (s : State) (q : Nat), q < 32 → q < s.dev.pci.queues.length → (s.dev.queue q).st = 1 →
    ∃ d, exec (.dmaError q) s = .next { s with dev := d } ∧ d = { s.dev with pci := d.pci } ∧ (d.queue q).st = 2 ∧ (d.queue q).err = 2 ∧ (∀ m, m ≠ q → d.queue m = s.dev.queue m) ∧
      (d.queue q).slots = (s.dev.queue q).slots ∧ (d.queue q).signals = (s.dev.queue q).signals + 1) ∧
  (∀ (s : State) (q u : Nat), q < 32 → q < s.dev.pci.queues.length → (s.dev.queue q).firstUnsig = some u → s.dev.afld (R.PCI_Qq_COAL q) 31 16 ≠ 0 → (s.dev.queue q).unsig ≠ 0 →
    u + s.dev.afld (R.PCI_Qq_COAL q) 31 16 * usU ≤ s.dev.tmb.up →
    ∃ d, exec (.coalescingTime q) s = .next { s with dev := d } ∧ d = { s.dev with pci := d.pci } ∧
      d.queue q = { s.dev.queue q with unsig := 0, firstUnsig := none, signals := (s.dev.queue q).signals + 1 } ∧ (∀ m, m ≠ q → d.queue m = s.dev.queue m)) ∧
  (∀ (s : State) (i : Nat) (v : Word), i < 256 → s.dev.unpowered = false →
    ∃ d, exec (.msixTableWrite i v) s = .next { s with dev := d } ∧
      d = { s.dev with pci := { s.dev.pci with msixTable := setAt s.dev.pci.msixTable i v, msixPending := d.pci.msixPending, msixSent := d.pci.msixSent } } ∧
      (i % 4 = 3 → bit v 0 = false → s.dev.pci.msixPending.testBit (i / 4) = true →
        d.pci.msixPending + 2 ^ (i / 4) = s.dev.pci.msixPending ∧ d.pci.msixSent = modAt s.dev.pci.msixSent (i / 4) (· + 1)) ∧
      (¬(i % 4 = 3 ∧ bit v 0 = false ∧ s.dev.pci.msixPending.testBit (i / 4) = true) → d.pci.msixPending = s.dev.pci.msixPending ∧ d.pci.msixSent = s.dev.pci.msixSent)) ∧
  (∀ s : State, s.dev.unpowered = false →
    ∃ d, exec .linkDown s = .next { s with dev := d } ∧ d = { s.dev with pci := d.pci } ∧ d.pci.up = false ∧ d.pci.linkReset = true ∧ d.pci.downCnt = sat16 s.dev.pci.downCnt 1 ∧
      d.pci.queues = s.dev.pci.queues) ∧
  (∀ (s : State) (speed width : Nat), s.dev.unpowered = false →
    exec (.linkUp speed width) s = .next { s with dev := { s.dev with pci := { s.dev.pci with up := true, speed := speed % 16, width := width % 16 } } })

/-- A request of a descriptor that its level admits waits for what carries it out, with the completion it is owed: commit and abandon, mode, scheduled actions, time
adjustments, emergency and clear, frames to send and buffers (R42, R49, R78, R426, R427, R448, R450, R130, R131, R524, R525). -/
def Obligations.DescriptorRequestsWait : Prop :=
  (∀ (s : State) (q : Nat) (e : SqEntry), s.dev.takesEntry q Op.commit e = true → s.dev.level (some q) ≤ 2 →
    ∃ g, g = (if bit (sqW e 1) 0 then some (sqW e 2) else none) ∧
      (bit (sqW e 1) 1 = false → exec (.commit q e) s = .next { s with dev := (s.dev.fetched q).commitRequest false g (.desc (s.dev.entryRef q Op.commit e)) }) ∧
      (bit (sqW e 1) 1 = true → exec (.commitDescriptorAbandon q e) s = .next { s with dev := (s.dev.fetched q).commitRequest true g (.desc (s.dev.entryRef q Op.commit e)) })) ∧
  (∀ (s : State) (q : Nat) (e : SqEntry), s.dev.takesEntry q Op.mode e = true → s.dev.level (some q) ≤ s.dev.modeLevel (sqF e 1 3 0) →
    ∃ d, exec (.mode q e) s = .next { s with dev := d } ∧ d = { s.dev with sys := { s.dev.sys with modeReqs := d.sys.modeReqs }, pci := d.pci } ∧
      d.sys.modeReqs = s.dev.sys.modeReqs.filter (fun r => s.dev.afterEpoch && decide (r.stamp < s.dev.grid (s.dev.tmb.epoch + 1))) ++
        [⟨sqF e 1 3 0, .desc (s.dev.entryRef q Op.mode e), s.dev.stampNow⟩]) ∧
  (∀ (s : State) (q : Nat) (e : SqEntry), s.dev.takesEntry q Op.sched e = true → sqF e 1 31 28 = 1 → s.dev.level (some q) ≤ s.dev.schedLevel (sqF e 5 31 28) (sqF e 5 23 0) →
    ((s.dev.sched (sqF e 1 3 0)).st = 1 → ∃ d, exec (.schedArm q e) s = .next { s with dev := d } ∧ d = { s.dev with pci := d.pci }) ∧
    ((s.dev.sched (sqF e 1 3 0)).st ≠ 1 → sqF e 1 3 0 < s.dev.tmb.sched.length →
      ∃ d f, exec (.schedArm q e) s = .next { s with dev := d } ∧ f = (s.dev.fetched q).schedFill (sqF e 1 3 0) e ∧ d.rw = f.rw ∧ d.active = s.dev.active ∧
        (f.armCode (sqF e 1 3 0) ≠ 0 → (d.sched (sqF e 1 3 0)).st = 5 ∧ (d.sched (sqF e 1 3 0)).result = f.armCode (sqF e 1 3 0) ∧ d.sys = s.dev.sys) ∧
        (f.armCode (sqF e 1 3 0) = 0 → ¬(f.schedKind (sqF e 1 3 0) = 4 ∧ f.schedT (sqF e 1 3 0) < s.dev.tmb.now + 100 * nsU) →
          (d.sched (sqF e 1 3 0)).st = 1 ∧ (d.sched (sqF e 1 3 0)).ref = some (s.dev.entryRef q Op.sched e) ∧ d.sys.commitReqs =
            (if f.schedKind (sqF e 1 3 0) = 1 then s.dev.sys.commitReqs ++ [⟨false, none, .entry (sqF e 1 3 0), s.dev.stampNow⟩] else s.dev.sys.commitReqs)))) ∧
  (∀ (s : State) (q : Nat) (e : SqEntry), s.dev.takesEntry q Op.sched e = true → sqF e 1 31 28 = 2 → sqF e 1 3 0 < s.dev.tmb.sched.length →
    s.dev.level (some q) ≤ s.dev.schedLevel (s.dev.schedKind (sqF e 1 3 0)) (s.dev.schedTarget (sqF e 1 3 0)) → (s.dev.sched (sqF e 1 3 0)).st = 1 →
    ∃ d, exec (.schedCancel q e) s = .next { s with dev := d } ∧ (d.sched (sqF e 1 3 0)).st = 6 ∧
      d.sys.commitReqs = s.dev.sys.commitReqs.filter (fun r => r.origin != .entry (sqF e 1 3 0)) ∧ d.rw = s.dev.rw ∧ d.active = s.dev.active) ∧
  (∀ (s : State) (q : Nat) (e : SqEntry) (trim : Int), s.dev.takesEntry q Op.timeAdj e = true → bit (sqW e 1) 0 = true → bit (sqW e 1) 1 = false → s.dev.level (some q) ≤ 1 →
    trim = signed 40 ((sqW e 2).toNat + sqF e 3 7 0 * 2 ^ 32) → -2748779069 ≤ trim → trim ≤ 2748779069 →
    ∃ d, exec (.timeAdjIncr q e) s = .next { s with dev := d } ∧ d.tmb.reqs.getLast? = some ⟨false, trim, .desc (s.dev.entryRef q Op.timeAdj e), s.dev.stampNow, false⟩ ∧
      (∀ r ∈ d.tmb.reqs.dropLast, r.step = false → s.dev.afterEpoch = true ∧ r.stamp < s.dev.grid (s.dev.tmb.epoch + 1)) ∧ d.sys = s.dev.sys) ∧
  (∀ (s : State) (q : Nat) (e : SqEntry), s.dev.takesEntry q Op.timeAdj e = true → bit (sqW e 1) 0 = false → bit (sqW e 1) 1 = true → s.dev.level (some q) ≤ 1 →
    s.dev.mode = .config ∨ s.dev.mode = .standby ∨ s.dev.mode = .service →
    ∃ d, exec (.timeAdjStep q e) s = .next { s with dev := d } ∧ d.tmb.reqs = s.dev.tmb.reqs ++ [⟨true, signed 64 (sqD e 4), .desc (s.dev.entryRef q Op.timeAdj e), s.dev.stampNow, false⟩] ∧
      d.sys = s.dev.sys) ∧
  (∀ (s : State) (q : Nat) (e : SqEntry), s.dev.takesEntry q Op.trip e = true → sqF e 1 3 0 = 2 → s.dev.level (some q) ≤ 2 →
    ∃ d, exec (.tripOpEmergency q e) s = .next { s with dev := d } ∧ d.causeUp Cause.emergency = true ∧ d.sys.tripRefs = s.dev.sys.tripRefs ++ [(s.dev.stampNow, s.dev.entryRef q Op.trip e)] ∧
      d.tmb = s.dev.tmb ∧ d.rw = s.dev.rw) ∧
  (∀ (s : State) (q : Nat) (e : SqEntry), s.dev.takesEntry q Op.trip e = true → sqF e 1 3 0 = 3 → s.dev.level (some q) ≤ 1 →
    ∃ d, exec (.tripOpClear q e) s = .next { s with dev := d } ∧ d = { s.dev with sys := d.sys, pci := d.pci } ∧
      d.sys = { s.dev.sys with tripClears := s.dev.sys.tripClears ++ [(s.dev.stampNow, some (s.dev.entryRef q Op.trip e))] }) ∧
  (∀ (s : State) (q : Nat) (e : SqEntry), s.dev.takesEntry q Op.ethTx e = true → s.dev.level (some q) ≤ 1 → s.dev.domOn 6 = true → 60 ≤ sqF e 1 27 16 → sqF e 1 27 16 ≤ 2040 →
    ∃ d, exec (.ethTx q e) s = .next { s with dev := d } ∧ d = { s.dev with pci := d.pci } ∧
      d.pci.txq = s.dev.pci.txq ++ [⟨s.dev.entryRef q Op.ethTx e, sqF e 1 1 0, sqF e 1 27 16⟩]) ∧
  (∀ (s : State) (q : Nat) (e : SqEntry), s.dev.takesEntry q Op.ethRxbuf e = true → s.dev.level (some q) ≤ 1 → s.dev.domOn 6 = true →
    s.dev.afld R.PCI_ETH_CFG (8 * sqF e 1 1 0 + 4) (8 * sqF e 1 1 0) = q →
    ∃ d, exec (.ethRxbuf q e) s = .next { s with dev := d } ∧ d = { s.dev with pci := d.pci } ∧
      d.pci.rxbufs = s.dev.pci.rxbufs ++ [⟨s.dev.entryRef q Op.ethRxbuf e, sqF e 1 1 0, 2048⟩])

/-- R520: an entry whose opcode is not listed, whose COUNT or PORT is out of range, with a reserved bit 1 or an address that is not 4-byte aligned completes as MALFORMED
and is not applied: the queue's own state, the message of its vector and the count of free values are all that changes. -/
def Obligations.MalformedEntriesAreNotApplied : Prop :=
  (∀ (s : State) (q : Nat) (e : SqEntry) (p : Instr × Nat),
    p ∈ [(Instr.nop q e, Op.nop), (.regStage q e, Op.regStage), (.regRead q e, Op.regRead), (.commit q e, Op.commit), (.commitDescriptorAbandon q e, Op.commit), (.mode q e, Op.mode),
      (.schedArm q e, Op.sched), (.schedCancel q e, Op.sched), (.timeAdjIncr q e, Op.timeAdj), (.timeAdjStep q e, Op.timeAdj), (.tripOpTrip q e, Op.trip),
      (.tripOpEmergency q e, Op.trip), (.tripOpClear q e, Op.trip), (.recXfer q e, Op.recXfer), (.recTrigDescriptor q e, Op.recTrig), (.ethTx q e, Op.ethTx),
      (.ethRxbuf q e, Op.ethRxbuf)] →
    s.dev.canFetch q (sqFence e) = true → sqReserved p.2 e = true ∨ sqCountBad p.2 e = true ∨ sqAddrBad p.2 e = true →
    exec p.1 s = .next { s with dev := (s.dev.fetched q).completeOpen (s.dev.entryRef q p.2 e) 1 }) ∧
  (∀ (s : State) (q i : Nat) (w : Word), q < 32 → s.dev.unpowered = false → (s.dev.queue q).st = 1 → i < s.dev.sqSize q → 12 ≤ fld w 7 0 →
    (s.dev.setQueue q { s.dev.queue q with sqTail := i }).canFetch q (bit w 8) = true →
    exec (.sqTail q i [w]) s = .next { s with dev := ((s.dev.setQueue q { s.dev.queue q with sqTail := i }).fetched q).completeOpen ⟨q, (s.dev.queue q).gen, fld w 31 16, fld w 7 0⟩ 1 }) ∧
  (∀ (d : Dev) (q : Nat) (r : CompRef), r.q = q →
    ∃ x, x = (d.fetched q).completeOpen r 1 ∧
      x = { d with free := d.free + 1, pci := { d.pci with queues := x.pci.queues, msixPending := x.pci.msixPending, msixSent := x.pci.msixSent } } ∧
      (∀ m, m ≠ q → x.queue m = d.queue m))

-- The vault, the tally unit, the registers and the debug ports -----------------------------------------------------------

/-- A vault command is refused as BUSY, PRIVILEGE, MODE or STATE in that order, and changes then nothing but its result and the fault it records; an admitted one has its
effect on the vault's storage and runs to its completion, which gives its result (R543, R555–R562). -/
def Obligations.VaultCommandsAreAdmittedAndRun : Prop :=
  (∀ (s : State) (c : Instr) (op lvl : Nat) (modeOk : Bool), s.dev.hostUp = true → s.dev.bootHidden R.VLT_CMD = false →
    (c, op, lvl, modeOk) ∈ [(Instr.provision, 1, 0, s.dev.mode == .config), (.setOwner, 2, 0, s.dev.mode == .config), (.storeCert 64, 3, 0, s.dev.mode == .config),
      (.ctrInc 5, 4, 0, s.dev.mode == .config || s.dev.mode == .service), (.sealVault, 5, 0, s.dev.mode == .config), (.attest, 6, 2, s.dev.mode != .boot),
      (.challenge, 7, 0, s.dev.mode == .service), (.unlock, 8, 0, s.dev.mode == .service)] →
    (s.dev.vlt.running.isSome = true → exec c s = .next { s with dev := { s.dev with vlt := { s.dev.vlt with cmdOp := op, cmdResult := 2 } } }) ∧
    (s.dev.vlt.running = none → lvl < s.dev.level none →
      ∃ d, exec c s = .next { s with dev := d } ∧ d = { s.dev with apu := d.apu, pci := { s.dev.pci with evq := d.pci.evq }, vlt := { s.dev.vlt with cmdOp := op, cmdResult := 5 } } ∧
        d.apu.ofs = R.VLT_CMD) ∧
    (s.dev.vaultOpen lvl = true → modeOk = false → exec c s = .next { s with dev := { s.dev with vlt := { s.dev.vlt with cmdOp := op, cmdResult := 4 } } }) ∧
    (s.dev.vaultOpen 0 = true → s.dev.mode = .config → s.dev.vlt.ownerSet = true →
      exec .setOwner s = .next { s with dev := { s.dev with vlt := { s.dev.vlt with cmdOp := 2, cmdResult := 3 } } })) ∧
  (∀ s : State, s.dev.vaultOpen 0 = true → s.dev.mode = .config →
    (s.dev.vlt.st = 0 ∨ s.dev.vlt.st = 2 → ∃ d, exec .provision s = .next { s with dev := d } ∧ d = { s.dev with vlt := d.vlt, free := d.free } ∧ d.vlt.st = 1 ∧ d.vlt.idPriv.length = 66 ∧
      d.vlt.idPub.length = 132 ∧ d.vlt.cert = [] ∧ d.vlt.running = some 1 ∧ d.vlt.ctrs = s.dev.vlt.ctrs ∧ d.vlt.ownerHash = s.dev.vlt.ownerHash) ∧
    (s.dev.vlt.ownerSet = false → ∃ d, exec .setOwner s = .next { s with dev := d } ∧ d = { s.dev with vlt := d.vlt } ∧ d.vlt.ownerSet = true ∧
      d.vlt.ownerHash = ofLe (s.dev.vltArgs 64) ∧ d.vlt.running = some 2 ∧ d.vlt.ctrs = s.dev.vlt.ctrs) ∧
    (∀ len, s.dev.vlt.st = 1 → s.dev.vlt.sealed = false → ∃ d, exec (.storeCert len) s = .next { s with dev := d } ∧ d = { s.dev with vlt := d.vlt } ∧ d.vlt.running = some 3 ∧
      (1 ≤ len → len ≤ 2048 → d.vlt.cert = s.dev.vltArgs len ∧ d.vlt.pendResult = 1) ∧ (len = 0 ∨ 2048 < len → d.vlt.cert = s.dev.vlt.cert ∧ d.vlt.pendResult = 7)) ∧
    (∀ i, ∃ d, exec (.ctrInc i) s = .next { s with dev := d } ∧ d = { s.dev with vlt := d.vlt } ∧ d.vlt.running = some 4 ∧
      (2 ≤ i → i ≤ 15 → nth s.dev.vlt.ctrs i 0 < 0xFFFFFFFF → d.vlt.ctrs = modAt s.dev.vlt.ctrs i (· + 1) ∧ d.vlt.pendResult = 1) ∧
      (i < 2 ∨ 15 < i ∨ 0xFFFFFFFF ≤ nth s.dev.vlt.ctrs i 0 → d.vlt.ctrs = s.dev.vlt.ctrs ∧ d.vlt.pendResult = 7)) ∧
    (s.dev.vlt.st = 1 → s.dev.vlt.ownerSet = true → s.dev.vlt.cfgVerified = true → ∃ d, exec .sealVault s = .next { s with dev := d } ∧ d = { s.dev with vlt := d.vlt } ∧
      d.vlt.sealPend = true ∧ d.vlt.sealed = s.dev.vlt.sealed ∧ d.vlt.running = some 5)) ∧
  (∀ s : State, s.dev.vaultOpen 2 = true → s.dev.mode ≠ .boot → s.dev.vlt.st = 1 →
    ∃ d, exec .attest s = .next { s with dev := d } ∧ d = { s.dev with vlt := d.vlt } ∧ d.vlt.attest = 1 ∧ d.vlt.nonce = forN 16 (fun w => s.dev.rwv (R.VLT_ARGw w)) ∧
      d.vlt.running = some 6) ∧
  (∀ s : State, s.dev.vlt.attest = 2 →
    ∃ d sig, exec .attestReport s = .next { s with dev := d } ∧ d = { s.dev with vlt := d.vlt, free := s.dev.free + 1 } ∧ d.vlt.out = s.dev.vlt.report ++ sig ∧ sig.length = 132 ∧
      d.vlt.running = none ∧ d.vlt.cmdResult = s.dev.vlt.pendResult ∧ d.vlt.attest = 0) ∧
  (∀ s : State, s.dev.vaultOpen 0 = true → s.dev.mode = .service → s.dev.vlt.svcPolicy = 0 → s.dev.vlt.unlockFails < 3 →
    ∃ d, exec .challenge s = .next { s with dev := d } ∧ d = { s.dev with vlt := d.vlt, free := d.free } ∧ d.vlt.challenge.length = 64 ∧ d.vlt.out = d.vlt.challenge ∧
      d.vlt.challengeEnd = s.dev.tmb.up + 60 * secU ∧ d.vlt.running = some 7) ∧
  (∀ s : State, s.dev.vlt.challenge ≠ [] → s.dev.vlt.challengeEnd ≤ s.dev.tmb.up →
    exec .challengeExpiry s = .next { s with dev := { s.dev with vlt := { s.dev.vlt with challengeEnd := 0 } } }) ∧
  (∀ s : State, s.dev.vaultOpen 0 = true → s.dev.mode = .service → s.dev.vlt.challenge ≠ [] →
    ∃ d, exec .unlock s = .next { s with dev := d } ∧ d = { s.dev with vlt := d.vlt } ∧ d.vlt.challenge = [] ∧ d.vlt.svcOpen = s.dev.vlt.svcOpen ∧ d.vlt.running = some 8 ∧
      (s.dev.vlt.challengeEnd ≤ s.dev.tmb.up → d.vlt.pendResult = 8 ∧ d.vlt.marker = s.dev.vlt.marker ∧ d.vlt.idPriv = s.dev.vlt.idPriv) ∧
      (s.dev.tmb.up < s.dev.vlt.challengeEnd → s.dev.vlt.ownerSet = false → d.vlt.pendResult = 1 ∧ d.vlt.marker = true ∧ d.vlt.idPriv = [] ∧ d.vlt.sealed = false) ∧
      (d.vlt.pendResult = 6 → d.vlt.unlockFails = min 3 (s.dev.vlt.unlockFails + 1) ∧ d.vlt.idPriv = s.dev.vlt.idPriv)) ∧
  (∀ (s : State) (op : Nat), s.dev.vlt.running = some op → op ≠ 5 → op ≠ 6 →
    ∃ d, exec .vltCommandComplete s = .next { s with dev := d } ∧ d = { s.dev with vlt := d.vlt, pci := d.pci } ∧ d.vlt.running = none ∧ d.vlt.cmdOp = op ∧
      d.vlt.cmdResult = s.dev.vlt.pendResult ∧ (op = 8 → s.dev.vlt.marker = true → d.vlt.st = 2 ∧ d.vlt.marker = false ∧ (s.dev.mode = .service → d.vlt.svcOpen = true)) ∧
      (op ≠ 8 → d.vlt.svcOpen = s.dev.vlt.svcOpen))

/-- A scan job's pass falls due with its interval, or is late while one is under way or under THROTTLE; the end of a pass counts it and keeps its result (R564, R567,
R568, R590). -/
def Obligations.ScanPassesRunAndEnd : Prop :=
  (∀ (s : State) (j t : Nat), j < 8 → j < s.dev.jobs.length → (s.dev.job j).dueAt = some t → t ≤ s.dev.tmb.up →
    ∃ d, exec (.tlyPassDue j) s = .next { s with dev := d } ∧ d = { s.dev with jobs := d.jobs, sticky := d.sticky, clears := d.clears } ∧ (d.job j).dueAt = s.dev.nextPass j t ∧
      (s.dev.thm.throttle = false → (s.dev.job j).st = 0 → (d.job j).st ≠ 0 ∧ (d.job j).lateCnt = (s.dev.job j).lateCnt) ∧
      (s.dev.thm.throttle = true ∨ (s.dev.job j).st ≠ 0 → (d.job j).st = (s.dev.job j).st ∧ (d.job j).lateCnt = sat16 (s.dev.job j).lateCnt 1)) ∧
  (∀ (s : State) (j corrected : Nat) (bad : List Nat), j < 8 → j < s.dev.jobs.length → (s.dev.job j).st = 2 → (s.dev.job j).restart = false →
    ∃ d, exec (.tlyPassComplete j corrected bad) s = .next { s with dev := d } ∧ d = { s.dev with jobs := d.jobs, sticky := d.sticky, clears := d.clears, pci := d.pci, free := d.free } ∧
      (d.job j).st = 0 ∧ (d.job j).passes = sat16 (s.dev.job j).passes 1 ∧
      (∀ bs, s.dev.scanBytes s.dram j = some bs → (d.job j).resLo = polyOf (s.dev.afld (R.TLY_JOBj_CFG j) 21 20) bs % 2 ^ 32 ∧
        (d.job j).resHi = polyOf (s.dev.afld (R.TLY_JOBj_CFG j) 21 20) bs / 2 ^ 32 ∧ d.free = s.dev.free))

/-- A narrow or unaligned access, a write of a read-only register, of an offset without register and a refused access are access faults at their offset; a writable
register takes its value; an admitted read has no effect. The boundary-scan port takes its instruction, the service port is ignored while closed (R9, R10, R543, R632,
R633). -/
def Obligations.RegisterAndPortAccesses : Prop :=
  (∀ (s : State) (off : Nat) (v : Word) (whole : Bool), off < 16777216 → s.dev.hostUp = true → s.dev.bootHidden off = false →
    (whole = false ∨ off % 4 ≠ 0 ∧ off ≠ R.SYS_SNAP_CTRL → ∃ d, exec (.registerWrite off v whole) s = .next { s with dev := d } ∧ s.dev.onlyFault d ∧ d.apu.ofs = off ∧
      fld (word d.apu.info) 31 28 = 0) ∧
    (off % 4 = 0 → readOnly off = true → off ≠ R.SYS_SNAP_CTRL → ∃ d, exec (.registerWrite off v true) s = .next { s with dev := d } ∧ s.dev.onlyFault d ∧ d.apu.ofs = off ∧
      fld (word d.apu.info) 31 28 = 4) ∧
    (off % 4 = 0 → readOnly off = false → findReg off = none → off ≠ R.SYS_SNAP_CTRL → ∃ d, exec (.registerWrite off v true) s = .next { s with dev := d } ∧ s.dev.onlyFault d ∧
      d.apu.ofs = off ∧ fld (word d.apu.info) 31 28 = 1) ∧
    (whole = false ∨ off % 4 ≠ 0 → ∃ d, exec (.bar0ReadFault off whole) s = .next { s with dev := d } ∧ s.dev.onlyFault d ∧ d.apu.ofs = off ∧ fld (word d.apu.info) 31 28 = 0) ∧
    (off % 4 = 0 → s.dev.regionAdmits (s.dev.level none) off false = false → ∃ d, exec (.bar0ReadFault off true) s = .next { s with dev := d } ∧ s.dev.onlyFault d ∧ d.apu.ofs = off ∧
      fld (word d.apu.info) 31 28 = 2) ∧
    (off % 4 = 0 → s.dev.regionAdmits (s.dev.level none) off false = true → exec (.bar0ReadFault off true) s = .next s)) ∧
  (∀ (s : State) (off : Nat) (v : Word) (r : RegDef), off < 16777216 → s.dev.hostUp = true → s.dev.bootHidden off = false → off % 4 = 0 → off ≠ R.SYS_SNAP_CTRL →
    readOnly off = false → findReg off = some r → s.dev.cmdWrite off v = none → s.dev.writeAdmitted none 3 off = true →
    ((schedReg off).map (fun e => (s.dev.sched e).st == 1)).getD false = false → (∀ f ∈ r.flds, f.acc = .rw ∨ f.acc = .ro) → r.flds.any (fun f => f.acc == .rw) = true →
    exec (.registerWrite off v true) s = .next { s with dev := s.dev.setRw off v }) ∧
  (∀ (s : State) (i : Nat),
    exec (.boundaryScan i) s = .next { s with dev := { s.dev with pins := { s.dev.pins with scanInstr := i, scanActive := if s.dev.mode.live = true ∧ 2 < i then 0 else i } } }) ∧
  (∀ s : State, (s.dev.vlt.svcOpen = true → exec .servicePortAccess s = .next { s with dev := { s.dev with pins := { s.dev.pins with svcAccesses := s.dev.pins.svcAccesses + 1 } } }) ∧
    (s.dev.vlt.svcOpen = false → exec .servicePortAccess s = .next s))

/-- R555: a counter of the vault never decreases, whatever command is carried out. -/
def Obligations.VaultCountersNeverDecrease : Prop := ∀ (c : Instr) (s t : State), exec c s = .next t → ∀ i, nth s.dev.vlt.ctrs i 0 ≤ nth t.dev.vlt.ctrs i 0
end

