-- ==== Sys2Proof/Laws/Lists.lean ====
section
/-! SUPPORT. Lemmas of the small list helpers. -/
namespace Sys2Proof.Machine

variable {α : Type}

theorem nth_replicate (n i : Nat) (x : α) : nth (List.replicate n x) i x = x := by
  simp only [nth, List.getD_eq_getElem?_getD, List.getElem?_replicate]
  split <;> rfl

theorem nth_setAt_self (l : List α) (i : Nat) (v d : α) (h : i < l.length) : nth (setAt l i v) i d = v := by
  simp [nth, setAt, h]

theorem nth_setAt_ne (l : List α) (i j : Nat) (v d : α) (h : i ≠ j) : nth (setAt l i v) j d = nth l j d := by
  simp [nth, setAt, List.getElem?_set_ne h]

theorem nth_setAt_out (l : List α) (i : Nat) (v d : α) (h : l.length ≤ i) : nth (setAt l i v) i d = nth l i d := by
  simp [nth, setAt, List.set_eq_of_length_le h]

theorem length_setAt (l : List α) (i : Nat) (v : α) : (setAt l i v).length = l.length := by simp [setAt]

theorem length_modAt (l : List α) (i : Nat) (f : α → α) : (modAt l i f).length = l.length := by simp [modAt]

theorem nth_modAt_self (l : List α) (i : Nat) (f : α → α) (d : α) (h : i < l.length) : nth (modAt l i f) i d = f (nth l i d) := by
  simp [nth, modAt, List.getElem?_eq_getElem h]

theorem nth_modAt_ne (l : List α) (i j : Nat) (f : α → α) (d : α) (h : i ≠ j) : nth (modAt l i f) j d = nth l j d := by
  simp [nth, modAt, h]

theorem length_forN (n : Nat) (f : Nat → α) : (forN n f).length = n := by simp [forN]

theorem nth_forN (n i : Nat) (f : Nat → α) (d : α) (h : i < n) : nth (forN n f) i d = f i := by simp [nth, forN, h]

theorem getD_forN (n i : Nat) (f : Nat → α) (d : α) (h : i < n) : (forN n f).getD i d = f i := by simp [forN, h]

theorem nth_forN_out (n i : Nat) (f : Nat → α) (d : α) (h : n ≤ i) : nth (forN n f) i d = d := by simp [nth, forN, h]

/-- A property that every step of a fold keeps holds of its result. -/
theorem foldl_keeps {β : Type} (P : β → Prop) (f : β → α → β) (step : ∀ x a, P x → P (f x a)) (l : List α) (b : β) (h : P b) : P (l.foldl f b) := by
  induction l generalizing b with
  | nil => exact h
  | cons a l ih => exact ih _ (step _ _ h)

/-- What every step of a fold leaves alone the fold leaves alone. -/
theorem foldl_same {β γ : Type} (g : β → γ) (f : β → α → β) (step : ∀ x a, g (f x a) = g x) (l : List α) (b : β) : g (l.foldl f b) = g b := by
  induction l generalizing b with
  | nil => rfl
  | cons a l ih => exact (ih _).trans (step _ _)

end Sys2Proof.Machine
end

