-- ==== Sys2Proof/Laws/Cause.lean ====
section
/-! SUPPORT. What a drive pair's tick, an emergency block and a cause of a protective block can do (R128, R130, R466, R472). -/
namespace Sys2Proof.Machine

theorem Dev.onlyCause_refl (a : Dev) : a.onlyCause a := rfl

theorem Dev.onlyCause_trans {a b c : Dev} (h : a.onlyCause b) (k : b.onlyCause c) : a.onlyCause c := by
  unfold Dev.onlyCause at *
  rw [k, h]

theorem Dev.onlyCause_foldl {α : Type} (f : Dev → α → Dev) (step : ∀ x a, Dev.onlyCause x (f x a)) (l : List α) (d : Dev) : d.onlyCause (l.foldl f d) := by
  induction l generalizing d with
  | nil => rfl
  | cons a l ih => exact Dev.onlyCause_trans (step d a) (ih _)

theorem Dev.setPair_cause (d : Dev) (n : Nat) (p : Pair) : d.onlyCause (d.setPair n p) := rfl
theorem Dev.setSticky_cause (d : Dev) (o : Nat) (b : Word) : d.onlyCause (d.setSticky o b) := rfl
theorem Dev.raise_cause (d : Dev) (s i r m : Nat) (w : List Word) : d.onlyCause (d.raise s i r m w) := rfl
theorem Dev.trigger_cause (d : Dev) (b c s e : Nat) : d.onlyCause (d.trigger b c s e) := by
  unfold Dev.trigger; split <;> rfl
theorem Dev.raiseT_cause (d : Dev) (b c s i r m : Nat) (w : List Word) : d.onlyCause (d.raiseT b c s i r m w) :=
  Dev.onlyCause_trans (d.raise_cause s i r m w) (Dev.trigger_cause ..)

theorem Dev.tripEvent_cause (d : Dev) : d.onlyCause d.tripEvent := by
  simp only [Dev.tripEvent]
  split
  · rfl
  · refine Dev.onlyCause_trans ?_ (Dev.trigger_cause ..)
    rfl

theorem Dev.tripPair_cause (d : Dev) (n : Nat) (c ds h : Bool) : d.onlyCause (d.tripPair n c ds h) := by
  simp only [Dev.tripPair]
  refine Dev.onlyCause_trans ?_ (Dev.tripEvent_cause _)
  rfl

theorem Dev.pairTick_cause (d : Dev) (n : Nat) : d.onlyCause (d.pairTick n) := by
  simp only [Dev.pairTick]
  repeat' split
  all_goals first | exact Dev.tripPair_cause .. | rfl

theorem Dev.ddpTick_cause (d : Dev) : d.onlyCause d.ddpTick := Dev.onlyCause_foldl _ Dev.pairTick_cause _ _

theorem Dev.ddpForce_cause (d : Dev) (b : Bool) : d.onlyCause (d.ddpForce b) := by
  simp only [Dev.ddpForce]
  refine Dev.onlyCause_trans ?_ (Dev.ddpTick_cause _)
  rfl

theorem Dev.sendEblk_cause (d : Dev) (c : Nat) : d.onlyCause (d.sendEblk c) := by
  simp only [Dev.sendEblk]
  split
  · rfl
  · refine Dev.onlyCause_trans ?_ (Dev.onlyCause_foldl (fun (x : Dev) n => x.laneSend n d.tmb.up [eblkBlock (d.tmb.epoch % 65536) c]) (fun _ _ => rfl) _ _)
    rfl

/-- A drive pair's tick raises no cause. -/
@[simp] theorem Dev.trigger_sys (d : Dev) (b c s e : Nat) : (d.trigger b c s e).sys = d.sys := by
  unfold Dev.trigger; split <;> rfl
@[simp] theorem Dev.pairTick_sys (d : Dev) (n : Nat) : (d.pairTick n).sys = d.sys := by
  simp only [Dev.pairTick, Dev.tripPair, Dev.tripEvent]
  repeat' split
  all_goals first | rfl | exact Dev.trigger_sys ..
@[simp] theorem Dev.ddpTick_sys (d : Dev) : d.ddpTick.sys = d.sys := foldl_same Dev.sys _ Dev.pairTick_sys _ _
@[simp] theorem Dev.sendEblk_sys (d : Dev) (c : Nat) : (d.sendEblk c).sys = d.sys := by
  simp only [Dev.sendEblk]
  split
  · rfl
  · exact foldl_same Dev.sys (fun (x : Dev) n => x.laneSend n d.tmb.up [eblkBlock (d.tmb.epoch % 65536) c]) (fun _ _ => rfl) _ _

/-- Everything a raised cause can do. -/
theorem Dev.raiseCause_cause (d : Dev) (bit : Nat) : d.onlyCause (d.raiseCause bit) := by
  simp only [Dev.raiseCause]
  split
  · rfl
  · refine Dev.onlyCause_trans ?_ (Dev.raiseT_cause ..)
    split
    · split
      · refine Dev.onlyCause_trans ?_ (Dev.ddpForce_cause ..)
        rfl
      · refine Dev.onlyCause_trans ?_ (Dev.ddpForce_cause ..)
        rfl
    · refine Dev.onlyCause_trans ?_ (Dev.sendEblk_cause ..)
      split
      · refine Dev.onlyCause_trans ?_ (Dev.ddpForce_cause ..)
        rfl
      · refine Dev.onlyCause_trans ?_ (Dev.ddpForce_cause ..)
        rfl

@[simp] theorem Dev.ddpForce_sys (d : Dev) (b : Bool) : (d.ddpForce b).sys = d.sys := (Dev.ddpTick_sys _).trans rfl

/-- The causes after one is raised. -/
theorem Dev.raiseCause_raised (d : Dev) (bit : Nat) :
    (d.raiseCause bit).sys.raised = if d.causeUp bit then d.sys.raised else d.sys.raised ++ [⟨bit, d.tmb.epoch, d.stampNow⟩] := by
  simp only [Dev.raiseCause, Dev.causeUp, Dev.raiseT]
  by_cases h : (d.sys.raised.any fun r => r.bit == bit) = true
  · simp only [h, if_true]
  · simp only [h]
    rw [if_neg (by simp), Dev.trigger_sys]
    have k (x : Dev) : (if bit = Cause.clock ∨ bit = Cause.frtTimeout then x else x.sendEblk bit).sys = x.sys := by
      split <;> simp [Dev.sendEblk_sys]
    simp only [Dev.raise, Dev.raiseAt, k]
    split <;> simp [Dev.ddpForce_sys]

theorem Dev.raiseCause_up (d : Dev) (bit : Nat) : (d.raiseCause bit).causeUp bit = true := by
  unfold Dev.causeUp
  rw [Dev.raiseCause_raised]
  by_cases h : d.causeUp bit = true
  · rw [if_pos h]; exact h
  · rw [if_neg h]; simp

/-- A cause that is up stays up when another is raised. -/
theorem Dev.raiseCause_keeps (d : Dev) (a b : Nat) (h : d.causeUp a = true) : (d.raiseCause b).causeUp a = true := by
  unfold Dev.causeUp
  rw [Dev.raiseCause_raised]
  by_cases k : d.causeUp b = true
  · rw [if_pos k]; exact h
  · rw [if_neg k, List.any_append]; simp only [Dev.causeUp] at h; simp [h]

end Sys2Proof.Machine
end

