-- ==== Sys2Proof/Laws/Dram.lean ====
section
/-! SUPPORT. Sparse tables and the recorder DRAM: every write keeps the canonical form, a byte reads back, every other byte stays. -/
namespace Sys2Proof.Machine

variable {α : Type} [DecidableEq α] (dflt : Nat → α)

theorem spWf_cons (j : Nat) (v : α) (m : List (Nat × α)) : spWf dflt ((j, v) :: m) = true ↔ v ≠ dflt j ∧ spAbove j m = true ∧ spWf dflt m = true := by
  simp [spWf, and_assoc]

/-- A key below the first key of a table is below the first key of the table with a higher key written. -/
theorem spAbove_spPut (j k : Nat) (v : α) (m : List (Nat × α)) (hm : spWf dflt m = true) (h : spAbove j m = true) (hk : j < k) : spAbove j (spPut dflt k v m) = true := by
  cases m with
  | nil => simp only [spPut]; split <;> simp [spAbove, hk]
  | cons x m =>
    obtain ⟨i, w⟩ := x
    have hi : j < i := by simpa [spAbove] using h
    simp only [spPut]
    split
    · split <;> simp [spAbove, hi, hk]
    · split
      · split
        · have := ((spWf_cons dflt i w m).1 hm).2.1
          cases m with
          | nil => rfl
          | cons y m => simp [spAbove] at this ⊢; omega
        · simp [spAbove, hk]
      · simp [spAbove, hi]

/-- Writing keeps the canonical form. -/
theorem spPut_wf (k : Nat) (v : α) (m : List (Nat × α)) (h : spWf dflt m = true) : spWf dflt (spPut dflt k v m) = true := by
  induction m with
  | nil =>
    simp only [spPut]
    split
    · rfl
    · rename_i hv; exact (spWf_cons dflt k v []).2 ⟨hv, rfl, rfl⟩
  | cons x m ih =>
    obtain ⟨j, w⟩ := x
    have hm := (spWf_cons dflt j w m).1 h
    simp only [spPut]
    split
    · rename_i hk
      split
      · exact h
      · rename_i hv; exact (spWf_cons dflt k v _).2 ⟨hv, by simp [spAbove, hk], h⟩
    · split
      · rename_i hk
        split
        · exact hm.2.2
        · rename_i hv; subst hk; exact (spWf_cons dflt k v m).2 ⟨hv, hm.2⟩
      · exact (spWf_cons dflt j w _).2 ⟨hm.1, spAbove_spPut dflt j k v m hm.2.2 hm.2.1 (by omega), ih hm.2.2⟩

/-- A key below every key of a canonical table is unlisted. -/
theorem spGet_above (k : Nat) (m : List (Nat × α)) (h : spWf dflt m = true) (ha : spAbove k m = true) : spGet dflt m k = dflt k := by
  induction m with
  | nil => rfl
  | cons x m ih =>
    obtain ⟨j, w⟩ := x
    have hj : k < j := by simpa [spAbove] using ha
    have hm := (spWf_cons dflt j w m).1 h
    have hk : spAbove k m = true := by
      have := hm.2.1
      cases m with
      | nil => rfl
      | cons y m => simp [spAbove] at this ⊢; omega
    simp only [spGet, show ¬ (j = k) by omega, if_false]
    exact ih hm.2.2 hk

/-- What has been written is read. -/
theorem spGet_spPut_self (k : Nat) (v : α) (m : List (Nat × α)) (h : spWf dflt m = true) : spGet dflt (spPut dflt k v m) k = v := by
  induction m with
  | nil =>
    simp only [spPut]
    split
    · rename_i hv; exact hv.symm
    · simp [spGet]
  | cons x m ih =>
    obtain ⟨j, w⟩ := x
    have hm := (spWf_cons dflt j w m).1 h
    simp only [spPut]
    split
    · rename_i hk
      split
      · rename_i hv; rw [hv]; exact spGet_above dflt k _ h (by simp [spAbove, hk])
      · simp [spGet]
    · split
      · rename_i hk
        split
        · rename_i hv; rw [hv]; subst hk; exact spGet_above dflt k m hm.2.2 hm.2.1
        · simp [spGet]
      · rename_i hk
        simp only [spGet, show ¬ (j = k) by omega, if_false]
        exact ih hm.2.2

/-- Every other key reads as before. -/
theorem spGet_spPut_ne (k i : Nat) (v : α) (m : List (Nat × α)) (hi : i ≠ k) : spGet dflt (spPut dflt k v m) i = spGet dflt m i := by
  have hki : ¬ (k = i) := fun h => hi h.symm
  induction m with
  | nil => simp only [spPut]; split <;> simp [spGet, hki]
  | cons x m ih =>
    obtain ⟨j, w⟩ := x
    simp only [spPut]
    split
    · split <;> simp [spGet, hki]
    · split
      · rename_i hk
        subst hk
        split <;> simp [spGet, hki]
      · simp only [spGet, ih]

/-- Keys that all satisfy a bound still do after a write of such a key. -/
theorem spPut_all (P : Nat → Bool) (k : Nat) (v : α) (m : List (Nat × α)) (hk : P k = true) (h : m.all (fun c => P c.1) = true) :
    (spPut dflt k v m).all (fun c => P c.1) = true := by
  induction m with
  | nil => simp only [spPut]; split <;> simp [hk]
  | cons x m ih =>
    obtain ⟨j, w⟩ := x
    simp only [List.all_cons, Bool.and_eq_true] at h
    simp only [spPut]
    split
    · split <;> simp only [List.all_cons, Bool.and_eq_true, hk, h, and_self]
    · split
      · split
        · exact h.2
        · simp only [List.all_cons, Bool.and_eq_true, hk, h, and_self]
      · simp only [List.all_cons, Bool.and_eq_true, h.1, ih h.2, and_self]

-- The recorder DRAM ----------------------------------------------------------------------------------------------------

theorem dramWf_iff (m : List Host.Cell) : dramWf m = true ↔ spWf dramDflt m = true ∧ m.all (fun c => decide (c.1 < 268435456)) = true := by simp [dramWf]

theorem dramWf_nil : dramWf [] = true := by decide

/-- A write of a byte keeps the canonical form, inside the DRAM or not. -/
theorem dramPut_wf (m : List Host.Cell) (a : Nat) (b : Byte) (h : dramWf m = true) : dramWf (dramPut m a b) = true := by
  unfold dramPut
  split
  · rename_i ha
    have := (dramWf_iff m).1 h
    exact (dramWf_iff _).2 ⟨spPut_wf _ a b m this.1, spPut_all dramDflt (fun k => decide (k < 268435456)) a b m (by simpa using ha) this.2⟩
  · exact h

theorem dramPutBytes_wf (bs : List Nat) (m : List Host.Cell) (a : Nat) (h : dramWf m = true) : dramWf (dramPutBytes m a bs) = true := by
  induction bs generalizing m a with
  | nil => exact h
  | cons b bs ih => exact ih _ _ (dramPut_wf m a _ h)

theorem dramPutWords_wf (m : List Host.Cell) (a : Nat) (ws : List Word) (h : dramWf m = true) : dramWf (dramPutWords m a ws) = true := dramPutBytes_wf _ m a h

/-- A byte written reads back. -/
theorem dramByte_dramPut_self (m : List Host.Cell) (a : Nat) (b : Byte) (h : dramWf m = true) (ha : a < 268435456) : dramByte (dramPut m a b) a = b := by
  simp only [dramByte, dramPut, ha, if_true]
  exact spGet_spPut_self _ a b m ((dramWf_iff m).1 h).1

/-- Every other byte reads as before. -/
theorem dramByte_dramPut_ne (m : List Host.Cell) (a i : Nat) (b : Byte) (hi : i ≠ a) : dramByte (dramPut m a b) i = dramByte m i := by
  unfold dramByte dramPut
  split
  · exact spGet_spPut_ne _ a i b m hi
  · rfl

/-- Bytes outside those written read as before. -/
theorem dramByte_dramPutBytes (bs : List Nat) (m : List Host.Cell) (a i : Nat) (hi : i < a ∨ a + bs.length ≤ i) : dramByte (dramPutBytes m a bs) i = dramByte m i := by
  induction bs generalizing m a with
  | nil => rfl
  | cons b bs ih =>
    simp only [List.length_cons] at hi
    simp only [dramPutBytes]
    rw [ih _ _ (by omega), dramByte_dramPut_ne m a i _ (by omega)]

end Sys2Proof.Machine
end

