-- ==== Sys2Proof/Laws/HostAccess.lean ====
section
/-! SUPPORT. What the admission of BAR0 writes, an access fault and the fetch of an entry can do (R511, R517–R520, R540–R545). -/
namespace Sys2Proof.Machine

/-- An open command register lets the command run. -/
theorem Dev.bar0Cmd_open (d : Dev) (off l : Nat) (run : Dev → Dev) (h : d.bar0Open off l = true) : d.bar0Cmd off l run = run d := by
  simp only [Dev.bar0Open, Bool.and_eq_true, Bool.not_eq_true'] at h
  obtain ⟨⟨⟨a, b⟩, c⟩, e⟩ := h
  simp [Dev.bar0Cmd, a, b, c, e]

theorem Dev.bar0CmdElse_open (d : Dev) (off l : Nat) (denied run : Dev → Dev) (h : d.bar0Open off l = true) : d.bar0CmdElse off l denied run = run d := by
  simp only [Dev.bar0Open, Bool.and_eq_true, Bool.not_eq_true'] at h
  obtain ⟨⟨⟨a, b⟩, c⟩, _⟩ := h
  simp [Dev.bar0CmdElse, a, b, c]

/-- A refused write of a command register is an ADMISSION fault at that register and nothing else. -/
theorem Dev.bar0Cmd_refused (d : Dev) (off l : Nat) (run : Dev → Dev) (h : d.bar0Refused off l = true) : d.bar0Cmd off l run = d.accessFault none 2 off true := by
  simp only [Dev.bar0Refused, Bool.and_eq_true, Bool.not_eq_true'] at h
  obtain ⟨⟨a, b⟩, c⟩ := h
  simp [Dev.bar0Cmd, a, b, c]

/-- While the host does not reach the device a command register write has no effect. -/
theorem Dev.bar0Cmd_down (d : Dev) (off l : Nat) (run : Dev → Dev) (h : d.hostUp = false) : d.bar0Cmd off l run = d := by
  simp [Dev.bar0Cmd, h]

theorem Dev.bar0CmdElse_down (d : Dev) (off l : Nat) (denied run : Dev → Dev) (h : d.hostUp = false) : d.bar0CmdElse off l denied run = d := by
  simp [Dev.bar0CmdElse, h]

/-- Everything an access fault can do: the APU's registers and one event. -/
theorem Dev.accessFault_only (d : Dev) (src : Option Nat) (kind off : Nat) (w : Bool) : d.onlyFault (d.accessFault src kind off w) := by
  unfold Dev.accessFault
  cases src <;> (dsimp only; split <;> rfl)

theorem Dev.accessFault_ofs (d : Dev) (src : Option Nat) (kind off : Nat) (w : Bool) : (d.accessFault src kind off w).apu.ofs = off % 2 ^ 24 := by
  unfold Dev.accessFault
  cases src <;> (dsimp only; split <;> rfl)

theorem Dev.accessFault_cnt (d : Dev) (src : Option Nat) (kind off : Nat) (w : Bool) : (d.accessFault src kind off w).apu.cnt = sat32 d.apu.cnt 1 := by
  unfold Dev.accessFault
  cases src <;> (dsimp only; split <;> rfl)

theorem Dev.accessFault_info (d : Dev) (src : Option Nat) (kind off : Nat) (w : Bool) :
    (d.accessFault src kind off w).apu.info = put 31 28 kind + put 27 26 (d.level src) + put 25 25 (b2n w) + put 24 24 (b2n src.isNone) + put 20 16 (src.getD 0) := by
  unfold Dev.accessFault
  cases src <;> (dsimp only; split <;> rfl)

/-- An entry that is taken and well formed runs on the device that has fetched it. -/
theorem Dev.fetch_takes (d : Dev) (q op : Nat) (e : SqEntry) (run : Dev → CompRef → Dev) (h : d.takesEntry q op e = true) :
    d.fetch q op e run = run (d.fetched q) (d.entryRef q op e) := by
  simp only [Dev.takesEntry, Bool.and_eq_true, Bool.not_eq_true'] at h
  simp [Dev.fetch, Dev.entryRef, h.1, h.2]

theorem Dev.descForm_takes (d : Dev) (q op : Nat) (e : SqEntry) (form : Bool) (run : Dev → CompRef → Dev) (f : form = true) (h : d.takesEntry q op e = true) :
    d.descForm q e form op run = run (d.fetched q) (d.entryRef q op e) := by
  simp only [Dev.descForm, f, Bool.true_or, if_true]
  exact Dev.fetch_takes d q op e run h

/-- A queue that cannot fetch leaves the entry where it is. -/
theorem Dev.fetch_waits (d : Dev) (q op : Nat) (e : SqEntry) (run : Dev → CompRef → Dev) (h : d.canFetch q (sqFence e) = false) : d.fetch q op e run = d := by
  simp [Dev.fetch, h]

end Sys2Proof.Machine
end

