-- ==== Sys2Proof/Laws/State.lean ====
section
/-! SUPPORT. What each update of the state leaves alone, field by field, and what it puts where. -/
namespace Sys2Proof.Machine

@[simp] theorem Dev.stage_active (d : Dev) (o : Nat) (v : Word) : (d.stage o v).active = d.active := rfl
@[simp] theorem Dev.stage_rw (d : Dev) (o : Nat) (v : Word) : (d.stage o v).rw = d.rw := rfl
@[simp] theorem Dev.stage_sticky (d : Dev) (o : Nat) (v : Word) : (d.stage o v).sticky = d.sticky := rfl
@[simp] theorem Dev.stage_clears (d : Dev) (o : Nat) (v : Word) : (d.stage o v).clears = d.clears := rfl
@[simp] theorem Dev.stage_frt (d : Dev) (o : Nat) (v : Word) : (d.stage o v).frt = d.frt := rfl
@[simp] theorem Dev.stage_boot (d : Dev) (o : Nat) (v : Word) : (d.stage o v).boot = d.boot := rfl
@[simp] theorem Dev.stage_gc (d : Dev) (o : Nat) (v : Word) : (d.stage o v).gc = d.gc := rfl
@[simp] theorem Dev.stage_rae (d : Dev) (o : Nat) (v : Word) : (d.stage o v).rae = d.rae := rfl
@[simp] theorem Dev.stage_prc (d : Dev) (o : Nat) (v : Word) : (d.stage o v).prc = d.prc := rfl
@[simp] theorem Dev.stage_lpe (d : Dev) (o : Nat) (v : Word) : (d.stage o v).lpe = d.lpe := rfl
@[simp] theorem Dev.stage_mbe (d : Dev) (o : Nat) (v : Word) : (d.stage o v).mbe = d.mbe := rfl
@[simp] theorem Dev.stage_ikl (d : Dev) (o : Nat) (v : Word) : (d.stage o v).ikl = d.ikl := rfl
@[simp] theorem Dev.stage_nodes (d : Dev) (o : Nat) (v : Word) : (d.stage o v).nodes = d.nodes := rfl
@[simp] theorem Dev.stage_rdn (d : Dev) (o : Nat) (v : Word) : (d.stage o v).rdn = d.rdn := rfl
@[simp] theorem Dev.stage_adc (d : Dev) (o : Nat) (v : Word) : (d.stage o v).adc = d.adc := rfl
@[simp] theorem Dev.stage_svi (d : Dev) (o : Nat) (v : Word) : (d.stage o v).svi = d.svi := rfl
@[simp] theorem Dev.stage_mcd (d : Dev) (o : Nat) (v : Word) : (d.stage o v).mcd = d.mcd := rfl
@[simp] theorem Dev.stage_clk (d : Dev) (o : Nat) (v : Word) : (d.stage o v).clk = d.clk := rfl
@[simp] theorem Dev.stage_tmb (d : Dev) (o : Nat) (v : Word) : (d.stage o v).tmb = d.tmb := rfl
@[simp] theorem Dev.stage_ptp (d : Dev) (o : Nat) (v : Word) : (d.stage o v).ptp = d.ptp := rfl
@[simp] theorem Dev.stage_ddp (d : Dev) (o : Nat) (v : Word) : (d.stage o v).ddp = d.ddp := rfl
@[simp] theorem Dev.stage_recd (d : Dev) (o : Nat) (v : Word) : (d.stage o v).recd = d.recd := rfl
@[simp] theorem Dev.stage_pci (d : Dev) (o : Nat) (v : Word) : (d.stage o v).pci = d.pci := rfl
@[simp] theorem Dev.stage_apu (d : Dev) (o : Nat) (v : Word) : (d.stage o v).apu = d.apu := rfl
@[simp] theorem Dev.stage_vlt (d : Dev) (o : Nat) (v : Word) : (d.stage o v).vlt = d.vlt := rfl
@[simp] theorem Dev.stage_jobs (d : Dev) (o : Nat) (v : Word) : (d.stage o v).jobs = d.jobs := rfl
@[simp] theorem Dev.stage_pwr (d : Dev) (o : Nat) (v : Word) : (d.stage o v).pwr = d.pwr := rfl
@[simp] theorem Dev.stage_thm (d : Dev) (o : Nat) (v : Word) : (d.stage o v).thm = d.thm := rfl
@[simp] theorem Dev.stage_rsv (d : Dev) (o : Nat) (v : Word) : (d.stage o v).rsv = d.rsv := rfl
@[simp] theorem Dev.stage_pins (d : Dev) (o : Nat) (v : Word) : (d.stage o v).pins = d.pins := rfl
@[simp] theorem Dev.stage_free (d : Dev) (o : Nat) (v : Word) : (d.stage o v).free = d.free := rfl
@[simp] theorem Dev.setBoth_rw (d : Dev) (o : Nat) (v : Word) : (d.setBoth o v).rw = d.rw := rfl
@[simp] theorem Dev.setBoth_sticky (d : Dev) (o : Nat) (v : Word) : (d.setBoth o v).sticky = d.sticky := rfl
@[simp] theorem Dev.setBoth_clears (d : Dev) (o : Nat) (v : Word) : (d.setBoth o v).clears = d.clears := rfl
@[simp] theorem Dev.setBoth_sys (d : Dev) (o : Nat) (v : Word) : (d.setBoth o v).sys = d.sys := rfl
@[simp] theorem Dev.setBoth_frt (d : Dev) (o : Nat) (v : Word) : (d.setBoth o v).frt = d.frt := rfl
@[simp] theorem Dev.setBoth_boot (d : Dev) (o : Nat) (v : Word) : (d.setBoth o v).boot = d.boot := rfl
@[simp] theorem Dev.setBoth_gc (d : Dev) (o : Nat) (v : Word) : (d.setBoth o v).gc = d.gc := rfl
@[simp] theorem Dev.setBoth_rae (d : Dev) (o : Nat) (v : Word) : (d.setBoth o v).rae = d.rae := rfl
@[simp] theorem Dev.setBoth_prc (d : Dev) (o : Nat) (v : Word) : (d.setBoth o v).prc = d.prc := rfl
@[simp] theorem Dev.setBoth_lpe (d : Dev) (o : Nat) (v : Word) : (d.setBoth o v).lpe = d.lpe := rfl
@[simp] theorem Dev.setBoth_mbe (d : Dev) (o : Nat) (v : Word) : (d.setBoth o v).mbe = d.mbe := rfl
@[simp] theorem Dev.setBoth_ikl (d : Dev) (o : Nat) (v : Word) : (d.setBoth o v).ikl = d.ikl := rfl
@[simp] theorem Dev.setBoth_nodes (d : Dev) (o : Nat) (v : Word) : (d.setBoth o v).nodes = d.nodes := rfl
@[simp] theorem Dev.setBoth_rdn (d : Dev) (o : Nat) (v : Word) : (d.setBoth o v).rdn = d.rdn := rfl
@[simp] theorem Dev.setBoth_adc (d : Dev) (o : Nat) (v : Word) : (d.setBoth o v).adc = d.adc := rfl
@[simp] theorem Dev.setBoth_svi (d : Dev) (o : Nat) (v : Word) : (d.setBoth o v).svi = d.svi := rfl
@[simp] theorem Dev.setBoth_mcd (d : Dev) (o : Nat) (v : Word) : (d.setBoth o v).mcd = d.mcd := rfl
@[simp] theorem Dev.setBoth_clk (d : Dev) (o : Nat) (v : Word) : (d.setBoth o v).clk = d.clk := rfl
@[simp] theorem Dev.setBoth_tmb (d : Dev) (o : Nat) (v : Word) : (d.setBoth o v).tmb = d.tmb := rfl
@[simp] theorem Dev.setBoth_ptp (d : Dev) (o : Nat) (v : Word) : (d.setBoth o v).ptp = d.ptp := rfl
@[simp] theorem Dev.setBoth_ddp (d : Dev) (o : Nat) (v : Word) : (d.setBoth o v).ddp = d.ddp := rfl
@[simp] theorem Dev.setBoth_recd (d : Dev) (o : Nat) (v : Word) : (d.setBoth o v).recd = d.recd := rfl
@[simp] theorem Dev.setBoth_pci (d : Dev) (o : Nat) (v : Word) : (d.setBoth o v).pci = d.pci := rfl
@[simp] theorem Dev.setBoth_apu (d : Dev) (o : Nat) (v : Word) : (d.setBoth o v).apu = d.apu := rfl
@[simp] theorem Dev.setBoth_vlt (d : Dev) (o : Nat) (v : Word) : (d.setBoth o v).vlt = d.vlt := rfl
@[simp] theorem Dev.setBoth_jobs (d : Dev) (o : Nat) (v : Word) : (d.setBoth o v).jobs = d.jobs := rfl
@[simp] theorem Dev.setBoth_pwr (d : Dev) (o : Nat) (v : Word) : (d.setBoth o v).pwr = d.pwr := rfl
@[simp] theorem Dev.setBoth_thm (d : Dev) (o : Nat) (v : Word) : (d.setBoth o v).thm = d.thm := rfl
@[simp] theorem Dev.setBoth_rsv (d : Dev) (o : Nat) (v : Word) : (d.setBoth o v).rsv = d.rsv := rfl
@[simp] theorem Dev.setBoth_pins (d : Dev) (o : Nat) (v : Word) : (d.setBoth o v).pins = d.pins := rfl
@[simp] theorem Dev.setBoth_free (d : Dev) (o : Nat) (v : Word) : (d.setBoth o v).free = d.free := rfl
@[simp] theorem Dev.setRw_active (d : Dev) (o : Nat) (v : Word) : (d.setRw o v).active = d.active := rfl
@[simp] theorem Dev.setRw_staging (d : Dev) (o : Nat) (v : Word) : (d.setRw o v).staging = d.staging := rfl
@[simp] theorem Dev.setRw_sticky (d : Dev) (o : Nat) (v : Word) : (d.setRw o v).sticky = d.sticky := rfl
@[simp] theorem Dev.setRw_clears (d : Dev) (o : Nat) (v : Word) : (d.setRw o v).clears = d.clears := rfl
@[simp] theorem Dev.setRw_sys (d : Dev) (o : Nat) (v : Word) : (d.setRw o v).sys = d.sys := rfl
@[simp] theorem Dev.setRw_frt (d : Dev) (o : Nat) (v : Word) : (d.setRw o v).frt = d.frt := rfl
@[simp] theorem Dev.setRw_boot (d : Dev) (o : Nat) (v : Word) : (d.setRw o v).boot = d.boot := rfl
@[simp] theorem Dev.setRw_gc (d : Dev) (o : Nat) (v : Word) : (d.setRw o v).gc = d.gc := rfl
@[simp] theorem Dev.setRw_rae (d : Dev) (o : Nat) (v : Word) : (d.setRw o v).rae = d.rae := rfl
@[simp] theorem Dev.setRw_prc (d : Dev) (o : Nat) (v : Word) : (d.setRw o v).prc = d.prc := rfl
@[simp] theorem Dev.setRw_lpe (d : Dev) (o : Nat) (v : Word) : (d.setRw o v).lpe = d.lpe := rfl
@[simp] theorem Dev.setRw_mbe (d : Dev) (o : Nat) (v : Word) : (d.setRw o v).mbe = d.mbe := rfl
@[simp] theorem Dev.setRw_ikl (d : Dev) (o : Nat) (v : Word) : (d.setRw o v).ikl = d.ikl := rfl
@[simp] theorem Dev.setRw_nodes (d : Dev) (o : Nat) (v : Word) : (d.setRw o v).nodes = d.nodes := rfl
@[simp] theorem Dev.setRw_rdn (d : Dev) (o : Nat) (v : Word) : (d.setRw o v).rdn = d.rdn := rfl
@[simp] theorem Dev.setRw_adc (d : Dev) (o : Nat) (v : Word) : (d.setRw o v).adc = d.adc := rfl
@[simp] theorem Dev.setRw_svi (d : Dev) (o : Nat) (v : Word) : (d.setRw o v).svi = d.svi := rfl
@[simp] theorem Dev.setRw_mcd (d : Dev) (o : Nat) (v : Word) : (d.setRw o v).mcd = d.mcd := rfl
@[simp] theorem Dev.setRw_clk (d : Dev) (o : Nat) (v : Word) : (d.setRw o v).clk = d.clk := rfl
@[simp] theorem Dev.setRw_tmb (d : Dev) (o : Nat) (v : Word) : (d.setRw o v).tmb = d.tmb := rfl
@[simp] theorem Dev.setRw_ptp (d : Dev) (o : Nat) (v : Word) : (d.setRw o v).ptp = d.ptp := rfl
@[simp] theorem Dev.setRw_ddp (d : Dev) (o : Nat) (v : Word) : (d.setRw o v).ddp = d.ddp := rfl
@[simp] theorem Dev.setRw_recd (d : Dev) (o : Nat) (v : Word) : (d.setRw o v).recd = d.recd := rfl
@[simp] theorem Dev.setRw_pci (d : Dev) (o : Nat) (v : Word) : (d.setRw o v).pci = d.pci := rfl
@[simp] theorem Dev.setRw_apu (d : Dev) (o : Nat) (v : Word) : (d.setRw o v).apu = d.apu := rfl
@[simp] theorem Dev.setRw_vlt (d : Dev) (o : Nat) (v : Word) : (d.setRw o v).vlt = d.vlt := rfl
@[simp] theorem Dev.setRw_jobs (d : Dev) (o : Nat) (v : Word) : (d.setRw o v).jobs = d.jobs := rfl
@[simp] theorem Dev.setRw_pwr (d : Dev) (o : Nat) (v : Word) : (d.setRw o v).pwr = d.pwr := rfl
@[simp] theorem Dev.setRw_thm (d : Dev) (o : Nat) (v : Word) : (d.setRw o v).thm = d.thm := rfl
@[simp] theorem Dev.setRw_rsv (d : Dev) (o : Nat) (v : Word) : (d.setRw o v).rsv = d.rsv := rfl
@[simp] theorem Dev.setRw_pins (d : Dev) (o : Nat) (v : Word) : (d.setRw o v).pins = d.pins := rfl
@[simp] theorem Dev.setRw_free (d : Dev) (o : Nat) (v : Word) : (d.setRw o v).free = d.free := rfl
@[simp] theorem Dev.setSticky_active (d : Dev) (o : Nat) (v : Word) : (d.setSticky o v).active = d.active := rfl
@[simp] theorem Dev.setSticky_staging (d : Dev) (o : Nat) (v : Word) : (d.setSticky o v).staging = d.staging := rfl
@[simp] theorem Dev.setSticky_rw (d : Dev) (o : Nat) (v : Word) : (d.setSticky o v).rw = d.rw := rfl
@[simp] theorem Dev.setSticky_sys (d : Dev) (o : Nat) (v : Word) : (d.setSticky o v).sys = d.sys := rfl
@[simp] theorem Dev.setSticky_frt (d : Dev) (o : Nat) (v : Word) : (d.setSticky o v).frt = d.frt := rfl
@[simp] theorem Dev.setSticky_boot (d : Dev) (o : Nat) (v : Word) : (d.setSticky o v).boot = d.boot := rfl
@[simp] theorem Dev.setSticky_gc (d : Dev) (o : Nat) (v : Word) : (d.setSticky o v).gc = d.gc := rfl
@[simp] theorem Dev.setSticky_rae (d : Dev) (o : Nat) (v : Word) : (d.setSticky o v).rae = d.rae := rfl
@[simp] theorem Dev.setSticky_prc (d : Dev) (o : Nat) (v : Word) : (d.setSticky o v).prc = d.prc := rfl
@[simp] theorem Dev.setSticky_lpe (d : Dev) (o : Nat) (v : Word) : (d.setSticky o v).lpe = d.lpe := rfl
@[simp] theorem Dev.setSticky_mbe (d : Dev) (o : Nat) (v : Word) : (d.setSticky o v).mbe = d.mbe := rfl
@[simp] theorem Dev.setSticky_ikl (d : Dev) (o : Nat) (v : Word) : (d.setSticky o v).ikl = d.ikl := rfl
@[simp] theorem Dev.setSticky_nodes (d : Dev) (o : Nat) (v : Word) : (d.setSticky o v).nodes = d.nodes := rfl
@[simp] theorem Dev.setSticky_rdn (d : Dev) (o : Nat) (v : Word) : (d.setSticky o v).rdn = d.rdn := rfl
@[simp] theorem Dev.setSticky_adc (d : Dev) (o : Nat) (v : Word) : (d.setSticky o v).adc = d.adc := rfl
@[simp] theorem Dev.setSticky_svi (d : Dev) (o : Nat) (v : Word) : (d.setSticky o v).svi = d.svi := rfl
@[simp] theorem Dev.setSticky_mcd (d : Dev) (o : Nat) (v : Word) : (d.setSticky o v).mcd = d.mcd := rfl
@[simp] theorem Dev.setSticky_clk (d : Dev) (o : Nat) (v : Word) : (d.setSticky o v).clk = d.clk := rfl
@[simp] theorem Dev.setSticky_tmb (d : Dev) (o : Nat) (v : Word) : (d.setSticky o v).tmb = d.tmb := rfl
@[simp] theorem Dev.setSticky_ptp (d : Dev) (o : Nat) (v : Word) : (d.setSticky o v).ptp = d.ptp := rfl
@[simp] theorem Dev.setSticky_ddp (d : Dev) (o : Nat) (v : Word) : (d.setSticky o v).ddp = d.ddp := rfl
@[simp] theorem Dev.setSticky_recd (d : Dev) (o : Nat) (v : Word) : (d.setSticky o v).recd = d.recd := rfl
@[simp] theorem Dev.setSticky_pci (d : Dev) (o : Nat) (v : Word) : (d.setSticky o v).pci = d.pci := rfl
@[simp] theorem Dev.setSticky_apu (d : Dev) (o : Nat) (v : Word) : (d.setSticky o v).apu = d.apu := rfl
@[simp] theorem Dev.setSticky_vlt (d : Dev) (o : Nat) (v : Word) : (d.setSticky o v).vlt = d.vlt := rfl
@[simp] theorem Dev.setSticky_jobs (d : Dev) (o : Nat) (v : Word) : (d.setSticky o v).jobs = d.jobs := rfl
@[simp] theorem Dev.setSticky_pwr (d : Dev) (o : Nat) (v : Word) : (d.setSticky o v).pwr = d.pwr := rfl
@[simp] theorem Dev.setSticky_thm (d : Dev) (o : Nat) (v : Word) : (d.setSticky o v).thm = d.thm := rfl
@[simp] theorem Dev.setSticky_rsv (d : Dev) (o : Nat) (v : Word) : (d.setSticky o v).rsv = d.rsv := rfl
@[simp] theorem Dev.setSticky_pins (d : Dev) (o : Nat) (v : Word) : (d.setSticky o v).pins = d.pins := rfl
@[simp] theorem Dev.setSticky_free (d : Dev) (o : Nat) (v : Word) : (d.setSticky o v).free = d.free := rfl
@[simp] theorem Dev.clearReq_active (d : Dev) (o : Nat) (v : Word) : (d.clearReq o v).active = d.active := rfl
@[simp] theorem Dev.clearReq_staging (d : Dev) (o : Nat) (v : Word) : (d.clearReq o v).staging = d.staging := rfl
@[simp] theorem Dev.clearReq_rw (d : Dev) (o : Nat) (v : Word) : (d.clearReq o v).rw = d.rw := rfl
@[simp] theorem Dev.clearReq_sticky (d : Dev) (o : Nat) (v : Word) : (d.clearReq o v).sticky = d.sticky := rfl
@[simp] theorem Dev.clearReq_sys (d : Dev) (o : Nat) (v : Word) : (d.clearReq o v).sys = d.sys := rfl
@[simp] theorem Dev.clearReq_frt (d : Dev) (o : Nat) (v : Word) : (d.clearReq o v).frt = d.frt := rfl
@[simp] theorem Dev.clearReq_boot (d : Dev) (o : Nat) (v : Word) : (d.clearReq o v).boot = d.boot := rfl
@[simp] theorem Dev.clearReq_gc (d : Dev) (o : Nat) (v : Word) : (d.clearReq o v).gc = d.gc := rfl
@[simp] theorem Dev.clearReq_rae (d : Dev) (o : Nat) (v : Word) : (d.clearReq o v).rae = d.rae := rfl
@[simp] theorem Dev.clearReq_prc (d : Dev) (o : Nat) (v : Word) : (d.clearReq o v).prc = d.prc := rfl
@[simp] theorem Dev.clearReq_lpe (d : Dev) (o : Nat) (v : Word) : (d.clearReq o v).lpe = d.lpe := rfl
@[simp] theorem Dev.clearReq_mbe (d : Dev) (o : Nat) (v : Word) : (d.clearReq o v).mbe = d.mbe := rfl
@[simp] theorem Dev.clearReq_ikl (d : Dev) (o : Nat) (v : Word) : (d.clearReq o v).ikl = d.ikl := rfl
@[simp] theorem Dev.clearReq_nodes (d : Dev) (o : Nat) (v : Word) : (d.clearReq o v).nodes = d.nodes := rfl
@[simp] theorem Dev.clearReq_rdn (d : Dev) (o : Nat) (v : Word) : (d.clearReq o v).rdn = d.rdn := rfl
@[simp] theorem Dev.clearReq_adc (d : Dev) (o : Nat) (v : Word) : (d.clearReq o v).adc = d.adc := rfl
@[simp] theorem Dev.clearReq_svi (d : Dev) (o : Nat) (v : Word) : (d.clearReq o v).svi = d.svi := rfl
@[simp] theorem Dev.clearReq_mcd (d : Dev) (o : Nat) (v : Word) : (d.clearReq o v).mcd = d.mcd := rfl
@[simp] theorem Dev.clearReq_clk (d : Dev) (o : Nat) (v : Word) : (d.clearReq o v).clk = d.clk := rfl
@[simp] theorem Dev.clearReq_tmb (d : Dev) (o : Nat) (v : Word) : (d.clearReq o v).tmb = d.tmb := rfl
@[simp] theorem Dev.clearReq_ptp (d : Dev) (o : Nat) (v : Word) : (d.clearReq o v).ptp = d.ptp := rfl
@[simp] theorem Dev.clearReq_ddp (d : Dev) (o : Nat) (v : Word) : (d.clearReq o v).ddp = d.ddp := rfl
@[simp] theorem Dev.clearReq_recd (d : Dev) (o : Nat) (v : Word) : (d.clearReq o v).recd = d.recd := rfl
@[simp] theorem Dev.clearReq_pci (d : Dev) (o : Nat) (v : Word) : (d.clearReq o v).pci = d.pci := rfl
@[simp] theorem Dev.clearReq_apu (d : Dev) (o : Nat) (v : Word) : (d.clearReq o v).apu = d.apu := rfl
@[simp] theorem Dev.clearReq_vlt (d : Dev) (o : Nat) (v : Word) : (d.clearReq o v).vlt = d.vlt := rfl
@[simp] theorem Dev.clearReq_jobs (d : Dev) (o : Nat) (v : Word) : (d.clearReq o v).jobs = d.jobs := rfl
@[simp] theorem Dev.clearReq_pwr (d : Dev) (o : Nat) (v : Word) : (d.clearReq o v).pwr = d.pwr := rfl
@[simp] theorem Dev.clearReq_thm (d : Dev) (o : Nat) (v : Word) : (d.clearReq o v).thm = d.thm := rfl
@[simp] theorem Dev.clearReq_rsv (d : Dev) (o : Nat) (v : Word) : (d.clearReq o v).rsv = d.rsv := rfl
@[simp] theorem Dev.clearReq_pins (d : Dev) (o : Nat) (v : Word) : (d.clearReq o v).pins = d.pins := rfl
@[simp] theorem Dev.clearReq_free (d : Dev) (o : Nat) (v : Word) : (d.clearReq o v).free = d.free := rfl
@[simp] theorem Dev.applyClears_active (d : Dev) (b : Nat) : (d.applyClears b).active = d.active := rfl
@[simp] theorem Dev.applyClears_staging (d : Dev) (b : Nat) : (d.applyClears b).staging = d.staging := rfl
@[simp] theorem Dev.applyClears_rw (d : Dev) (b : Nat) : (d.applyClears b).rw = d.rw := rfl
@[simp] theorem Dev.applyClears_sys (d : Dev) (b : Nat) : (d.applyClears b).sys = d.sys := rfl
@[simp] theorem Dev.applyClears_frt (d : Dev) (b : Nat) : (d.applyClears b).frt = d.frt := rfl
@[simp] theorem Dev.applyClears_boot (d : Dev) (b : Nat) : (d.applyClears b).boot = d.boot := rfl
@[simp] theorem Dev.applyClears_gc (d : Dev) (b : Nat) : (d.applyClears b).gc = d.gc := rfl
@[simp] theorem Dev.applyClears_rae (d : Dev) (b : Nat) : (d.applyClears b).rae = d.rae := rfl
@[simp] theorem Dev.applyClears_prc (d : Dev) (b : Nat) : (d.applyClears b).prc = d.prc := rfl
@[simp] theorem Dev.applyClears_lpe (d : Dev) (b : Nat) : (d.applyClears b).lpe = d.lpe := rfl
@[simp] theorem Dev.applyClears_mbe (d : Dev) (b : Nat) : (d.applyClears b).mbe = d.mbe := rfl
@[simp] theorem Dev.applyClears_ikl (d : Dev) (b : Nat) : (d.applyClears b).ikl = d.ikl := rfl
@[simp] theorem Dev.applyClears_nodes (d : Dev) (b : Nat) : (d.applyClears b).nodes = d.nodes := rfl
@[simp] theorem Dev.applyClears_rdn (d : Dev) (b : Nat) : (d.applyClears b).rdn = d.rdn := rfl
@[simp] theorem Dev.applyClears_adc (d : Dev) (b : Nat) : (d.applyClears b).adc = d.adc := rfl
@[simp] theorem Dev.applyClears_svi (d : Dev) (b : Nat) : (d.applyClears b).svi = d.svi := rfl
@[simp] theorem Dev.applyClears_mcd (d : Dev) (b : Nat) : (d.applyClears b).mcd = d.mcd := rfl
@[simp] theorem Dev.applyClears_clk (d : Dev) (b : Nat) : (d.applyClears b).clk = d.clk := rfl
@[simp] theorem Dev.applyClears_tmb (d : Dev) (b : Nat) : (d.applyClears b).tmb = d.tmb := rfl
@[simp] theorem Dev.applyClears_ptp (d : Dev) (b : Nat) : (d.applyClears b).ptp = d.ptp := rfl
@[simp] theorem Dev.applyClears_ddp (d : Dev) (b : Nat) : (d.applyClears b).ddp = d.ddp := rfl
@[simp] theorem Dev.applyClears_recd (d : Dev) (b : Nat) : (d.applyClears b).recd = d.recd := rfl
@[simp] theorem Dev.applyClears_pci (d : Dev) (b : Nat) : (d.applyClears b).pci = d.pci := rfl
@[simp] theorem Dev.applyClears_apu (d : Dev) (b : Nat) : (d.applyClears b).apu = d.apu := rfl
@[simp] theorem Dev.applyClears_vlt (d : Dev) (b : Nat) : (d.applyClears b).vlt = d.vlt := rfl
@[simp] theorem Dev.applyClears_jobs (d : Dev) (b : Nat) : (d.applyClears b).jobs = d.jobs := rfl
@[simp] theorem Dev.applyClears_pwr (d : Dev) (b : Nat) : (d.applyClears b).pwr = d.pwr := rfl
@[simp] theorem Dev.applyClears_thm (d : Dev) (b : Nat) : (d.applyClears b).thm = d.thm := rfl
@[simp] theorem Dev.applyClears_rsv (d : Dev) (b : Nat) : (d.applyClears b).rsv = d.rsv := rfl
@[simp] theorem Dev.applyClears_pins (d : Dev) (b : Nat) : (d.applyClears b).pins = d.pins := rfl
@[simp] theorem Dev.applyClears_free (d : Dev) (b : Nat) : (d.applyClears b).free = d.free := rfl
@[simp] theorem Dev.setStickyAt_active (d : Dev) (t o : Nat) (v : Word) : (d.setStickyAt t o v).active = d.active := rfl
@[simp] theorem Dev.setStickyAt_staging (d : Dev) (t o : Nat) (v : Word) : (d.setStickyAt t o v).staging = d.staging := rfl
@[simp] theorem Dev.setStickyAt_rw (d : Dev) (t o : Nat) (v : Word) : (d.setStickyAt t o v).rw = d.rw := rfl
@[simp] theorem Dev.setStickyAt_sys (d : Dev) (t o : Nat) (v : Word) : (d.setStickyAt t o v).sys = d.sys := rfl
@[simp] theorem Dev.setStickyAt_frt (d : Dev) (t o : Nat) (v : Word) : (d.setStickyAt t o v).frt = d.frt := rfl
@[simp] theorem Dev.setStickyAt_boot (d : Dev) (t o : Nat) (v : Word) : (d.setStickyAt t o v).boot = d.boot := rfl
@[simp] theorem Dev.setStickyAt_gc (d : Dev) (t o : Nat) (v : Word) : (d.setStickyAt t o v).gc = d.gc := rfl
@[simp] theorem Dev.setStickyAt_rae (d : Dev) (t o : Nat) (v : Word) : (d.setStickyAt t o v).rae = d.rae := rfl
@[simp] theorem Dev.setStickyAt_prc (d : Dev) (t o : Nat) (v : Word) : (d.setStickyAt t o v).prc = d.prc := rfl
@[simp] theorem Dev.setStickyAt_lpe (d : Dev) (t o : Nat) (v : Word) : (d.setStickyAt t o v).lpe = d.lpe := rfl
@[simp] theorem Dev.setStickyAt_mbe (d : Dev) (t o : Nat) (v : Word) : (d.setStickyAt t o v).mbe = d.mbe := rfl
@[simp] theorem Dev.setStickyAt_ikl (d : Dev) (t o : Nat) (v : Word) : (d.setStickyAt t o v).ikl = d.ikl := rfl
@[simp] theorem Dev.setStickyAt_nodes (d : Dev) (t o : Nat) (v : Word) : (d.setStickyAt t o v).nodes = d.nodes := rfl
@[simp] theorem Dev.setStickyAt_rdn (d : Dev) (t o : Nat) (v : Word) : (d.setStickyAt t o v).rdn = d.rdn := rfl
@[simp] theorem Dev.setStickyAt_adc (d : Dev) (t o : Nat) (v : Word) : (d.setStickyAt t o v).adc = d.adc := rfl
@[simp] theorem Dev.setStickyAt_svi (d : Dev) (t o : Nat) (v : Word) : (d.setStickyAt t o v).svi = d.svi := rfl
@[simp] theorem Dev.setStickyAt_mcd (d : Dev) (t o : Nat) (v : Word) : (d.setStickyAt t o v).mcd = d.mcd := rfl
@[simp] theorem Dev.setStickyAt_clk (d : Dev) (t o : Nat) (v : Word) : (d.setStickyAt t o v).clk = d.clk := rfl
@[simp] theorem Dev.setStickyAt_tmb (d : Dev) (t o : Nat) (v : Word) : (d.setStickyAt t o v).tmb = d.tmb := rfl
@[simp] theorem Dev.setStickyAt_ptp (d : Dev) (t o : Nat) (v : Word) : (d.setStickyAt t o v).ptp = d.ptp := rfl
@[simp] theorem Dev.setStickyAt_ddp (d : Dev) (t o : Nat) (v : Word) : (d.setStickyAt t o v).ddp = d.ddp := rfl
@[simp] theorem Dev.setStickyAt_recd (d : Dev) (t o : Nat) (v : Word) : (d.setStickyAt t o v).recd = d.recd := rfl
@[simp] theorem Dev.setStickyAt_pci (d : Dev) (t o : Nat) (v : Word) : (d.setStickyAt t o v).pci = d.pci := rfl
@[simp] theorem Dev.setStickyAt_apu (d : Dev) (t o : Nat) (v : Word) : (d.setStickyAt t o v).apu = d.apu := rfl
@[simp] theorem Dev.setStickyAt_vlt (d : Dev) (t o : Nat) (v : Word) : (d.setStickyAt t o v).vlt = d.vlt := rfl
@[simp] theorem Dev.setStickyAt_jobs (d : Dev) (t o : Nat) (v : Word) : (d.setStickyAt t o v).jobs = d.jobs := rfl
@[simp] theorem Dev.setStickyAt_pwr (d : Dev) (t o : Nat) (v : Word) : (d.setStickyAt t o v).pwr = d.pwr := rfl
@[simp] theorem Dev.setStickyAt_thm (d : Dev) (t o : Nat) (v : Word) : (d.setStickyAt t o v).thm = d.thm := rfl
@[simp] theorem Dev.setStickyAt_rsv (d : Dev) (t o : Nat) (v : Word) : (d.setStickyAt t o v).rsv = d.rsv := rfl
@[simp] theorem Dev.setStickyAt_pins (d : Dev) (t o : Nat) (v : Word) : (d.setStickyAt t o v).pins = d.pins := rfl
@[simp] theorem Dev.setStickyAt_free (d : Dev) (t o : Nat) (v : Word) : (d.setStickyAt t o v).free = d.free := rfl
@[simp] theorem Dev.dropSticky_active (d : Dev) (o : Nat) (v : Word) : (d.dropSticky o v).active = d.active := rfl
@[simp] theorem Dev.dropSticky_staging (d : Dev) (o : Nat) (v : Word) : (d.dropSticky o v).staging = d.staging := rfl
@[simp] theorem Dev.dropSticky_rw (d : Dev) (o : Nat) (v : Word) : (d.dropSticky o v).rw = d.rw := rfl
@[simp] theorem Dev.dropSticky_clears (d : Dev) (o : Nat) (v : Word) : (d.dropSticky o v).clears = d.clears := rfl
@[simp] theorem Dev.dropSticky_sys (d : Dev) (o : Nat) (v : Word) : (d.dropSticky o v).sys = d.sys := rfl
@[simp] theorem Dev.dropSticky_frt (d : Dev) (o : Nat) (v : Word) : (d.dropSticky o v).frt = d.frt := rfl
@[simp] theorem Dev.dropSticky_boot (d : Dev) (o : Nat) (v : Word) : (d.dropSticky o v).boot = d.boot := rfl
@[simp] theorem Dev.dropSticky_gc (d : Dev) (o : Nat) (v : Word) : (d.dropSticky o v).gc = d.gc := rfl
@[simp] theorem Dev.dropSticky_rae (d : Dev) (o : Nat) (v : Word) : (d.dropSticky o v).rae = d.rae := rfl
@[simp] theorem Dev.dropSticky_prc (d : Dev) (o : Nat) (v : Word) : (d.dropSticky o v).prc = d.prc := rfl
@[simp] theorem Dev.dropSticky_lpe (d : Dev) (o : Nat) (v : Word) : (d.dropSticky o v).lpe = d.lpe := rfl
@[simp] theorem Dev.dropSticky_mbe (d : Dev) (o : Nat) (v : Word) : (d.dropSticky o v).mbe = d.mbe := rfl
@[simp] theorem Dev.dropSticky_ikl (d : Dev) (o : Nat) (v : Word) : (d.dropSticky o v).ikl = d.ikl := rfl
@[simp] theorem Dev.dropSticky_nodes (d : Dev) (o : Nat) (v : Word) : (d.dropSticky o v).nodes = d.nodes := rfl
@[simp] theorem Dev.dropSticky_rdn (d : Dev) (o : Nat) (v : Word) : (d.dropSticky o v).rdn = d.rdn := rfl
@[simp] theorem Dev.dropSticky_adc (d : Dev) (o : Nat) (v : Word) : (d.dropSticky o v).adc = d.adc := rfl
@[simp] theorem Dev.dropSticky_svi (d : Dev) (o : Nat) (v : Word) : (d.dropSticky o v).svi = d.svi := rfl
@[simp] theorem Dev.dropSticky_mcd (d : Dev) (o : Nat) (v : Word) : (d.dropSticky o v).mcd = d.mcd := rfl
@[simp] theorem Dev.dropSticky_clk (d : Dev) (o : Nat) (v : Word) : (d.dropSticky o v).clk = d.clk := rfl
@[simp] theorem Dev.dropSticky_tmb (d : Dev) (o : Nat) (v : Word) : (d.dropSticky o v).tmb = d.tmb := rfl
@[simp] theorem Dev.dropSticky_ptp (d : Dev) (o : Nat) (v : Word) : (d.dropSticky o v).ptp = d.ptp := rfl
@[simp] theorem Dev.dropSticky_ddp (d : Dev) (o : Nat) (v : Word) : (d.dropSticky o v).ddp = d.ddp := rfl
@[simp] theorem Dev.dropSticky_recd (d : Dev) (o : Nat) (v : Word) : (d.dropSticky o v).recd = d.recd := rfl
@[simp] theorem Dev.dropSticky_pci (d : Dev) (o : Nat) (v : Word) : (d.dropSticky o v).pci = d.pci := rfl
@[simp] theorem Dev.dropSticky_apu (d : Dev) (o : Nat) (v : Word) : (d.dropSticky o v).apu = d.apu := rfl
@[simp] theorem Dev.dropSticky_vlt (d : Dev) (o : Nat) (v : Word) : (d.dropSticky o v).vlt = d.vlt := rfl
@[simp] theorem Dev.dropSticky_jobs (d : Dev) (o : Nat) (v : Word) : (d.dropSticky o v).jobs = d.jobs := rfl
@[simp] theorem Dev.dropSticky_pwr (d : Dev) (o : Nat) (v : Word) : (d.dropSticky o v).pwr = d.pwr := rfl
@[simp] theorem Dev.dropSticky_thm (d : Dev) (o : Nat) (v : Word) : (d.dropSticky o v).thm = d.thm := rfl
@[simp] theorem Dev.dropSticky_rsv (d : Dev) (o : Nat) (v : Word) : (d.dropSticky o v).rsv = d.rsv := rfl
@[simp] theorem Dev.dropSticky_pins (d : Dev) (o : Nat) (v : Word) : (d.dropSticky o v).pins = d.pins := rfl
@[simp] theorem Dev.dropSticky_free (d : Dev) (o : Nat) (v : Word) : (d.dropSticky o v).free = d.free := rfl
@[simp] theorem Dev.tookFree_active (d : Dev) : (d.tookFree).active = d.active := rfl
@[simp] theorem Dev.tookFree_staging (d : Dev) : (d.tookFree).staging = d.staging := rfl
@[simp] theorem Dev.tookFree_rw (d : Dev) : (d.tookFree).rw = d.rw := rfl
@[simp] theorem Dev.tookFree_sticky (d : Dev) : (d.tookFree).sticky = d.sticky := rfl
@[simp] theorem Dev.tookFree_clears (d : Dev) : (d.tookFree).clears = d.clears := rfl
@[simp] theorem Dev.tookFree_sys (d : Dev) : (d.tookFree).sys = d.sys := rfl
@[simp] theorem Dev.tookFree_frt (d : Dev) : (d.tookFree).frt = d.frt := rfl
@[simp] theorem Dev.tookFree_boot (d : Dev) : (d.tookFree).boot = d.boot := rfl
@[simp] theorem Dev.tookFree_gc (d : Dev) : (d.tookFree).gc = d.gc := rfl
@[simp] theorem Dev.tookFree_rae (d : Dev) : (d.tookFree).rae = d.rae := rfl
@[simp] theorem Dev.tookFree_prc (d : Dev) : (d.tookFree).prc = d.prc := rfl
@[simp] theorem Dev.tookFree_lpe (d : Dev) : (d.tookFree).lpe = d.lpe := rfl
@[simp] theorem Dev.tookFree_mbe (d : Dev) : (d.tookFree).mbe = d.mbe := rfl
@[simp] theorem Dev.tookFree_ikl (d : Dev) : (d.tookFree).ikl = d.ikl := rfl
@[simp] theorem Dev.tookFree_nodes (d : Dev) : (d.tookFree).nodes = d.nodes := rfl
@[simp] theorem Dev.tookFree_rdn (d : Dev) : (d.tookFree).rdn = d.rdn := rfl
@[simp] theorem Dev.tookFree_adc (d : Dev) : (d.tookFree).adc = d.adc := rfl
@[simp] theorem Dev.tookFree_svi (d : Dev) : (d.tookFree).svi = d.svi := rfl
@[simp] theorem Dev.tookFree_mcd (d : Dev) : (d.tookFree).mcd = d.mcd := rfl
@[simp] theorem Dev.tookFree_clk (d : Dev) : (d.tookFree).clk = d.clk := rfl
@[simp] theorem Dev.tookFree_tmb (d : Dev) : (d.tookFree).tmb = d.tmb := rfl
@[simp] theorem Dev.tookFree_ptp (d : Dev) : (d.tookFree).ptp = d.ptp := rfl
@[simp] theorem Dev.tookFree_ddp (d : Dev) : (d.tookFree).ddp = d.ddp := rfl
@[simp] theorem Dev.tookFree_recd (d : Dev) : (d.tookFree).recd = d.recd := rfl
@[simp] theorem Dev.tookFree_pci (d : Dev) : (d.tookFree).pci = d.pci := rfl
@[simp] theorem Dev.tookFree_apu (d : Dev) : (d.tookFree).apu = d.apu := rfl
@[simp] theorem Dev.tookFree_vlt (d : Dev) : (d.tookFree).vlt = d.vlt := rfl
@[simp] theorem Dev.tookFree_jobs (d : Dev) : (d.tookFree).jobs = d.jobs := rfl
@[simp] theorem Dev.tookFree_pwr (d : Dev) : (d.tookFree).pwr = d.pwr := rfl
@[simp] theorem Dev.tookFree_thm (d : Dev) : (d.tookFree).thm = d.thm := rfl
@[simp] theorem Dev.tookFree_rsv (d : Dev) : (d.tookFree).rsv = d.rsv := rfl
@[simp] theorem Dev.tookFree_pins (d : Dev) : (d.tookFree).pins = d.pins := rfl
@[simp] theorem Dev.raiseAt_active (d : Dev) (a b c i r m : Nat) (w : List Word) : (d.raiseAt a b c i r m w).active = d.active := rfl
@[simp] theorem Dev.raiseAt_staging (d : Dev) (a b c i r m : Nat) (w : List Word) : (d.raiseAt a b c i r m w).staging = d.staging := rfl
@[simp] theorem Dev.raiseAt_rw (d : Dev) (a b c i r m : Nat) (w : List Word) : (d.raiseAt a b c i r m w).rw = d.rw := rfl
@[simp] theorem Dev.raiseAt_sticky (d : Dev) (a b c i r m : Nat) (w : List Word) : (d.raiseAt a b c i r m w).sticky = d.sticky := rfl
@[simp] theorem Dev.raiseAt_clears (d : Dev) (a b c i r m : Nat) (w : List Word) : (d.raiseAt a b c i r m w).clears = d.clears := rfl
@[simp] theorem Dev.raiseAt_sys (d : Dev) (a b c i r m : Nat) (w : List Word) : (d.raiseAt a b c i r m w).sys = d.sys := rfl
@[simp] theorem Dev.raiseAt_frt (d : Dev) (a b c i r m : Nat) (w : List Word) : (d.raiseAt a b c i r m w).frt = d.frt := rfl
@[simp] theorem Dev.raiseAt_boot (d : Dev) (a b c i r m : Nat) (w : List Word) : (d.raiseAt a b c i r m w).boot = d.boot := rfl
@[simp] theorem Dev.raiseAt_gc (d : Dev) (a b c i r m : Nat) (w : List Word) : (d.raiseAt a b c i r m w).gc = d.gc := rfl
@[simp] theorem Dev.raiseAt_rae (d : Dev) (a b c i r m : Nat) (w : List Word) : (d.raiseAt a b c i r m w).rae = d.rae := rfl
@[simp] theorem Dev.raiseAt_prc (d : Dev) (a b c i r m : Nat) (w : List Word) : (d.raiseAt a b c i r m w).prc = d.prc := rfl
@[simp] theorem Dev.raiseAt_lpe (d : Dev) (a b c i r m : Nat) (w : List Word) : (d.raiseAt a b c i r m w).lpe = d.lpe := rfl
@[simp] theorem Dev.raiseAt_mbe (d : Dev) (a b c i r m : Nat) (w : List Word) : (d.raiseAt a b c i r m w).mbe = d.mbe := rfl
@[simp] theorem Dev.raiseAt_ikl (d : Dev) (a b c i r m : Nat) (w : List Word) : (d.raiseAt a b c i r m w).ikl = d.ikl := rfl
@[simp] theorem Dev.raiseAt_nodes (d : Dev) (a b c i r m : Nat) (w : List Word) : (d.raiseAt a b c i r m w).nodes = d.nodes := rfl
@[simp] theorem Dev.raiseAt_rdn (d : Dev) (a b c i r m : Nat) (w : List Word) : (d.raiseAt a b c i r m w).rdn = d.rdn := rfl
@[simp] theorem Dev.raiseAt_adc (d : Dev) (a b c i r m : Nat) (w : List Word) : (d.raiseAt a b c i r m w).adc = d.adc := rfl
@[simp] theorem Dev.raiseAt_svi (d : Dev) (a b c i r m : Nat) (w : List Word) : (d.raiseAt a b c i r m w).svi = d.svi := rfl
@[simp] theorem Dev.raiseAt_mcd (d : Dev) (a b c i r m : Nat) (w : List Word) : (d.raiseAt a b c i r m w).mcd = d.mcd := rfl
@[simp] theorem Dev.raiseAt_clk (d : Dev) (a b c i r m : Nat) (w : List Word) : (d.raiseAt a b c i r m w).clk = d.clk := rfl
@[simp] theorem Dev.raiseAt_tmb (d : Dev) (a b c i r m : Nat) (w : List Word) : (d.raiseAt a b c i r m w).tmb = d.tmb := rfl
@[simp] theorem Dev.raiseAt_ptp (d : Dev) (a b c i r m : Nat) (w : List Word) : (d.raiseAt a b c i r m w).ptp = d.ptp := rfl
@[simp] theorem Dev.raiseAt_ddp (d : Dev) (a b c i r m : Nat) (w : List Word) : (d.raiseAt a b c i r m w).ddp = d.ddp := rfl
@[simp] theorem Dev.raiseAt_recd (d : Dev) (a b c i r m : Nat) (w : List Word) : (d.raiseAt a b c i r m w).recd = d.recd := rfl
@[simp] theorem Dev.raiseAt_apu (d : Dev) (a b c i r m : Nat) (w : List Word) : (d.raiseAt a b c i r m w).apu = d.apu := rfl
@[simp] theorem Dev.raiseAt_vlt (d : Dev) (a b c i r m : Nat) (w : List Word) : (d.raiseAt a b c i r m w).vlt = d.vlt := rfl
@[simp] theorem Dev.raiseAt_jobs (d : Dev) (a b c i r m : Nat) (w : List Word) : (d.raiseAt a b c i r m w).jobs = d.jobs := rfl
@[simp] theorem Dev.raiseAt_pwr (d : Dev) (a b c i r m : Nat) (w : List Word) : (d.raiseAt a b c i r m w).pwr = d.pwr := rfl
@[simp] theorem Dev.raiseAt_thm (d : Dev) (a b c i r m : Nat) (w : List Word) : (d.raiseAt a b c i r m w).thm = d.thm := rfl
@[simp] theorem Dev.raiseAt_rsv (d : Dev) (a b c i r m : Nat) (w : List Word) : (d.raiseAt a b c i r m w).rsv = d.rsv := rfl
@[simp] theorem Dev.raiseAt_pins (d : Dev) (a b c i r m : Nat) (w : List Word) : (d.raiseAt a b c i r m w).pins = d.pins := rfl
@[simp] theorem Dev.raiseAt_free (d : Dev) (a b c i r m : Nat) (w : List Word) : (d.raiseAt a b c i r m w).free = d.free := rfl
@[simp] theorem Dev.raise_active (d : Dev) (c i r m : Nat) (w : List Word) : (d.raise c i r m w).active = d.active := rfl
@[simp] theorem Dev.raise_staging (d : Dev) (c i r m : Nat) (w : List Word) : (d.raise c i r m w).staging = d.staging := rfl
@[simp] theorem Dev.raise_rw (d : Dev) (c i r m : Nat) (w : List Word) : (d.raise c i r m w).rw = d.rw := rfl
@[simp] theorem Dev.raise_sticky (d : Dev) (c i r m : Nat) (w : List Word) : (d.raise c i r m w).sticky = d.sticky := rfl
@[simp] theorem Dev.raise_clears (d : Dev) (c i r m : Nat) (w : List Word) : (d.raise c i r m w).clears = d.clears := rfl
@[simp] theorem Dev.raise_sys (d : Dev) (c i r m : Nat) (w : List Word) : (d.raise c i r m w).sys = d.sys := rfl
@[simp] theorem Dev.raise_frt (d : Dev) (c i r m : Nat) (w : List Word) : (d.raise c i r m w).frt = d.frt := rfl
@[simp] theorem Dev.raise_boot (d : Dev) (c i r m : Nat) (w : List Word) : (d.raise c i r m w).boot = d.boot := rfl
@[simp] theorem Dev.raise_gc (d : Dev) (c i r m : Nat) (w : List Word) : (d.raise c i r m w).gc = d.gc := rfl
@[simp] theorem Dev.raise_rae (d : Dev) (c i r m : Nat) (w : List Word) : (d.raise c i r m w).rae = d.rae := rfl
@[simp] theorem Dev.raise_prc (d : Dev) (c i r m : Nat) (w : List Word) : (d.raise c i r m w).prc = d.prc := rfl
@[simp] theorem Dev.raise_lpe (d : Dev) (c i r m : Nat) (w : List Word) : (d.raise c i r m w).lpe = d.lpe := rfl
@[simp] theorem Dev.raise_mbe (d : Dev) (c i r m : Nat) (w : List Word) : (d.raise c i r m w).mbe = d.mbe := rfl
@[simp] theorem Dev.raise_ikl (d : Dev) (c i r m : Nat) (w : List Word) : (d.raise c i r m w).ikl = d.ikl := rfl
@[simp] theorem Dev.raise_nodes (d : Dev) (c i r m : Nat) (w : List Word) : (d.raise c i r m w).nodes = d.nodes := rfl
@[simp] theorem Dev.raise_rdn (d : Dev) (c i r m : Nat) (w : List Word) : (d.raise c i r m w).rdn = d.rdn := rfl
@[simp] theorem Dev.raise_adc (d : Dev) (c i r m : Nat) (w : List Word) : (d.raise c i r m w).adc = d.adc := rfl
@[simp] theorem Dev.raise_svi (d : Dev) (c i r m : Nat) (w : List Word) : (d.raise c i r m w).svi = d.svi := rfl
@[simp] theorem Dev.raise_mcd (d : Dev) (c i r m : Nat) (w : List Word) : (d.raise c i r m w).mcd = d.mcd := rfl
@[simp] theorem Dev.raise_clk (d : Dev) (c i r m : Nat) (w : List Word) : (d.raise c i r m w).clk = d.clk := rfl
@[simp] theorem Dev.raise_tmb (d : Dev) (c i r m : Nat) (w : List Word) : (d.raise c i r m w).tmb = d.tmb := rfl
@[simp] theorem Dev.raise_ptp (d : Dev) (c i r m : Nat) (w : List Word) : (d.raise c i r m w).ptp = d.ptp := rfl
@[simp] theorem Dev.raise_ddp (d : Dev) (c i r m : Nat) (w : List Word) : (d.raise c i r m w).ddp = d.ddp := rfl
@[simp] theorem Dev.raise_recd (d : Dev) (c i r m : Nat) (w : List Word) : (d.raise c i r m w).recd = d.recd := rfl
@[simp] theorem Dev.raise_apu (d : Dev) (c i r m : Nat) (w : List Word) : (d.raise c i r m w).apu = d.apu := rfl
@[simp] theorem Dev.raise_vlt (d : Dev) (c i r m : Nat) (w : List Word) : (d.raise c i r m w).vlt = d.vlt := rfl
@[simp] theorem Dev.raise_jobs (d : Dev) (c i r m : Nat) (w : List Word) : (d.raise c i r m w).jobs = d.jobs := rfl
@[simp] theorem Dev.raise_pwr (d : Dev) (c i r m : Nat) (w : List Word) : (d.raise c i r m w).pwr = d.pwr := rfl
@[simp] theorem Dev.raise_thm (d : Dev) (c i r m : Nat) (w : List Word) : (d.raise c i r m w).thm = d.thm := rfl
@[simp] theorem Dev.raise_rsv (d : Dev) (c i r m : Nat) (w : List Word) : (d.raise c i r m w).rsv = d.rsv := rfl
@[simp] theorem Dev.raise_pins (d : Dev) (c i r m : Nat) (w : List Word) : (d.raise c i r m w).pins = d.pins := rfl
@[simp] theorem Dev.raise_free (d : Dev) (c i r m : Nat) (w : List Word) : (d.raise c i r m w).free = d.free := rfl
@[simp] theorem Dev.setQueue_active (d : Dev) (q : Nat) (x : Queue) : (d.setQueue q x).active = d.active := rfl
@[simp] theorem Dev.setQueue_staging (d : Dev) (q : Nat) (x : Queue) : (d.setQueue q x).staging = d.staging := rfl
@[simp] theorem Dev.setQueue_rw (d : Dev) (q : Nat) (x : Queue) : (d.setQueue q x).rw = d.rw := rfl
@[simp] theorem Dev.setQueue_sticky (d : Dev) (q : Nat) (x : Queue) : (d.setQueue q x).sticky = d.sticky := rfl
@[simp] theorem Dev.setQueue_clears (d : Dev) (q : Nat) (x : Queue) : (d.setQueue q x).clears = d.clears := rfl
@[simp] theorem Dev.setQueue_sys (d : Dev) (q : Nat) (x : Queue) : (d.setQueue q x).sys = d.sys := rfl
@[simp] theorem Dev.setQueue_frt (d : Dev) (q : Nat) (x : Queue) : (d.setQueue q x).frt = d.frt := rfl
@[simp] theorem Dev.setQueue_boot (d : Dev) (q : Nat) (x : Queue) : (d.setQueue q x).boot = d.boot := rfl
@[simp] theorem Dev.setQueue_gc (d : Dev) (q : Nat) (x : Queue) : (d.setQueue q x).gc = d.gc := rfl
@[simp] theorem Dev.setQueue_rae (d : Dev) (q : Nat) (x : Queue) : (d.setQueue q x).rae = d.rae := rfl
@[simp] theorem Dev.setQueue_prc (d : Dev) (q : Nat) (x : Queue) : (d.setQueue q x).prc = d.prc := rfl
@[simp] theorem Dev.setQueue_lpe (d : Dev) (q : Nat) (x : Queue) : (d.setQueue q x).lpe = d.lpe := rfl
@[simp] theorem Dev.setQueue_mbe (d : Dev) (q : Nat) (x : Queue) : (d.setQueue q x).mbe = d.mbe := rfl
@[simp] theorem Dev.setQueue_ikl (d : Dev) (q : Nat) (x : Queue) : (d.setQueue q x).ikl = d.ikl := rfl
@[simp] theorem Dev.setQueue_nodes (d : Dev) (q : Nat) (x : Queue) : (d.setQueue q x).nodes = d.nodes := rfl
@[simp] theorem Dev.setQueue_rdn (d : Dev) (q : Nat) (x : Queue) : (d.setQueue q x).rdn = d.rdn := rfl
@[simp] theorem Dev.setQueue_adc (d : Dev) (q : Nat) (x : Queue) : (d.setQueue q x).adc = d.adc := rfl
@[simp] theorem Dev.setQueue_svi (d : Dev) (q : Nat) (x : Queue) : (d.setQueue q x).svi = d.svi := rfl
@[simp] theorem Dev.setQueue_mcd (d : Dev) (q : Nat) (x : Queue) : (d.setQueue q x).mcd = d.mcd := rfl
@[simp] theorem Dev.setQueue_clk (d : Dev) (q : Nat) (x : Queue) : (d.setQueue q x).clk = d.clk := rfl
@[simp] theorem Dev.setQueue_tmb (d : Dev) (q : Nat) (x : Queue) : (d.setQueue q x).tmb = d.tmb := rfl
@[simp] theorem Dev.setQueue_ptp (d : Dev) (q : Nat) (x : Queue) : (d.setQueue q x).ptp = d.ptp := rfl
@[simp] theorem Dev.setQueue_ddp (d : Dev) (q : Nat) (x : Queue) : (d.setQueue q x).ddp = d.ddp := rfl
@[simp] theorem Dev.setQueue_recd (d : Dev) (q : Nat) (x : Queue) : (d.setQueue q x).recd = d.recd := rfl
@[simp] theorem Dev.setQueue_apu (d : Dev) (q : Nat) (x : Queue) : (d.setQueue q x).apu = d.apu := rfl
@[simp] theorem Dev.setQueue_vlt (d : Dev) (q : Nat) (x : Queue) : (d.setQueue q x).vlt = d.vlt := rfl
@[simp] theorem Dev.setQueue_jobs (d : Dev) (q : Nat) (x : Queue) : (d.setQueue q x).jobs = d.jobs := rfl
@[simp] theorem Dev.setQueue_pwr (d : Dev) (q : Nat) (x : Queue) : (d.setQueue q x).pwr = d.pwr := rfl
@[simp] theorem Dev.setQueue_thm (d : Dev) (q : Nat) (x : Queue) : (d.setQueue q x).thm = d.thm := rfl
@[simp] theorem Dev.setQueue_rsv (d : Dev) (q : Nat) (x : Queue) : (d.setQueue q x).rsv = d.rsv := rfl
@[simp] theorem Dev.setQueue_pins (d : Dev) (q : Nat) (x : Queue) : (d.setQueue q x).pins = d.pins := rfl
@[simp] theorem Dev.setQueue_free (d : Dev) (q : Nat) (x : Queue) : (d.setQueue q x).free = d.free := rfl
@[simp] theorem Dev.setArm_active (d : Dev) (n : Nat) (x : Arm) : (d.setArm n x).active = d.active := rfl
@[simp] theorem Dev.setArm_staging (d : Dev) (n : Nat) (x : Arm) : (d.setArm n x).staging = d.staging := rfl
@[simp] theorem Dev.setArm_rw (d : Dev) (n : Nat) (x : Arm) : (d.setArm n x).rw = d.rw := rfl
@[simp] theorem Dev.setArm_sticky (d : Dev) (n : Nat) (x : Arm) : (d.setArm n x).sticky = d.sticky := rfl
@[simp] theorem Dev.setArm_clears (d : Dev) (n : Nat) (x : Arm) : (d.setArm n x).clears = d.clears := rfl
@[simp] theorem Dev.setArm_sys (d : Dev) (n : Nat) (x : Arm) : (d.setArm n x).sys = d.sys := rfl
@[simp] theorem Dev.setArm_frt (d : Dev) (n : Nat) (x : Arm) : (d.setArm n x).frt = d.frt := rfl
@[simp] theorem Dev.setArm_boot (d : Dev) (n : Nat) (x : Arm) : (d.setArm n x).boot = d.boot := rfl
@[simp] theorem Dev.setArm_gc (d : Dev) (n : Nat) (x : Arm) : (d.setArm n x).gc = d.gc := rfl
@[simp] theorem Dev.setArm_rae (d : Dev) (n : Nat) (x : Arm) : (d.setArm n x).rae = d.rae := rfl
@[simp] theorem Dev.setArm_prc (d : Dev) (n : Nat) (x : Arm) : (d.setArm n x).prc = d.prc := rfl
@[simp] theorem Dev.setArm_lpe (d : Dev) (n : Nat) (x : Arm) : (d.setArm n x).lpe = d.lpe := rfl
@[simp] theorem Dev.setArm_ikl (d : Dev) (n : Nat) (x : Arm) : (d.setArm n x).ikl = d.ikl := rfl
@[simp] theorem Dev.setArm_nodes (d : Dev) (n : Nat) (x : Arm) : (d.setArm n x).nodes = d.nodes := rfl
@[simp] theorem Dev.setArm_rdn (d : Dev) (n : Nat) (x : Arm) : (d.setArm n x).rdn = d.rdn := rfl
@[simp] theorem Dev.setArm_adc (d : Dev) (n : Nat) (x : Arm) : (d.setArm n x).adc = d.adc := rfl
@[simp] theorem Dev.setArm_svi (d : Dev) (n : Nat) (x : Arm) : (d.setArm n x).svi = d.svi := rfl
@[simp] theorem Dev.setArm_mcd (d : Dev) (n : Nat) (x : Arm) : (d.setArm n x).mcd = d.mcd := rfl
@[simp] theorem Dev.setArm_clk (d : Dev) (n : Nat) (x : Arm) : (d.setArm n x).clk = d.clk := rfl
@[simp] theorem Dev.setArm_tmb (d : Dev) (n : Nat) (x : Arm) : (d.setArm n x).tmb = d.tmb := rfl
@[simp] theorem Dev.setArm_ptp (d : Dev) (n : Nat) (x : Arm) : (d.setArm n x).ptp = d.ptp := rfl
@[simp] theorem Dev.setArm_ddp (d : Dev) (n : Nat) (x : Arm) : (d.setArm n x).ddp = d.ddp := rfl
@[simp] theorem Dev.setArm_recd (d : Dev) (n : Nat) (x : Arm) : (d.setArm n x).recd = d.recd := rfl
@[simp] theorem Dev.setArm_pci (d : Dev) (n : Nat) (x : Arm) : (d.setArm n x).pci = d.pci := rfl
@[simp] theorem Dev.setArm_apu (d : Dev) (n : Nat) (x : Arm) : (d.setArm n x).apu = d.apu := rfl
@[simp] theorem Dev.setArm_vlt (d : Dev) (n : Nat) (x : Arm) : (d.setArm n x).vlt = d.vlt := rfl
@[simp] theorem Dev.setArm_jobs (d : Dev) (n : Nat) (x : Arm) : (d.setArm n x).jobs = d.jobs := rfl
@[simp] theorem Dev.setArm_pwr (d : Dev) (n : Nat) (x : Arm) : (d.setArm n x).pwr = d.pwr := rfl
@[simp] theorem Dev.setArm_thm (d : Dev) (n : Nat) (x : Arm) : (d.setArm n x).thm = d.thm := rfl
@[simp] theorem Dev.setArm_rsv (d : Dev) (n : Nat) (x : Arm) : (d.setArm n x).rsv = d.rsv := rfl
@[simp] theorem Dev.setArm_pins (d : Dev) (n : Nat) (x : Arm) : (d.setArm n x).pins = d.pins := rfl
@[simp] theorem Dev.setArm_free (d : Dev) (n : Nat) (x : Arm) : (d.setArm n x).free = d.free := rfl
@[simp] theorem Dev.setCore_active (d : Dev) (n : Nat) (x : AdcCore) : (d.setCore n x).active = d.active := rfl
@[simp] theorem Dev.setCore_staging (d : Dev) (n : Nat) (x : AdcCore) : (d.setCore n x).staging = d.staging := rfl
@[simp] theorem Dev.setCore_rw (d : Dev) (n : Nat) (x : AdcCore) : (d.setCore n x).rw = d.rw := rfl
@[simp] theorem Dev.setCore_sticky (d : Dev) (n : Nat) (x : AdcCore) : (d.setCore n x).sticky = d.sticky := rfl
@[simp] theorem Dev.setCore_clears (d : Dev) (n : Nat) (x : AdcCore) : (d.setCore n x).clears = d.clears := rfl
@[simp] theorem Dev.setCore_sys (d : Dev) (n : Nat) (x : AdcCore) : (d.setCore n x).sys = d.sys := rfl
@[simp] theorem Dev.setCore_frt (d : Dev) (n : Nat) (x : AdcCore) : (d.setCore n x).frt = d.frt := rfl
@[simp] theorem Dev.setCore_boot (d : Dev) (n : Nat) (x : AdcCore) : (d.setCore n x).boot = d.boot := rfl
@[simp] theorem Dev.setCore_gc (d : Dev) (n : Nat) (x : AdcCore) : (d.setCore n x).gc = d.gc := rfl
@[simp] theorem Dev.setCore_rae (d : Dev) (n : Nat) (x : AdcCore) : (d.setCore n x).rae = d.rae := rfl
@[simp] theorem Dev.setCore_prc (d : Dev) (n : Nat) (x : AdcCore) : (d.setCore n x).prc = d.prc := rfl
@[simp] theorem Dev.setCore_lpe (d : Dev) (n : Nat) (x : AdcCore) : (d.setCore n x).lpe = d.lpe := rfl
@[simp] theorem Dev.setCore_mbe (d : Dev) (n : Nat) (x : AdcCore) : (d.setCore n x).mbe = d.mbe := rfl
@[simp] theorem Dev.setCore_ikl (d : Dev) (n : Nat) (x : AdcCore) : (d.setCore n x).ikl = d.ikl := rfl
@[simp] theorem Dev.setCore_nodes (d : Dev) (n : Nat) (x : AdcCore) : (d.setCore n x).nodes = d.nodes := rfl
@[simp] theorem Dev.setCore_rdn (d : Dev) (n : Nat) (x : AdcCore) : (d.setCore n x).rdn = d.rdn := rfl
@[simp] theorem Dev.setCore_svi (d : Dev) (n : Nat) (x : AdcCore) : (d.setCore n x).svi = d.svi := rfl
@[simp] theorem Dev.setCore_mcd (d : Dev) (n : Nat) (x : AdcCore) : (d.setCore n x).mcd = d.mcd := rfl
@[simp] theorem Dev.setCore_clk (d : Dev) (n : Nat) (x : AdcCore) : (d.setCore n x).clk = d.clk := rfl
@[simp] theorem Dev.setCore_tmb (d : Dev) (n : Nat) (x : AdcCore) : (d.setCore n x).tmb = d.tmb := rfl
@[simp] theorem Dev.setCore_ptp (d : Dev) (n : Nat) (x : AdcCore) : (d.setCore n x).ptp = d.ptp := rfl
@[simp] theorem Dev.setCore_ddp (d : Dev) (n : Nat) (x : AdcCore) : (d.setCore n x).ddp = d.ddp := rfl
@[simp] theorem Dev.setCore_recd (d : Dev) (n : Nat) (x : AdcCore) : (d.setCore n x).recd = d.recd := rfl
@[simp] theorem Dev.setCore_pci (d : Dev) (n : Nat) (x : AdcCore) : (d.setCore n x).pci = d.pci := rfl
@[simp] theorem Dev.setCore_apu (d : Dev) (n : Nat) (x : AdcCore) : (d.setCore n x).apu = d.apu := rfl
@[simp] theorem Dev.setCore_vlt (d : Dev) (n : Nat) (x : AdcCore) : (d.setCore n x).vlt = d.vlt := rfl
@[simp] theorem Dev.setCore_jobs (d : Dev) (n : Nat) (x : AdcCore) : (d.setCore n x).jobs = d.jobs := rfl
@[simp] theorem Dev.setCore_pwr (d : Dev) (n : Nat) (x : AdcCore) : (d.setCore n x).pwr = d.pwr := rfl
@[simp] theorem Dev.setCore_thm (d : Dev) (n : Nat) (x : AdcCore) : (d.setCore n x).thm = d.thm := rfl
@[simp] theorem Dev.setCore_rsv (d : Dev) (n : Nat) (x : AdcCore) : (d.setCore n x).rsv = d.rsv := rfl
@[simp] theorem Dev.setCore_pins (d : Dev) (n : Nat) (x : AdcCore) : (d.setCore n x).pins = d.pins := rfl
@[simp] theorem Dev.setCore_free (d : Dev) (n : Nat) (x : AdcCore) : (d.setCore n x).free = d.free := rfl
@[simp] theorem Dev.setStream_active (d : Dev) (n : Nat) (x : SvStream) : (d.setStream n x).active = d.active := rfl
@[simp] theorem Dev.setStream_staging (d : Dev) (n : Nat) (x : SvStream) : (d.setStream n x).staging = d.staging := rfl
@[simp] theorem Dev.setStream_rw (d : Dev) (n : Nat) (x : SvStream) : (d.setStream n x).rw = d.rw := rfl
@[simp] theorem Dev.setStream_sticky (d : Dev) (n : Nat) (x : SvStream) : (d.setStream n x).sticky = d.sticky := rfl
@[simp] theorem Dev.setStream_clears (d : Dev) (n : Nat) (x : SvStream) : (d.setStream n x).clears = d.clears := rfl
@[simp] theorem Dev.setStream_sys (d : Dev) (n : Nat) (x : SvStream) : (d.setStream n x).sys = d.sys := rfl
@[simp] theorem Dev.setStream_frt (d : Dev) (n : Nat) (x : SvStream) : (d.setStream n x).frt = d.frt := rfl
@[simp] theorem Dev.setStream_boot (d : Dev) (n : Nat) (x : SvStream) : (d.setStream n x).boot = d.boot := rfl
@[simp] theorem Dev.setStream_gc (d : Dev) (n : Nat) (x : SvStream) : (d.setStream n x).gc = d.gc := rfl
@[simp] theorem Dev.setStream_rae (d : Dev) (n : Nat) (x : SvStream) : (d.setStream n x).rae = d.rae := rfl
@[simp] theorem Dev.setStream_prc (d : Dev) (n : Nat) (x : SvStream) : (d.setStream n x).prc = d.prc := rfl
@[simp] theorem Dev.setStream_lpe (d : Dev) (n : Nat) (x : SvStream) : (d.setStream n x).lpe = d.lpe := rfl
@[simp] theorem Dev.setStream_mbe (d : Dev) (n : Nat) (x : SvStream) : (d.setStream n x).mbe = d.mbe := rfl
@[simp] theorem Dev.setStream_ikl (d : Dev) (n : Nat) (x : SvStream) : (d.setStream n x).ikl = d.ikl := rfl
@[simp] theorem Dev.setStream_nodes (d : Dev) (n : Nat) (x : SvStream) : (d.setStream n x).nodes = d.nodes := rfl
@[simp] theorem Dev.setStream_rdn (d : Dev) (n : Nat) (x : SvStream) : (d.setStream n x).rdn = d.rdn := rfl
@[simp] theorem Dev.setStream_adc (d : Dev) (n : Nat) (x : SvStream) : (d.setStream n x).adc = d.adc := rfl
@[simp] theorem Dev.setStream_mcd (d : Dev) (n : Nat) (x : SvStream) : (d.setStream n x).mcd = d.mcd := rfl
@[simp] theorem Dev.setStream_clk (d : Dev) (n : Nat) (x : SvStream) : (d.setStream n x).clk = d.clk := rfl
@[simp] theorem Dev.setStream_tmb (d : Dev) (n : Nat) (x : SvStream) : (d.setStream n x).tmb = d.tmb := rfl
@[simp] theorem Dev.setStream_ptp (d : Dev) (n : Nat) (x : SvStream) : (d.setStream n x).ptp = d.ptp := rfl
@[simp] theorem Dev.setStream_ddp (d : Dev) (n : Nat) (x : SvStream) : (d.setStream n x).ddp = d.ddp := rfl
@[simp] theorem Dev.setStream_recd (d : Dev) (n : Nat) (x : SvStream) : (d.setStream n x).recd = d.recd := rfl
@[simp] theorem Dev.setStream_pci (d : Dev) (n : Nat) (x : SvStream) : (d.setStream n x).pci = d.pci := rfl
@[simp] theorem Dev.setStream_apu (d : Dev) (n : Nat) (x : SvStream) : (d.setStream n x).apu = d.apu := rfl
@[simp] theorem Dev.setStream_vlt (d : Dev) (n : Nat) (x : SvStream) : (d.setStream n x).vlt = d.vlt := rfl
@[simp] theorem Dev.setStream_jobs (d : Dev) (n : Nat) (x : SvStream) : (d.setStream n x).jobs = d.jobs := rfl
@[simp] theorem Dev.setStream_pwr (d : Dev) (n : Nat) (x : SvStream) : (d.setStream n x).pwr = d.pwr := rfl
@[simp] theorem Dev.setStream_thm (d : Dev) (n : Nat) (x : SvStream) : (d.setStream n x).thm = d.thm := rfl
@[simp] theorem Dev.setStream_rsv (d : Dev) (n : Nat) (x : SvStream) : (d.setStream n x).rsv = d.rsv := rfl
@[simp] theorem Dev.setStream_pins (d : Dev) (n : Nat) (x : SvStream) : (d.setStream n x).pins = d.pins := rfl
@[simp] theorem Dev.setStream_free (d : Dev) (n : Nat) (x : SvStream) : (d.setStream n x).free = d.free := rfl
@[simp] theorem Dev.setPair_active (d : Dev) (n : Nat) (x : Pair) : (d.setPair n x).active = d.active := rfl
@[simp] theorem Dev.setPair_staging (d : Dev) (n : Nat) (x : Pair) : (d.setPair n x).staging = d.staging := rfl
@[simp] theorem Dev.setPair_rw (d : Dev) (n : Nat) (x : Pair) : (d.setPair n x).rw = d.rw := rfl
@[simp] theorem Dev.setPair_sticky (d : Dev) (n : Nat) (x : Pair) : (d.setPair n x).sticky = d.sticky := rfl
@[simp] theorem Dev.setPair_clears (d : Dev) (n : Nat) (x : Pair) : (d.setPair n x).clears = d.clears := rfl
@[simp] theorem Dev.setPair_sys (d : Dev) (n : Nat) (x : Pair) : (d.setPair n x).sys = d.sys := rfl
@[simp] theorem Dev.setPair_frt (d : Dev) (n : Nat) (x : Pair) : (d.setPair n x).frt = d.frt := rfl
@[simp] theorem Dev.setPair_boot (d : Dev) (n : Nat) (x : Pair) : (d.setPair n x).boot = d.boot := rfl
@[simp] theorem Dev.setPair_gc (d : Dev) (n : Nat) (x : Pair) : (d.setPair n x).gc = d.gc := rfl
@[simp] theorem Dev.setPair_rae (d : Dev) (n : Nat) (x : Pair) : (d.setPair n x).rae = d.rae := rfl
@[simp] theorem Dev.setPair_prc (d : Dev) (n : Nat) (x : Pair) : (d.setPair n x).prc = d.prc := rfl
@[simp] theorem Dev.setPair_lpe (d : Dev) (n : Nat) (x : Pair) : (d.setPair n x).lpe = d.lpe := rfl
@[simp] theorem Dev.setPair_mbe (d : Dev) (n : Nat) (x : Pair) : (d.setPair n x).mbe = d.mbe := rfl
@[simp] theorem Dev.setPair_ikl (d : Dev) (n : Nat) (x : Pair) : (d.setPair n x).ikl = d.ikl := rfl
@[simp] theorem Dev.setPair_nodes (d : Dev) (n : Nat) (x : Pair) : (d.setPair n x).nodes = d.nodes := rfl
@[simp] theorem Dev.setPair_rdn (d : Dev) (n : Nat) (x : Pair) : (d.setPair n x).rdn = d.rdn := rfl
@[simp] theorem Dev.setPair_adc (d : Dev) (n : Nat) (x : Pair) : (d.setPair n x).adc = d.adc := rfl
@[simp] theorem Dev.setPair_svi (d : Dev) (n : Nat) (x : Pair) : (d.setPair n x).svi = d.svi := rfl
@[simp] theorem Dev.setPair_mcd (d : Dev) (n : Nat) (x : Pair) : (d.setPair n x).mcd = d.mcd := rfl
@[simp] theorem Dev.setPair_clk (d : Dev) (n : Nat) (x : Pair) : (d.setPair n x).clk = d.clk := rfl
@[simp] theorem Dev.setPair_tmb (d : Dev) (n : Nat) (x : Pair) : (d.setPair n x).tmb = d.tmb := rfl
@[simp] theorem Dev.setPair_ptp (d : Dev) (n : Nat) (x : Pair) : (d.setPair n x).ptp = d.ptp := rfl
@[simp] theorem Dev.setPair_recd (d : Dev) (n : Nat) (x : Pair) : (d.setPair n x).recd = d.recd := rfl
@[simp] theorem Dev.setPair_pci (d : Dev) (n : Nat) (x : Pair) : (d.setPair n x).pci = d.pci := rfl
@[simp] theorem Dev.setPair_apu (d : Dev) (n : Nat) (x : Pair) : (d.setPair n x).apu = d.apu := rfl
@[simp] theorem Dev.setPair_vlt (d : Dev) (n : Nat) (x : Pair) : (d.setPair n x).vlt = d.vlt := rfl
@[simp] theorem Dev.setPair_jobs (d : Dev) (n : Nat) (x : Pair) : (d.setPair n x).jobs = d.jobs := rfl
@[simp] theorem Dev.setPair_pwr (d : Dev) (n : Nat) (x : Pair) : (d.setPair n x).pwr = d.pwr := rfl
@[simp] theorem Dev.setPair_thm (d : Dev) (n : Nat) (x : Pair) : (d.setPair n x).thm = d.thm := rfl
@[simp] theorem Dev.setPair_rsv (d : Dev) (n : Nat) (x : Pair) : (d.setPair n x).rsv = d.rsv := rfl
@[simp] theorem Dev.setPair_pins (d : Dev) (n : Nat) (x : Pair) : (d.setPair n x).pins = d.pins := rfl
@[simp] theorem Dev.setPair_free (d : Dev) (n : Nat) (x : Pair) : (d.setPair n x).free = d.free := rfl
@[simp] theorem Dev.setNode_active (d : Dev) (n : Nat) (x : Node) : (d.setNode n x).active = d.active := rfl
@[simp] theorem Dev.setNode_staging (d : Dev) (n : Nat) (x : Node) : (d.setNode n x).staging = d.staging := rfl
@[simp] theorem Dev.setNode_rw (d : Dev) (n : Nat) (x : Node) : (d.setNode n x).rw = d.rw := rfl
@[simp] theorem Dev.setNode_sticky (d : Dev) (n : Nat) (x : Node) : (d.setNode n x).sticky = d.sticky := rfl
@[simp] theorem Dev.setNode_clears (d : Dev) (n : Nat) (x : Node) : (d.setNode n x).clears = d.clears := rfl
@[simp] theorem Dev.setNode_sys (d : Dev) (n : Nat) (x : Node) : (d.setNode n x).sys = d.sys := rfl
@[simp] theorem Dev.setNode_frt (d : Dev) (n : Nat) (x : Node) : (d.setNode n x).frt = d.frt := rfl
@[simp] theorem Dev.setNode_boot (d : Dev) (n : Nat) (x : Node) : (d.setNode n x).boot = d.boot := rfl
@[simp] theorem Dev.setNode_gc (d : Dev) (n : Nat) (x : Node) : (d.setNode n x).gc = d.gc := rfl
@[simp] theorem Dev.setNode_rae (d : Dev) (n : Nat) (x : Node) : (d.setNode n x).rae = d.rae := rfl
@[simp] theorem Dev.setNode_prc (d : Dev) (n : Nat) (x : Node) : (d.setNode n x).prc = d.prc := rfl
@[simp] theorem Dev.setNode_lpe (d : Dev) (n : Nat) (x : Node) : (d.setNode n x).lpe = d.lpe := rfl
@[simp] theorem Dev.setNode_mbe (d : Dev) (n : Nat) (x : Node) : (d.setNode n x).mbe = d.mbe := rfl
@[simp] theorem Dev.setNode_ikl (d : Dev) (n : Nat) (x : Node) : (d.setNode n x).ikl = d.ikl := rfl
@[simp] theorem Dev.setNode_rdn (d : Dev) (n : Nat) (x : Node) : (d.setNode n x).rdn = d.rdn := rfl
@[simp] theorem Dev.setNode_adc (d : Dev) (n : Nat) (x : Node) : (d.setNode n x).adc = d.adc := rfl
@[simp] theorem Dev.setNode_svi (d : Dev) (n : Nat) (x : Node) : (d.setNode n x).svi = d.svi := rfl
@[simp] theorem Dev.setNode_mcd (d : Dev) (n : Nat) (x : Node) : (d.setNode n x).mcd = d.mcd := rfl
@[simp] theorem Dev.setNode_clk (d : Dev) (n : Nat) (x : Node) : (d.setNode n x).clk = d.clk := rfl
@[simp] theorem Dev.setNode_tmb (d : Dev) (n : Nat) (x : Node) : (d.setNode n x).tmb = d.tmb := rfl
@[simp] theorem Dev.setNode_ptp (d : Dev) (n : Nat) (x : Node) : (d.setNode n x).ptp = d.ptp := rfl
@[simp] theorem Dev.setNode_ddp (d : Dev) (n : Nat) (x : Node) : (d.setNode n x).ddp = d.ddp := rfl
@[simp] theorem Dev.setNode_recd (d : Dev) (n : Nat) (x : Node) : (d.setNode n x).recd = d.recd := rfl
@[simp] theorem Dev.setNode_pci (d : Dev) (n : Nat) (x : Node) : (d.setNode n x).pci = d.pci := rfl
@[simp] theorem Dev.setNode_apu (d : Dev) (n : Nat) (x : Node) : (d.setNode n x).apu = d.apu := rfl
@[simp] theorem Dev.setNode_vlt (d : Dev) (n : Nat) (x : Node) : (d.setNode n x).vlt = d.vlt := rfl
@[simp] theorem Dev.setNode_jobs (d : Dev) (n : Nat) (x : Node) : (d.setNode n x).jobs = d.jobs := rfl
@[simp] theorem Dev.setNode_pwr (d : Dev) (n : Nat) (x : Node) : (d.setNode n x).pwr = d.pwr := rfl
@[simp] theorem Dev.setNode_thm (d : Dev) (n : Nat) (x : Node) : (d.setNode n x).thm = d.thm := rfl
@[simp] theorem Dev.setNode_rsv (d : Dev) (n : Nat) (x : Node) : (d.setNode n x).rsv = d.rsv := rfl
@[simp] theorem Dev.setNode_pins (d : Dev) (n : Nat) (x : Node) : (d.setNode n x).pins = d.pins := rfl
@[simp] theorem Dev.setNode_free (d : Dev) (n : Nat) (x : Node) : (d.setNode n x).free = d.free := rfl
@[simp] theorem Dev.setJob_active (d : Dev) (n : Nat) (x : Job) : (d.setJob n x).active = d.active := rfl
@[simp] theorem Dev.setJob_staging (d : Dev) (n : Nat) (x : Job) : (d.setJob n x).staging = d.staging := rfl
@[simp] theorem Dev.setJob_rw (d : Dev) (n : Nat) (x : Job) : (d.setJob n x).rw = d.rw := rfl
@[simp] theorem Dev.setJob_sticky (d : Dev) (n : Nat) (x : Job) : (d.setJob n x).sticky = d.sticky := rfl
@[simp] theorem Dev.setJob_clears (d : Dev) (n : Nat) (x : Job) : (d.setJob n x).clears = d.clears := rfl
@[simp] theorem Dev.setJob_sys (d : Dev) (n : Nat) (x : Job) : (d.setJob n x).sys = d.sys := rfl
@[simp] theorem Dev.setJob_frt (d : Dev) (n : Nat) (x : Job) : (d.setJob n x).frt = d.frt := rfl
@[simp] theorem Dev.setJob_boot (d : Dev) (n : Nat) (x : Job) : (d.setJob n x).boot = d.boot := rfl
@[simp] theorem Dev.setJob_gc (d : Dev) (n : Nat) (x : Job) : (d.setJob n x).gc = d.gc := rfl
@[simp] theorem Dev.setJob_rae (d : Dev) (n : Nat) (x : Job) : (d.setJob n x).rae = d.rae := rfl
@[simp] theorem Dev.setJob_prc (d : Dev) (n : Nat) (x : Job) : (d.setJob n x).prc = d.prc := rfl
@[simp] theorem Dev.setJob_lpe (d : Dev) (n : Nat) (x : Job) : (d.setJob n x).lpe = d.lpe := rfl
@[simp] theorem Dev.setJob_mbe (d : Dev) (n : Nat) (x : Job) : (d.setJob n x).mbe = d.mbe := rfl
@[simp] theorem Dev.setJob_ikl (d : Dev) (n : Nat) (x : Job) : (d.setJob n x).ikl = d.ikl := rfl
@[simp] theorem Dev.setJob_nodes (d : Dev) (n : Nat) (x : Job) : (d.setJob n x).nodes = d.nodes := rfl
@[simp] theorem Dev.setJob_rdn (d : Dev) (n : Nat) (x : Job) : (d.setJob n x).rdn = d.rdn := rfl
@[simp] theorem Dev.setJob_adc (d : Dev) (n : Nat) (x : Job) : (d.setJob n x).adc = d.adc := rfl
@[simp] theorem Dev.setJob_svi (d : Dev) (n : Nat) (x : Job) : (d.setJob n x).svi = d.svi := rfl
@[simp] theorem Dev.setJob_mcd (d : Dev) (n : Nat) (x : Job) : (d.setJob n x).mcd = d.mcd := rfl
@[simp] theorem Dev.setJob_clk (d : Dev) (n : Nat) (x : Job) : (d.setJob n x).clk = d.clk := rfl
@[simp] theorem Dev.setJob_tmb (d : Dev) (n : Nat) (x : Job) : (d.setJob n x).tmb = d.tmb := rfl
@[simp] theorem Dev.setJob_ptp (d : Dev) (n : Nat) (x : Job) : (d.setJob n x).ptp = d.ptp := rfl
@[simp] theorem Dev.setJob_ddp (d : Dev) (n : Nat) (x : Job) : (d.setJob n x).ddp = d.ddp := rfl
@[simp] theorem Dev.setJob_recd (d : Dev) (n : Nat) (x : Job) : (d.setJob n x).recd = d.recd := rfl
@[simp] theorem Dev.setJob_pci (d : Dev) (n : Nat) (x : Job) : (d.setJob n x).pci = d.pci := rfl
@[simp] theorem Dev.setJob_apu (d : Dev) (n : Nat) (x : Job) : (d.setJob n x).apu = d.apu := rfl
@[simp] theorem Dev.setJob_vlt (d : Dev) (n : Nat) (x : Job) : (d.setJob n x).vlt = d.vlt := rfl
@[simp] theorem Dev.setJob_pwr (d : Dev) (n : Nat) (x : Job) : (d.setJob n x).pwr = d.pwr := rfl
@[simp] theorem Dev.setJob_thm (d : Dev) (n : Nat) (x : Job) : (d.setJob n x).thm = d.thm := rfl
@[simp] theorem Dev.setJob_rsv (d : Dev) (n : Nat) (x : Job) : (d.setJob n x).rsv = d.rsv := rfl
@[simp] theorem Dev.setJob_pins (d : Dev) (n : Nat) (x : Job) : (d.setJob n x).pins = d.pins := rfl
@[simp] theorem Dev.setJob_free (d : Dev) (n : Nat) (x : Job) : (d.setJob n x).free = d.free := rfl
@[simp] theorem Dev.laneSend_active (d : Dev) (l t : Nat) (bs : List Dword) : (d.laneSend l t bs).active = d.active := rfl
@[simp] theorem Dev.laneSend_staging (d : Dev) (l t : Nat) (bs : List Dword) : (d.laneSend l t bs).staging = d.staging := rfl
@[simp] theorem Dev.laneSend_rw (d : Dev) (l t : Nat) (bs : List Dword) : (d.laneSend l t bs).rw = d.rw := rfl
@[simp] theorem Dev.laneSend_sticky (d : Dev) (l t : Nat) (bs : List Dword) : (d.laneSend l t bs).sticky = d.sticky := rfl
@[simp] theorem Dev.laneSend_clears (d : Dev) (l t : Nat) (bs : List Dword) : (d.laneSend l t bs).clears = d.clears := rfl
@[simp] theorem Dev.laneSend_sys (d : Dev) (l t : Nat) (bs : List Dword) : (d.laneSend l t bs).sys = d.sys := rfl
@[simp] theorem Dev.laneSend_frt (d : Dev) (l t : Nat) (bs : List Dword) : (d.laneSend l t bs).frt = d.frt := rfl
@[simp] theorem Dev.laneSend_boot (d : Dev) (l t : Nat) (bs : List Dword) : (d.laneSend l t bs).boot = d.boot := rfl
@[simp] theorem Dev.laneSend_gc (d : Dev) (l t : Nat) (bs : List Dword) : (d.laneSend l t bs).gc = d.gc := rfl
@[simp] theorem Dev.laneSend_rae (d : Dev) (l t : Nat) (bs : List Dword) : (d.laneSend l t bs).rae = d.rae := rfl
@[simp] theorem Dev.laneSend_prc (d : Dev) (l t : Nat) (bs : List Dword) : (d.laneSend l t bs).prc = d.prc := rfl
@[simp] theorem Dev.laneSend_lpe (d : Dev) (l t : Nat) (bs : List Dword) : (d.laneSend l t bs).lpe = d.lpe := rfl
@[simp] theorem Dev.laneSend_mbe (d : Dev) (l t : Nat) (bs : List Dword) : (d.laneSend l t bs).mbe = d.mbe := rfl
@[simp] theorem Dev.laneSend_nodes (d : Dev) (l t : Nat) (bs : List Dword) : (d.laneSend l t bs).nodes = d.nodes := rfl
@[simp] theorem Dev.laneSend_rdn (d : Dev) (l t : Nat) (bs : List Dword) : (d.laneSend l t bs).rdn = d.rdn := rfl
@[simp] theorem Dev.laneSend_adc (d : Dev) (l t : Nat) (bs : List Dword) : (d.laneSend l t bs).adc = d.adc := rfl
@[simp] theorem Dev.laneSend_svi (d : Dev) (l t : Nat) (bs : List Dword) : (d.laneSend l t bs).svi = d.svi := rfl
@[simp] theorem Dev.laneSend_mcd (d : Dev) (l t : Nat) (bs : List Dword) : (d.laneSend l t bs).mcd = d.mcd := rfl
@[simp] theorem Dev.laneSend_clk (d : Dev) (l t : Nat) (bs : List Dword) : (d.laneSend l t bs).clk = d.clk := rfl
@[simp] theorem Dev.laneSend_tmb (d : Dev) (l t : Nat) (bs : List Dword) : (d.laneSend l t bs).tmb = d.tmb := rfl
@[simp] theorem Dev.laneSend_ptp (d : Dev) (l t : Nat) (bs : List Dword) : (d.laneSend l t bs).ptp = d.ptp := rfl
@[simp] theorem Dev.laneSend_ddp (d : Dev) (l t : Nat) (bs : List Dword) : (d.laneSend l t bs).ddp = d.ddp := rfl
@[simp] theorem Dev.laneSend_recd (d : Dev) (l t : Nat) (bs : List Dword) : (d.laneSend l t bs).recd = d.recd := rfl
@[simp] theorem Dev.laneSend_pci (d : Dev) (l t : Nat) (bs : List Dword) : (d.laneSend l t bs).pci = d.pci := rfl
@[simp] theorem Dev.laneSend_apu (d : Dev) (l t : Nat) (bs : List Dword) : (d.laneSend l t bs).apu = d.apu := rfl
@[simp] theorem Dev.laneSend_vlt (d : Dev) (l t : Nat) (bs : List Dword) : (d.laneSend l t bs).vlt = d.vlt := rfl
@[simp] theorem Dev.laneSend_jobs (d : Dev) (l t : Nat) (bs : List Dword) : (d.laneSend l t bs).jobs = d.jobs := rfl
@[simp] theorem Dev.laneSend_pwr (d : Dev) (l t : Nat) (bs : List Dword) : (d.laneSend l t bs).pwr = d.pwr := rfl
@[simp] theorem Dev.laneSend_thm (d : Dev) (l t : Nat) (bs : List Dword) : (d.laneSend l t bs).thm = d.thm := rfl
@[simp] theorem Dev.laneSend_rsv (d : Dev) (l t : Nat) (bs : List Dword) : (d.laneSend l t bs).rsv = d.rsv := rfl
@[simp] theorem Dev.laneSend_pins (d : Dev) (l t : Nat) (bs : List Dword) : (d.laneSend l t bs).pins = d.pins := rfl
@[simp] theorem Dev.laneSend_free (d : Dev) (l t : Nat) (bs : List Dword) : (d.laneSend l t bs).free = d.free := rfl
@[simp] theorem Dev.enqueue_active (d : Dev) (l : Nat) (m : MFrame) : (d.enqueue l m).active = d.active := rfl
@[simp] theorem Dev.enqueue_staging (d : Dev) (l : Nat) (m : MFrame) : (d.enqueue l m).staging = d.staging := rfl
@[simp] theorem Dev.enqueue_rw (d : Dev) (l : Nat) (m : MFrame) : (d.enqueue l m).rw = d.rw := rfl
@[simp] theorem Dev.enqueue_sticky (d : Dev) (l : Nat) (m : MFrame) : (d.enqueue l m).sticky = d.sticky := rfl
@[simp] theorem Dev.enqueue_clears (d : Dev) (l : Nat) (m : MFrame) : (d.enqueue l m).clears = d.clears := rfl
@[simp] theorem Dev.enqueue_sys (d : Dev) (l : Nat) (m : MFrame) : (d.enqueue l m).sys = d.sys := rfl
@[simp] theorem Dev.enqueue_frt (d : Dev) (l : Nat) (m : MFrame) : (d.enqueue l m).frt = d.frt := rfl
@[simp] theorem Dev.enqueue_boot (d : Dev) (l : Nat) (m : MFrame) : (d.enqueue l m).boot = d.boot := rfl
@[simp] theorem Dev.enqueue_gc (d : Dev) (l : Nat) (m : MFrame) : (d.enqueue l m).gc = d.gc := rfl
@[simp] theorem Dev.enqueue_rae (d : Dev) (l : Nat) (m : MFrame) : (d.enqueue l m).rae = d.rae := rfl
@[simp] theorem Dev.enqueue_prc (d : Dev) (l : Nat) (m : MFrame) : (d.enqueue l m).prc = d.prc := rfl
@[simp] theorem Dev.enqueue_lpe (d : Dev) (l : Nat) (m : MFrame) : (d.enqueue l m).lpe = d.lpe := rfl
@[simp] theorem Dev.enqueue_mbe (d : Dev) (l : Nat) (m : MFrame) : (d.enqueue l m).mbe = d.mbe := rfl
@[simp] theorem Dev.enqueue_nodes (d : Dev) (l : Nat) (m : MFrame) : (d.enqueue l m).nodes = d.nodes := rfl
@[simp] theorem Dev.enqueue_rdn (d : Dev) (l : Nat) (m : MFrame) : (d.enqueue l m).rdn = d.rdn := rfl
@[simp] theorem Dev.enqueue_adc (d : Dev) (l : Nat) (m : MFrame) : (d.enqueue l m).adc = d.adc := rfl
@[simp] theorem Dev.enqueue_svi (d : Dev) (l : Nat) (m : MFrame) : (d.enqueue l m).svi = d.svi := rfl
@[simp] theorem Dev.enqueue_mcd (d : Dev) (l : Nat) (m : MFrame) : (d.enqueue l m).mcd = d.mcd := rfl
@[simp] theorem Dev.enqueue_clk (d : Dev) (l : Nat) (m : MFrame) : (d.enqueue l m).clk = d.clk := rfl
@[simp] theorem Dev.enqueue_tmb (d : Dev) (l : Nat) (m : MFrame) : (d.enqueue l m).tmb = d.tmb := rfl
@[simp] theorem Dev.enqueue_ptp (d : Dev) (l : Nat) (m : MFrame) : (d.enqueue l m).ptp = d.ptp := rfl
@[simp] theorem Dev.enqueue_ddp (d : Dev) (l : Nat) (m : MFrame) : (d.enqueue l m).ddp = d.ddp := rfl
@[simp] theorem Dev.enqueue_recd (d : Dev) (l : Nat) (m : MFrame) : (d.enqueue l m).recd = d.recd := rfl
@[simp] theorem Dev.enqueue_pci (d : Dev) (l : Nat) (m : MFrame) : (d.enqueue l m).pci = d.pci := rfl
@[simp] theorem Dev.enqueue_apu (d : Dev) (l : Nat) (m : MFrame) : (d.enqueue l m).apu = d.apu := rfl
@[simp] theorem Dev.enqueue_vlt (d : Dev) (l : Nat) (m : MFrame) : (d.enqueue l m).vlt = d.vlt := rfl
@[simp] theorem Dev.enqueue_jobs (d : Dev) (l : Nat) (m : MFrame) : (d.enqueue l m).jobs = d.jobs := rfl
@[simp] theorem Dev.enqueue_pwr (d : Dev) (l : Nat) (m : MFrame) : (d.enqueue l m).pwr = d.pwr := rfl
@[simp] theorem Dev.enqueue_thm (d : Dev) (l : Nat) (m : MFrame) : (d.enqueue l m).thm = d.thm := rfl
@[simp] theorem Dev.enqueue_rsv (d : Dev) (l : Nat) (m : MFrame) : (d.enqueue l m).rsv = d.rsv := rfl
@[simp] theorem Dev.enqueue_pins (d : Dev) (l : Nat) (m : MFrame) : (d.enqueue l m).pins = d.pins := rfl
@[simp] theorem Dev.enqueue_free (d : Dev) (l : Nat) (m : MFrame) : (d.enqueue l m).free = d.free := rfl

@[simp] theorem onDev_eq (f : Dev → Dev) (s : State) : onDev f s = .next { s with dev := f s.dev } := rfl
@[simp] theorem Dev.stage_gen (d : Dev) (o : Nat) (v : Word) : (d.stage o v).sys.stageGen = d.sys.stageGen + 1 := rfl
@[simp] theorem Dev.stage_dirty (d : Dev) (o : Nat) (v : Word) : (d.stage o v).sys.dirty = true := rfl
@[simp] theorem Dev.setArm_arms (d : Dev) (n : Nat) (x : Arm) : (d.setArm n x).mbe.arms = setAt d.mbe.arms n x := rfl
@[simp] theorem Dev.setCore_cores (d : Dev) (n : Nat) (x : AdcCore) : (d.setCore n x).adc.cores = setAt d.adc.cores n x := rfl
@[simp] theorem Dev.setPair_pairs (d : Dev) (n : Nat) (x : Pair) : (d.setPair n x).ddp.pairs = setAt d.ddp.pairs n x := rfl
@[simp] theorem Dev.setQueue_queues (d : Dev) (q : Nat) (x : Queue) : (d.setQueue q x).pci.queues = setAt d.pci.queues q x := rfl
@[simp] theorem Dev.raise_evq (d : Dev) (c i r m : Nat) (w : List Word) :
    (d.raise c i r m w).pci.evq = insertEv ⟨d.stampNow, d.tmb.epoch, c, i, r, m, w⟩ d.pci.evq := rfl
@[simp] theorem Dev.tookFree_free (d : Dev) : d.tookFree.free = d.free + 1 := rfl

end Sys2Proof.Machine
end

