-- ==== Sys2Proof/Laws/Frames.lean ====
section
/-! SUPPORT. What the shared operations leave alone: events, triggers, records of the delivery queues, access faults, causes. -/
namespace Sys2Proof.Machine

theorem Dev.msix_only (d : Dev) (v : Nat) : d.msix v = { d with pci := (d.msix v).pci } := by
  unfold Dev.msix; split <;> rfl
theorem Dev.signal_only (d : Dev) (q : Nat) : d.signal q = { d with pci := (d.signal q).pci } := by
  unfold Dev.signal; rw [Dev.msix_only]; rfl
theorem Dev.deliver_only (d : Dev) (q t : Nat) (r : List (List Word)) : d.deliver q t r = { d with pci := (d.deliver q t r).pci } := by
  unfold Dev.deliver; dsimp only; split
  · rw [Dev.signal_only]; rfl
  · rfl
/-- A completion changes the host interface alone. -/
theorem Dev.complete_only (d : Dev) (r : CompRef) (s x e : Nat) (w : List Word) : d.complete r s x e w = { d with pci := (d.complete r s x e w).pci } := by
  unfold Dev.complete; dsimp only; split
  · rw [Dev.deliver_only]; rfl
  · rfl
/-- So does an event record. -/
theorem Dev.sendEvent_only (d : Dev) (e : Ev) : d.sendEvent e = { d with pci := (d.sendEvent e).pci } := by
  unfold Dev.sendEvent; dsimp only; split
  · rfl
  · split
    · rw [Dev.deliver_only]; rfl
    · rfl
theorem Dev.completeOpen_only (d : Dev) (r : CompRef) (s : Nat) : d.completeOpen r s = { d with pci := (d.completeOpen r s).pci, free := d.free + 1 } := by
  unfold Dev.completeOpen; rw [Dev.complete_only]; rfl
theorem Dev.fetched_only (d : Dev) (q : Nat) : d.fetched q = { d with pci := (d.fetched q).pci } := rfl
theorem Dev.queueError_only (d : Dev) (q c : Nat) : d.queueError q c = { d with pci := (d.queueError q c).pci } := rfl
theorem Dev.trigger_only (d : Dev) (b c s e : Nat) : d.trigger b c s e = { d with recd := (d.trigger b c s e).recd } := by
  unfold Dev.trigger; split <;> rfl
theorem Dev.raiseT_only (d : Dev) (b c s i r m : Nat) (w : List Word) :
    d.raiseT b c s i r m w = { d with pci := (d.raiseT b c s i r m w).pci, recd := (d.raiseT b c s i r m w).recd } := by
  unfold Dev.raiseT; rw [Dev.trigger_only]; rfl

@[simp] theorem Dev.msix_active (d : Dev) (v : Nat) : (d.msix v).active = d.active := (congrArg Dev.active (d.msix_only v)).trans rfl
@[simp] theorem Dev.msix_staging (d : Dev) (v : Nat) : (d.msix v).staging = d.staging := (congrArg Dev.staging (d.msix_only v)).trans rfl
@[simp] theorem Dev.msix_rw (d : Dev) (v : Nat) : (d.msix v).rw = d.rw := (congrArg Dev.rw (d.msix_only v)).trans rfl
@[simp] theorem Dev.msix_sticky (d : Dev) (v : Nat) : (d.msix v).sticky = d.sticky := (congrArg Dev.sticky (d.msix_only v)).trans rfl
@[simp] theorem Dev.msix_clears (d : Dev) (v : Nat) : (d.msix v).clears = d.clears := (congrArg Dev.clears (d.msix_only v)).trans rfl
@[simp] theorem Dev.msix_sys (d : Dev) (v : Nat) : (d.msix v).sys = d.sys := (congrArg Dev.sys (d.msix_only v)).trans rfl
@[simp] theorem Dev.msix_frt (d : Dev) (v : Nat) : (d.msix v).frt = d.frt := (congrArg Dev.frt (d.msix_only v)).trans rfl
@[simp] theorem Dev.msix_boot (d : Dev) (v : Nat) : (d.msix v).boot = d.boot := (congrArg Dev.boot (d.msix_only v)).trans rfl
@[simp] theorem Dev.msix_gc (d : Dev) (v : Nat) : (d.msix v).gc = d.gc := (congrArg Dev.gc (d.msix_only v)).trans rfl
@[simp] theorem Dev.msix_rae (d : Dev) (v : Nat) : (d.msix v).rae = d.rae := (congrArg Dev.rae (d.msix_only v)).trans rfl
@[simp] theorem Dev.msix_prc (d : Dev) (v : Nat) : (d.msix v).prc = d.prc := (congrArg Dev.prc (d.msix_only v)).trans rfl
@[simp] theorem Dev.msix_lpe (d : Dev) (v : Nat) : (d.msix v).lpe = d.lpe := (congrArg Dev.lpe (d.msix_only v)).trans rfl
@[simp] theorem Dev.msix_mbe (d : Dev) (v : Nat) : (d.msix v).mbe = d.mbe := (congrArg Dev.mbe (d.msix_only v)).trans rfl
@[simp] theorem Dev.msix_ikl (d : Dev) (v : Nat) : (d.msix v).ikl = d.ikl := (congrArg Dev.ikl (d.msix_only v)).trans rfl
@[simp] theorem Dev.msix_nodes (d : Dev) (v : Nat) : (d.msix v).nodes = d.nodes := (congrArg Dev.nodes (d.msix_only v)).trans rfl
@[simp] theorem Dev.msix_rdn (d : Dev) (v : Nat) : (d.msix v).rdn = d.rdn := (congrArg Dev.rdn (d.msix_only v)).trans rfl
@[simp] theorem Dev.msix_adc (d : Dev) (v : Nat) : (d.msix v).adc = d.adc := (congrArg Dev.adc (d.msix_only v)).trans rfl
@[simp] theorem Dev.msix_svi (d : Dev) (v : Nat) : (d.msix v).svi = d.svi := (congrArg Dev.svi (d.msix_only v)).trans rfl
@[simp] theorem Dev.msix_mcd (d : Dev) (v : Nat) : (d.msix v).mcd = d.mcd := (congrArg Dev.mcd (d.msix_only v)).trans rfl
@[simp] theorem Dev.msix_clk (d : Dev) (v : Nat) : (d.msix v).clk = d.clk := (congrArg Dev.clk (d.msix_only v)).trans rfl
@[simp] theorem Dev.msix_tmb (d : Dev) (v : Nat) : (d.msix v).tmb = d.tmb := (congrArg Dev.tmb (d.msix_only v)).trans rfl
@[simp] theorem Dev.msix_ptp (d : Dev) (v : Nat) : (d.msix v).ptp = d.ptp := (congrArg Dev.ptp (d.msix_only v)).trans rfl
@[simp] theorem Dev.msix_ddp (d : Dev) (v : Nat) : (d.msix v).ddp = d.ddp := (congrArg Dev.ddp (d.msix_only v)).trans rfl
@[simp] theorem Dev.msix_recd (d : Dev) (v : Nat) : (d.msix v).recd = d.recd := (congrArg Dev.recd (d.msix_only v)).trans rfl
@[simp] theorem Dev.msix_apu (d : Dev) (v : Nat) : (d.msix v).apu = d.apu := (congrArg Dev.apu (d.msix_only v)).trans rfl
@[simp] theorem Dev.msix_vlt (d : Dev) (v : Nat) : (d.msix v).vlt = d.vlt := (congrArg Dev.vlt (d.msix_only v)).trans rfl
@[simp] theorem Dev.msix_jobs (d : Dev) (v : Nat) : (d.msix v).jobs = d.jobs := (congrArg Dev.jobs (d.msix_only v)).trans rfl
@[simp] theorem Dev.msix_pwr (d : Dev) (v : Nat) : (d.msix v).pwr = d.pwr := (congrArg Dev.pwr (d.msix_only v)).trans rfl
@[simp] theorem Dev.msix_thm (d : Dev) (v : Nat) : (d.msix v).thm = d.thm := (congrArg Dev.thm (d.msix_only v)).trans rfl
@[simp] theorem Dev.msix_rsv (d : Dev) (v : Nat) : (d.msix v).rsv = d.rsv := (congrArg Dev.rsv (d.msix_only v)).trans rfl
@[simp] theorem Dev.msix_pins (d : Dev) (v : Nat) : (d.msix v).pins = d.pins := (congrArg Dev.pins (d.msix_only v)).trans rfl
@[simp] theorem Dev.msix_free (d : Dev) (v : Nat) : (d.msix v).free = d.free := (congrArg Dev.free (d.msix_only v)).trans rfl
@[simp] theorem Dev.signal_active (d : Dev) (q : Nat) : (d.signal q).active = d.active := (congrArg Dev.active (d.signal_only q)).trans rfl
@[simp] theorem Dev.signal_staging (d : Dev) (q : Nat) : (d.signal q).staging = d.staging := (congrArg Dev.staging (d.signal_only q)).trans rfl
@[simp] theorem Dev.signal_rw (d : Dev) (q : Nat) : (d.signal q).rw = d.rw := (congrArg Dev.rw (d.signal_only q)).trans rfl
@[simp] theorem Dev.signal_sticky (d : Dev) (q : Nat) : (d.signal q).sticky = d.sticky := (congrArg Dev.sticky (d.signal_only q)).trans rfl
@[simp] theorem Dev.signal_clears (d : Dev) (q : Nat) : (d.signal q).clears = d.clears := (congrArg Dev.clears (d.signal_only q)).trans rfl
@[simp] theorem Dev.signal_sys (d : Dev) (q : Nat) : (d.signal q).sys = d.sys := (congrArg Dev.sys (d.signal_only q)).trans rfl
@[simp] theorem Dev.signal_frt (d : Dev) (q : Nat) : (d.signal q).frt = d.frt := (congrArg Dev.frt (d.signal_only q)).trans rfl
@[simp] theorem Dev.signal_boot (d : Dev) (q : Nat) : (d.signal q).boot = d.boot := (congrArg Dev.boot (d.signal_only q)).trans rfl
@[simp] theorem Dev.signal_gc (d : Dev) (q : Nat) : (d.signal q).gc = d.gc := (congrArg Dev.gc (d.signal_only q)).trans rfl
@[simp] theorem Dev.signal_rae (d : Dev) (q : Nat) : (d.signal q).rae = d.rae := (congrArg Dev.rae (d.signal_only q)).trans rfl
@[simp] theorem Dev.signal_prc (d : Dev) (q : Nat) : (d.signal q).prc = d.prc := (congrArg Dev.prc (d.signal_only q)).trans rfl
@[simp] theorem Dev.signal_lpe (d : Dev) (q : Nat) : (d.signal q).lpe = d.lpe := (congrArg Dev.lpe (d.signal_only q)).trans rfl
@[simp] theorem Dev.signal_mbe (d : Dev) (q : Nat) : (d.signal q).mbe = d.mbe := (congrArg Dev.mbe (d.signal_only q)).trans rfl
@[simp] theorem Dev.signal_ikl (d : Dev) (q : Nat) : (d.signal q).ikl = d.ikl := (congrArg Dev.ikl (d.signal_only q)).trans rfl
@[simp] theorem Dev.signal_nodes (d : Dev) (q : Nat) : (d.signal q).nodes = d.nodes := (congrArg Dev.nodes (d.signal_only q)).trans rfl
@[simp] theorem Dev.signal_rdn (d : Dev) (q : Nat) : (d.signal q).rdn = d.rdn := (congrArg Dev.rdn (d.signal_only q)).trans rfl
@[simp] theorem Dev.signal_adc (d : Dev) (q : Nat) : (d.signal q).adc = d.adc := (congrArg Dev.adc (d.signal_only q)).trans rfl
@[simp] theorem Dev.signal_svi (d : Dev) (q : Nat) : (d.signal q).svi = d.svi := (congrArg Dev.svi (d.signal_only q)).trans rfl
@[simp] theorem Dev.signal_mcd (d : Dev) (q : Nat) : (d.signal q).mcd = d.mcd := (congrArg Dev.mcd (d.signal_only q)).trans rfl
@[simp] theorem Dev.signal_clk (d : Dev) (q : Nat) : (d.signal q).clk = d.clk := (congrArg Dev.clk (d.signal_only q)).trans rfl
@[simp] theorem Dev.signal_tmb (d : Dev) (q : Nat) : (d.signal q).tmb = d.tmb := (congrArg Dev.tmb (d.signal_only q)).trans rfl
@[simp] theorem Dev.signal_ptp (d : Dev) (q : Nat) : (d.signal q).ptp = d.ptp := (congrArg Dev.ptp (d.signal_only q)).trans rfl
@[simp] theorem Dev.signal_ddp (d : Dev) (q : Nat) : (d.signal q).ddp = d.ddp := (congrArg Dev.ddp (d.signal_only q)).trans rfl
@[simp] theorem Dev.signal_recd (d : Dev) (q : Nat) : (d.signal q).recd = d.recd := (congrArg Dev.recd (d.signal_only q)).trans rfl
@[simp] theorem Dev.signal_apu (d : Dev) (q : Nat) : (d.signal q).apu = d.apu := (congrArg Dev.apu (d.signal_only q)).trans rfl
@[simp] theorem Dev.signal_vlt (d : Dev) (q : Nat) : (d.signal q).vlt = d.vlt := (congrArg Dev.vlt (d.signal_only q)).trans rfl
@[simp] theorem Dev.signal_jobs (d : Dev) (q : Nat) : (d.signal q).jobs = d.jobs := (congrArg Dev.jobs (d.signal_only q)).trans rfl
@[simp] theorem Dev.signal_pwr (d : Dev) (q : Nat) : (d.signal q).pwr = d.pwr := (congrArg Dev.pwr (d.signal_only q)).trans rfl
@[simp] theorem Dev.signal_thm (d : Dev) (q : Nat) : (d.signal q).thm = d.thm := (congrArg Dev.thm (d.signal_only q)).trans rfl
@[simp] theorem Dev.signal_rsv (d : Dev) (q : Nat) : (d.signal q).rsv = d.rsv := (congrArg Dev.rsv (d.signal_only q)).trans rfl
@[simp] theorem Dev.signal_pins (d : Dev) (q : Nat) : (d.signal q).pins = d.pins := (congrArg Dev.pins (d.signal_only q)).trans rfl
@[simp] theorem Dev.signal_free (d : Dev) (q : Nat) : (d.signal q).free = d.free := (congrArg Dev.free (d.signal_only q)).trans rfl
@[simp] theorem Dev.deliver_active (d : Dev) (q t : Nat) (r : List (List Word)) : (d.deliver q t r).active = d.active := (congrArg Dev.active (d.deliver_only q t r)).trans rfl
@[simp] theorem Dev.deliver_staging (d : Dev) (q t : Nat) (r : List (List Word)) : (d.deliver q t r).staging = d.staging := (congrArg Dev.staging (d.deliver_only q t r)).trans rfl
@[simp] theorem Dev.deliver_rw (d : Dev) (q t : Nat) (r : List (List Word)) : (d.deliver q t r).rw = d.rw := (congrArg Dev.rw (d.deliver_only q t r)).trans rfl
@[simp] theorem Dev.deliver_sticky (d : Dev) (q t : Nat) (r : List (List Word)) : (d.deliver q t r).sticky = d.sticky := (congrArg Dev.sticky (d.deliver_only q t r)).trans rfl
@[simp] theorem Dev.deliver_clears (d : Dev) (q t : Nat) (r : List (List Word)) : (d.deliver q t r).clears = d.clears := (congrArg Dev.clears (d.deliver_only q t r)).trans rfl
@[simp] theorem Dev.deliver_sys (d : Dev) (q t : Nat) (r : List (List Word)) : (d.deliver q t r).sys = d.sys := (congrArg Dev.sys (d.deliver_only q t r)).trans rfl
@[simp] theorem Dev.deliver_frt (d : Dev) (q t : Nat) (r : List (List Word)) : (d.deliver q t r).frt = d.frt := (congrArg Dev.frt (d.deliver_only q t r)).trans rfl
@[simp] theorem Dev.deliver_boot (d : Dev) (q t : Nat) (r : List (List Word)) : (d.deliver q t r).boot = d.boot := (congrArg Dev.boot (d.deliver_only q t r)).trans rfl
@[simp] theorem Dev.deliver_gc (d : Dev) (q t : Nat) (r : List (List Word)) : (d.deliver q t r).gc = d.gc := (congrArg Dev.gc (d.deliver_only q t r)).trans rfl
@[simp] theorem Dev.deliver_rae (d : Dev) (q t : Nat) (r : List (List Word)) : (d.deliver q t r).rae = d.rae := (congrArg Dev.rae (d.deliver_only q t r)).trans rfl
@[simp] theorem Dev.deliver_prc (d : Dev) (q t : Nat) (r : List (List Word)) : (d.deliver q t r).prc = d.prc := (congrArg Dev.prc (d.deliver_only q t r)).trans rfl
@[simp] theorem Dev.deliver_lpe (d : Dev) (q t : Nat) (r : List (List Word)) : (d.deliver q t r).lpe = d.lpe := (congrArg Dev.lpe (d.deliver_only q t r)).trans rfl
@[simp] theorem Dev.deliver_mbe (d : Dev) (q t : Nat) (r : List (List Word)) : (d.deliver q t r).mbe = d.mbe := (congrArg Dev.mbe (d.deliver_only q t r)).trans rfl
@[simp] theorem Dev.deliver_ikl (d : Dev) (q t : Nat) (r : List (List Word)) : (d.deliver q t r).ikl = d.ikl := (congrArg Dev.ikl (d.deliver_only q t r)).trans rfl
@[simp] theorem Dev.deliver_nodes (d : Dev) (q t : Nat) (r : List (List Word)) : (d.deliver q t r).nodes = d.nodes := (congrArg Dev.nodes (d.deliver_only q t r)).trans rfl
@[simp] theorem Dev.deliver_rdn (d : Dev) (q t : Nat) (r : List (List Word)) : (d.deliver q t r).rdn = d.rdn := (congrArg Dev.rdn (d.deliver_only q t r)).trans rfl
@[simp] theorem Dev.deliver_adc (d : Dev) (q t : Nat) (r : List (List Word)) : (d.deliver q t r).adc = d.adc := (congrArg Dev.adc (d.deliver_only q t r)).trans rfl
@[simp] theorem Dev.deliver_svi (d : Dev) (q t : Nat) (r : List (List Word)) : (d.deliver q t r).svi = d.svi := (congrArg Dev.svi (d.deliver_only q t r)).trans rfl
@[simp] theorem Dev.deliver_mcd (d : Dev) (q t : Nat) (r : List (List Word)) : (d.deliver q t r).mcd = d.mcd := (congrArg Dev.mcd (d.deliver_only q t r)).trans rfl
@[simp] theorem Dev.deliver_clk (d : Dev) (q t : Nat) (r : List (List Word)) : (d.deliver q t r).clk = d.clk := (congrArg Dev.clk (d.deliver_only q t r)).trans rfl
@[simp] theorem Dev.deliver_tmb (d : Dev) (q t : Nat) (r : List (List Word)) : (d.deliver q t r).tmb = d.tmb := (congrArg Dev.tmb (d.deliver_only q t r)).trans rfl
@[simp] theorem Dev.deliver_ptp (d : Dev) (q t : Nat) (r : List (List Word)) : (d.deliver q t r).ptp = d.ptp := (congrArg Dev.ptp (d.deliver_only q t r)).trans rfl
@[simp] theorem Dev.deliver_ddp (d : Dev) (q t : Nat) (r : List (List Word)) : (d.deliver q t r).ddp = d.ddp := (congrArg Dev.ddp (d.deliver_only q t r)).trans rfl
@[simp] theorem Dev.deliver_recd (d : Dev) (q t : Nat) (r : List (List Word)) : (d.deliver q t r).recd = d.recd := (congrArg Dev.recd (d.deliver_only q t r)).trans rfl
@[simp] theorem Dev.deliver_apu (d : Dev) (q t : Nat) (r : List (List Word)) : (d.deliver q t r).apu = d.apu := (congrArg Dev.apu (d.deliver_only q t r)).trans rfl
@[simp] theorem Dev.deliver_vlt (d : Dev) (q t : Nat) (r : List (List Word)) : (d.deliver q t r).vlt = d.vlt := (congrArg Dev.vlt (d.deliver_only q t r)).trans rfl
@[simp] theorem Dev.deliver_jobs (d : Dev) (q t : Nat) (r : List (List Word)) : (d.deliver q t r).jobs = d.jobs := (congrArg Dev.jobs (d.deliver_only q t r)).trans rfl
@[simp] theorem Dev.deliver_pwr (d : Dev) (q t : Nat) (r : List (List Word)) : (d.deliver q t r).pwr = d.pwr := (congrArg Dev.pwr (d.deliver_only q t r)).trans rfl
@[simp] theorem Dev.deliver_thm (d : Dev) (q t : Nat) (r : List (List Word)) : (d.deliver q t r).thm = d.thm := (congrArg Dev.thm (d.deliver_only q t r)).trans rfl
@[simp] theorem Dev.deliver_rsv (d : Dev) (q t : Nat) (r : List (List Word)) : (d.deliver q t r).rsv = d.rsv := (congrArg Dev.rsv (d.deliver_only q t r)).trans rfl
@[simp] theorem Dev.deliver_pins (d : Dev) (q t : Nat) (r : List (List Word)) : (d.deliver q t r).pins = d.pins := (congrArg Dev.pins (d.deliver_only q t r)).trans rfl
@[simp] theorem Dev.deliver_free (d : Dev) (q t : Nat) (r : List (List Word)) : (d.deliver q t r).free = d.free := (congrArg Dev.free (d.deliver_only q t r)).trans rfl
@[simp] theorem Dev.complete_active (d : Dev) (r : CompRef) (s x e : Nat) (w : List Word) : (d.complete r s x e w).active = d.active := (congrArg Dev.active (d.complete_only r s x e w)).trans rfl
@[simp] theorem Dev.complete_staging (d : Dev) (r : CompRef) (s x e : Nat) (w : List Word) : (d.complete r s x e w).staging = d.staging := (congrArg Dev.staging (d.complete_only r s x e w)).trans rfl
@[simp] theorem Dev.complete_rw (d : Dev) (r : CompRef) (s x e : Nat) (w : List Word) : (d.complete r s x e w).rw = d.rw := (congrArg Dev.rw (d.complete_only r s x e w)).trans rfl
@[simp] theorem Dev.complete_sticky (d : Dev) (r : CompRef) (s x e : Nat) (w : List Word) : (d.complete r s x e w).sticky = d.sticky := (congrArg Dev.sticky (d.complete_only r s x e w)).trans rfl
@[simp] theorem Dev.complete_clears (d : Dev) (r : CompRef) (s x e : Nat) (w : List Word) : (d.complete r s x e w).clears = d.clears := (congrArg Dev.clears (d.complete_only r s x e w)).trans rfl
@[simp] theorem Dev.complete_sys (d : Dev) (r : CompRef) (s x e : Nat) (w : List Word) : (d.complete r s x e w).sys = d.sys := (congrArg Dev.sys (d.complete_only r s x e w)).trans rfl
@[simp] theorem Dev.complete_frt (d : Dev) (r : CompRef) (s x e : Nat) (w : List Word) : (d.complete r s x e w).frt = d.frt := (congrArg Dev.frt (d.complete_only r s x e w)).trans rfl
@[simp] theorem Dev.complete_boot (d : Dev) (r : CompRef) (s x e : Nat) (w : List Word) : (d.complete r s x e w).boot = d.boot := (congrArg Dev.boot (d.complete_only r s x e w)).trans rfl
@[simp] theorem Dev.complete_gc (d : Dev) (r : CompRef) (s x e : Nat) (w : List Word) : (d.complete r s x e w).gc = d.gc := (congrArg Dev.gc (d.complete_only r s x e w)).trans rfl
@[simp] theorem Dev.complete_rae (d : Dev) (r : CompRef) (s x e : Nat) (w : List Word) : (d.complete r s x e w).rae = d.rae := (congrArg Dev.rae (d.complete_only r s x e w)).trans rfl
@[simp] theorem Dev.complete_prc (d : Dev) (r : CompRef) (s x e : Nat) (w : List Word) : (d.complete r s x e w).prc = d.prc := (congrArg Dev.prc (d.complete_only r s x e w)).trans rfl
@[simp] theorem Dev.complete_lpe (d : Dev) (r : CompRef) (s x e : Nat) (w : List Word) : (d.complete r s x e w).lpe = d.lpe := (congrArg Dev.lpe (d.complete_only r s x e w)).trans rfl
@[simp] theorem Dev.complete_mbe (d : Dev) (r : CompRef) (s x e : Nat) (w : List Word) : (d.complete r s x e w).mbe = d.mbe := (congrArg Dev.mbe (d.complete_only r s x e w)).trans rfl
@[simp] theorem Dev.complete_ikl (d : Dev) (r : CompRef) (s x e : Nat) (w : List Word) : (d.complete r s x e w).ikl = d.ikl := (congrArg Dev.ikl (d.complete_only r s x e w)).trans rfl
@[simp] theorem Dev.complete_nodes (d : Dev) (r : CompRef) (s x e : Nat) (w : List Word) : (d.complete r s x e w).nodes = d.nodes := (congrArg Dev.nodes (d.complete_only r s x e w)).trans rfl
@[simp] theorem Dev.complete_rdn (d : Dev) (r : CompRef) (s x e : Nat) (w : List Word) : (d.complete r s x e w).rdn = d.rdn := (congrArg Dev.rdn (d.complete_only r s x e w)).trans rfl
@[simp] theorem Dev.complete_adc (d : Dev) (r : CompRef) (s x e : Nat) (w : List Word) : (d.complete r s x e w).adc = d.adc := (congrArg Dev.adc (d.complete_only r s x e w)).trans rfl
@[simp] theorem Dev.complete_svi (d : Dev) (r : CompRef) (s x e : Nat) (w : List Word) : (d.complete r s x e w).svi = d.svi := (congrArg Dev.svi (d.complete_only r s x e w)).trans rfl
@[simp] theorem Dev.complete_mcd (d : Dev) (r : CompRef) (s x e : Nat) (w : List Word) : (d.complete r s x e w).mcd = d.mcd := (congrArg Dev.mcd (d.complete_only r s x e w)).trans rfl
@[simp] theorem Dev.complete_clk (d : Dev) (r : CompRef) (s x e : Nat) (w : List Word) : (d.complete r s x e w).clk = d.clk := (congrArg Dev.clk (d.complete_only r s x e w)).trans rfl
@[simp] theorem Dev.complete_tmb (d : Dev) (r : CompRef) (s x e : Nat) (w : List Word) : (d.complete r s x e w).tmb = d.tmb := (congrArg Dev.tmb (d.complete_only r s x e w)).trans rfl
@[simp] theorem Dev.complete_ptp (d : Dev) (r : CompRef) (s x e : Nat) (w : List Word) : (d.complete r s x e w).ptp = d.ptp := (congrArg Dev.ptp (d.complete_only r s x e w)).trans rfl
@[simp] theorem Dev.complete_ddp (d : Dev) (r : CompRef) (s x e : Nat) (w : List Word) : (d.complete r s x e w).ddp = d.ddp := (congrArg Dev.ddp (d.complete_only r s x e w)).trans rfl
@[simp] theorem Dev.complete_recd (d : Dev) (r : CompRef) (s x e : Nat) (w : List Word) : (d.complete r s x e w).recd = d.recd := (congrArg Dev.recd (d.complete_only r s x e w)).trans rfl
@[simp] theorem Dev.complete_apu (d : Dev) (r : CompRef) (s x e : Nat) (w : List Word) : (d.complete r s x e w).apu = d.apu := (congrArg Dev.apu (d.complete_only r s x e w)).trans rfl
@[simp] theorem Dev.complete_vlt (d : Dev) (r : CompRef) (s x e : Nat) (w : List Word) : (d.complete r s x e w).vlt = d.vlt := (congrArg Dev.vlt (d.complete_only r s x e w)).trans rfl
@[simp] theorem Dev.complete_jobs (d : Dev) (r : CompRef) (s x e : Nat) (w : List Word) : (d.complete r s x e w).jobs = d.jobs := (congrArg Dev.jobs (d.complete_only r s x e w)).trans rfl
@[simp] theorem Dev.complete_pwr (d : Dev) (r : CompRef) (s x e : Nat) (w : List Word) : (d.complete r s x e w).pwr = d.pwr := (congrArg Dev.pwr (d.complete_only r s x e w)).trans rfl
@[simp] theorem Dev.complete_thm (d : Dev) (r : CompRef) (s x e : Nat) (w : List Word) : (d.complete r s x e w).thm = d.thm := (congrArg Dev.thm (d.complete_only r s x e w)).trans rfl
@[simp] theorem Dev.complete_rsv (d : Dev) (r : CompRef) (s x e : Nat) (w : List Word) : (d.complete r s x e w).rsv = d.rsv := (congrArg Dev.rsv (d.complete_only r s x e w)).trans rfl
@[simp] theorem Dev.complete_pins (d : Dev) (r : CompRef) (s x e : Nat) (w : List Word) : (d.complete r s x e w).pins = d.pins := (congrArg Dev.pins (d.complete_only r s x e w)).trans rfl
@[simp] theorem Dev.complete_free (d : Dev) (r : CompRef) (s x e : Nat) (w : List Word) : (d.complete r s x e w).free = d.free := (congrArg Dev.free (d.complete_only r s x e w)).trans rfl
@[simp] theorem Dev.completeOpen_active (d : Dev) (r : CompRef) (s : Nat) : (d.completeOpen r s).active = d.active := (congrArg Dev.active (d.completeOpen_only r s)).trans rfl
@[simp] theorem Dev.completeOpen_staging (d : Dev) (r : CompRef) (s : Nat) : (d.completeOpen r s).staging = d.staging := (congrArg Dev.staging (d.completeOpen_only r s)).trans rfl
@[simp] theorem Dev.completeOpen_rw (d : Dev) (r : CompRef) (s : Nat) : (d.completeOpen r s).rw = d.rw := (congrArg Dev.rw (d.completeOpen_only r s)).trans rfl
@[simp] theorem Dev.completeOpen_sticky (d : Dev) (r : CompRef) (s : Nat) : (d.completeOpen r s).sticky = d.sticky := (congrArg Dev.sticky (d.completeOpen_only r s)).trans rfl
@[simp] theorem Dev.completeOpen_clears (d : Dev) (r : CompRef) (s : Nat) : (d.completeOpen r s).clears = d.clears := (congrArg Dev.clears (d.completeOpen_only r s)).trans rfl
@[simp] theorem Dev.completeOpen_sys (d : Dev) (r : CompRef) (s : Nat) : (d.completeOpen r s).sys = d.sys := (congrArg Dev.sys (d.completeOpen_only r s)).trans rfl
@[simp] theorem Dev.completeOpen_frt (d : Dev) (r : CompRef) (s : Nat) : (d.completeOpen r s).frt = d.frt := (congrArg Dev.frt (d.completeOpen_only r s)).trans rfl
@[simp] theorem Dev.completeOpen_boot (d : Dev) (r : CompRef) (s : Nat) : (d.completeOpen r s).boot = d.boot := (congrArg Dev.boot (d.completeOpen_only r s)).trans rfl
@[simp] theorem Dev.completeOpen_gc (d : Dev) (r : CompRef) (s : Nat) : (d.completeOpen r s).gc = d.gc := (congrArg Dev.gc (d.completeOpen_only r s)).trans rfl
@[simp] theorem Dev.completeOpen_rae (d : Dev) (r : CompRef) (s : Nat) : (d.completeOpen r s).rae = d.rae := (congrArg Dev.rae (d.completeOpen_only r s)).trans rfl
@[simp] theorem Dev.completeOpen_prc (d : Dev) (r : CompRef) (s : Nat) : (d.completeOpen r s).prc = d.prc := (congrArg Dev.prc (d.completeOpen_only r s)).trans rfl
@[simp] theorem Dev.completeOpen_lpe (d : Dev) (r : CompRef) (s : Nat) : (d.completeOpen r s).lpe = d.lpe := (congrArg Dev.lpe (d.completeOpen_only r s)).trans rfl
@[simp] theorem Dev.completeOpen_mbe (d : Dev) (r : CompRef) (s : Nat) : (d.completeOpen r s).mbe = d.mbe := (congrArg Dev.mbe (d.completeOpen_only r s)).trans rfl
@[simp] theorem Dev.completeOpen_ikl (d : Dev) (r : CompRef) (s : Nat) : (d.completeOpen r s).ikl = d.ikl := (congrArg Dev.ikl (d.completeOpen_only r s)).trans rfl
@[simp] theorem Dev.completeOpen_nodes (d : Dev) (r : CompRef) (s : Nat) : (d.completeOpen r s).nodes = d.nodes := (congrArg Dev.nodes (d.completeOpen_only r s)).trans rfl
@[simp] theorem Dev.completeOpen_rdn (d : Dev) (r : CompRef) (s : Nat) : (d.completeOpen r s).rdn = d.rdn := (congrArg Dev.rdn (d.completeOpen_only r s)).trans rfl
@[simp] theorem Dev.completeOpen_adc (d : Dev) (r : CompRef) (s : Nat) : (d.completeOpen r s).adc = d.adc := (congrArg Dev.adc (d.completeOpen_only r s)).trans rfl
@[simp] theorem Dev.completeOpen_svi (d : Dev) (r : CompRef) (s : Nat) : (d.completeOpen r s).svi = d.svi := (congrArg Dev.svi (d.completeOpen_only r s)).trans rfl
@[simp] theorem Dev.completeOpen_mcd (d : Dev) (r : CompRef) (s : Nat) : (d.completeOpen r s).mcd = d.mcd := (congrArg Dev.mcd (d.completeOpen_only r s)).trans rfl
@[simp] theorem Dev.completeOpen_clk (d : Dev) (r : CompRef) (s : Nat) : (d.completeOpen r s).clk = d.clk := (congrArg Dev.clk (d.completeOpen_only r s)).trans rfl
@[simp] theorem Dev.completeOpen_tmb (d : Dev) (r : CompRef) (s : Nat) : (d.completeOpen r s).tmb = d.tmb := (congrArg Dev.tmb (d.completeOpen_only r s)).trans rfl
@[simp] theorem Dev.completeOpen_ptp (d : Dev) (r : CompRef) (s : Nat) : (d.completeOpen r s).ptp = d.ptp := (congrArg Dev.ptp (d.completeOpen_only r s)).trans rfl
@[simp] theorem Dev.completeOpen_ddp (d : Dev) (r : CompRef) (s : Nat) : (d.completeOpen r s).ddp = d.ddp := (congrArg Dev.ddp (d.completeOpen_only r s)).trans rfl
@[simp] theorem Dev.completeOpen_recd (d : Dev) (r : CompRef) (s : Nat) : (d.completeOpen r s).recd = d.recd := (congrArg Dev.recd (d.completeOpen_only r s)).trans rfl
@[simp] theorem Dev.completeOpen_apu (d : Dev) (r : CompRef) (s : Nat) : (d.completeOpen r s).apu = d.apu := (congrArg Dev.apu (d.completeOpen_only r s)).trans rfl
@[simp] theorem Dev.completeOpen_vlt (d : Dev) (r : CompRef) (s : Nat) : (d.completeOpen r s).vlt = d.vlt := (congrArg Dev.vlt (d.completeOpen_only r s)).trans rfl
@[simp] theorem Dev.completeOpen_jobs (d : Dev) (r : CompRef) (s : Nat) : (d.completeOpen r s).jobs = d.jobs := (congrArg Dev.jobs (d.completeOpen_only r s)).trans rfl
@[simp] theorem Dev.completeOpen_pwr (d : Dev) (r : CompRef) (s : Nat) : (d.completeOpen r s).pwr = d.pwr := (congrArg Dev.pwr (d.completeOpen_only r s)).trans rfl
@[simp] theorem Dev.completeOpen_thm (d : Dev) (r : CompRef) (s : Nat) : (d.completeOpen r s).thm = d.thm := (congrArg Dev.thm (d.completeOpen_only r s)).trans rfl
@[simp] theorem Dev.completeOpen_rsv (d : Dev) (r : CompRef) (s : Nat) : (d.completeOpen r s).rsv = d.rsv := (congrArg Dev.rsv (d.completeOpen_only r s)).trans rfl
@[simp] theorem Dev.completeOpen_pins (d : Dev) (r : CompRef) (s : Nat) : (d.completeOpen r s).pins = d.pins := (congrArg Dev.pins (d.completeOpen_only r s)).trans rfl
@[simp] theorem Dev.sendEvent_active (d : Dev) (e : Ev) : (d.sendEvent e).active = d.active := (congrArg Dev.active (d.sendEvent_only e)).trans rfl
@[simp] theorem Dev.sendEvent_staging (d : Dev) (e : Ev) : (d.sendEvent e).staging = d.staging := (congrArg Dev.staging (d.sendEvent_only e)).trans rfl
@[simp] theorem Dev.sendEvent_rw (d : Dev) (e : Ev) : (d.sendEvent e).rw = d.rw := (congrArg Dev.rw (d.sendEvent_only e)).trans rfl
@[simp] theorem Dev.sendEvent_sticky (d : Dev) (e : Ev) : (d.sendEvent e).sticky = d.sticky := (congrArg Dev.sticky (d.sendEvent_only e)).trans rfl
@[simp] theorem Dev.sendEvent_clears (d : Dev) (e : Ev) : (d.sendEvent e).clears = d.clears := (congrArg Dev.clears (d.sendEvent_only e)).trans rfl
@[simp] theorem Dev.sendEvent_sys (d : Dev) (e : Ev) : (d.sendEvent e).sys = d.sys := (congrArg Dev.sys (d.sendEvent_only e)).trans rfl
@[simp] theorem Dev.sendEvent_frt (d : Dev) (e : Ev) : (d.sendEvent e).frt = d.frt := (congrArg Dev.frt (d.sendEvent_only e)).trans rfl
@[simp] theorem Dev.sendEvent_boot (d : Dev) (e : Ev) : (d.sendEvent e).boot = d.boot := (congrArg Dev.boot (d.sendEvent_only e)).trans rfl
@[simp] theorem Dev.sendEvent_gc (d : Dev) (e : Ev) : (d.sendEvent e).gc = d.gc := (congrArg Dev.gc (d.sendEvent_only e)).trans rfl
@[simp] theorem Dev.sendEvent_rae (d : Dev) (e : Ev) : (d.sendEvent e).rae = d.rae := (congrArg Dev.rae (d.sendEvent_only e)).trans rfl
@[simp] theorem Dev.sendEvent_prc (d : Dev) (e : Ev) : (d.sendEvent e).prc = d.prc := (congrArg Dev.prc (d.sendEvent_only e)).trans rfl
@[simp] theorem Dev.sendEvent_lpe (d : Dev) (e : Ev) : (d.sendEvent e).lpe = d.lpe := (congrArg Dev.lpe (d.sendEvent_only e)).trans rfl
@[simp] theorem Dev.sendEvent_mbe (d : Dev) (e : Ev) : (d.sendEvent e).mbe = d.mbe := (congrArg Dev.mbe (d.sendEvent_only e)).trans rfl
@[simp] theorem Dev.sendEvent_ikl (d : Dev) (e : Ev) : (d.sendEvent e).ikl = d.ikl := (congrArg Dev.ikl (d.sendEvent_only e)).trans rfl
@[simp] theorem Dev.sendEvent_nodes (d : Dev) (e : Ev) : (d.sendEvent e).nodes = d.nodes := (congrArg Dev.nodes (d.sendEvent_only e)).trans rfl
@[simp] theorem Dev.sendEvent_rdn (d : Dev) (e : Ev) : (d.sendEvent e).rdn = d.rdn := (congrArg Dev.rdn (d.sendEvent_only e)).trans rfl
@[simp] theorem Dev.sendEvent_adc (d : Dev) (e : Ev) : (d.sendEvent e).adc = d.adc := (congrArg Dev.adc (d.sendEvent_only e)).trans rfl
@[simp] theorem Dev.sendEvent_svi (d : Dev) (e : Ev) : (d.sendEvent e).svi = d.svi := (congrArg Dev.svi (d.sendEvent_only e)).trans rfl
@[simp] theorem Dev.sendEvent_mcd (d : Dev) (e : Ev) : (d.sendEvent e).mcd = d.mcd := (congrArg Dev.mcd (d.sendEvent_only e)).trans rfl
@[simp] theorem Dev.sendEvent_clk (d : Dev) (e : Ev) : (d.sendEvent e).clk = d.clk := (congrArg Dev.clk (d.sendEvent_only e)).trans rfl
@[simp] theorem Dev.sendEvent_tmb (d : Dev) (e : Ev) : (d.sendEvent e).tmb = d.tmb := (congrArg Dev.tmb (d.sendEvent_only e)).trans rfl
@[simp] theorem Dev.sendEvent_ptp (d : Dev) (e : Ev) : (d.sendEvent e).ptp = d.ptp := (congrArg Dev.ptp (d.sendEvent_only e)).trans rfl
@[simp] theorem Dev.sendEvent_ddp (d : Dev) (e : Ev) : (d.sendEvent e).ddp = d.ddp := (congrArg Dev.ddp (d.sendEvent_only e)).trans rfl
@[simp] theorem Dev.sendEvent_recd (d : Dev) (e : Ev) : (d.sendEvent e).recd = d.recd := (congrArg Dev.recd (d.sendEvent_only e)).trans rfl
@[simp] theorem Dev.sendEvent_apu (d : Dev) (e : Ev) : (d.sendEvent e).apu = d.apu := (congrArg Dev.apu (d.sendEvent_only e)).trans rfl
@[simp] theorem Dev.sendEvent_vlt (d : Dev) (e : Ev) : (d.sendEvent e).vlt = d.vlt := (congrArg Dev.vlt (d.sendEvent_only e)).trans rfl
@[simp] theorem Dev.sendEvent_jobs (d : Dev) (e : Ev) : (d.sendEvent e).jobs = d.jobs := (congrArg Dev.jobs (d.sendEvent_only e)).trans rfl
@[simp] theorem Dev.sendEvent_pwr (d : Dev) (e : Ev) : (d.sendEvent e).pwr = d.pwr := (congrArg Dev.pwr (d.sendEvent_only e)).trans rfl
@[simp] theorem Dev.sendEvent_thm (d : Dev) (e : Ev) : (d.sendEvent e).thm = d.thm := (congrArg Dev.thm (d.sendEvent_only e)).trans rfl
@[simp] theorem Dev.sendEvent_rsv (d : Dev) (e : Ev) : (d.sendEvent e).rsv = d.rsv := (congrArg Dev.rsv (d.sendEvent_only e)).trans rfl
@[simp] theorem Dev.sendEvent_pins (d : Dev) (e : Ev) : (d.sendEvent e).pins = d.pins := (congrArg Dev.pins (d.sendEvent_only e)).trans rfl
@[simp] theorem Dev.sendEvent_free (d : Dev) (e : Ev) : (d.sendEvent e).free = d.free := (congrArg Dev.free (d.sendEvent_only e)).trans rfl
@[simp] theorem Dev.fetched_active (d : Dev) (q : Nat) : (d.fetched q).active = d.active := (congrArg Dev.active (d.fetched_only q)).trans rfl
@[simp] theorem Dev.fetched_staging (d : Dev) (q : Nat) : (d.fetched q).staging = d.staging := (congrArg Dev.staging (d.fetched_only q)).trans rfl
@[simp] theorem Dev.fetched_rw (d : Dev) (q : Nat) : (d.fetched q).rw = d.rw := (congrArg Dev.rw (d.fetched_only q)).trans rfl
@[simp] theorem Dev.fetched_sticky (d : Dev) (q : Nat) : (d.fetched q).sticky = d.sticky := (congrArg Dev.sticky (d.fetched_only q)).trans rfl
@[simp] theorem Dev.fetched_clears (d : Dev) (q : Nat) : (d.fetched q).clears = d.clears := (congrArg Dev.clears (d.fetched_only q)).trans rfl
@[simp] theorem Dev.fetched_sys (d : Dev) (q : Nat) : (d.fetched q).sys = d.sys := (congrArg Dev.sys (d.fetched_only q)).trans rfl
@[simp] theorem Dev.fetched_frt (d : Dev) (q : Nat) : (d.fetched q).frt = d.frt := (congrArg Dev.frt (d.fetched_only q)).trans rfl
@[simp] theorem Dev.fetched_boot (d : Dev) (q : Nat) : (d.fetched q).boot = d.boot := (congrArg Dev.boot (d.fetched_only q)).trans rfl
@[simp] theorem Dev.fetched_gc (d : Dev) (q : Nat) : (d.fetched q).gc = d.gc := (congrArg Dev.gc (d.fetched_only q)).trans rfl
@[simp] theorem Dev.fetched_rae (d : Dev) (q : Nat) : (d.fetched q).rae = d.rae := (congrArg Dev.rae (d.fetched_only q)).trans rfl
@[simp] theorem Dev.fetched_prc (d : Dev) (q : Nat) : (d.fetched q).prc = d.prc := (congrArg Dev.prc (d.fetched_only q)).trans rfl
@[simp] theorem Dev.fetched_lpe (d : Dev) (q : Nat) : (d.fetched q).lpe = d.lpe := (congrArg Dev.lpe (d.fetched_only q)).trans rfl
@[simp] theorem Dev.fetched_mbe (d : Dev) (q : Nat) : (d.fetched q).mbe = d.mbe := (congrArg Dev.mbe (d.fetched_only q)).trans rfl
@[simp] theorem Dev.fetched_ikl (d : Dev) (q : Nat) : (d.fetched q).ikl = d.ikl := (congrArg Dev.ikl (d.fetched_only q)).trans rfl
@[simp] theorem Dev.fetched_nodes (d : Dev) (q : Nat) : (d.fetched q).nodes = d.nodes := (congrArg Dev.nodes (d.fetched_only q)).trans rfl
@[simp] theorem Dev.fetched_rdn (d : Dev) (q : Nat) : (d.fetched q).rdn = d.rdn := (congrArg Dev.rdn (d.fetched_only q)).trans rfl
@[simp] theorem Dev.fetched_adc (d : Dev) (q : Nat) : (d.fetched q).adc = d.adc := (congrArg Dev.adc (d.fetched_only q)).trans rfl
@[simp] theorem Dev.fetched_svi (d : Dev) (q : Nat) : (d.fetched q).svi = d.svi := (congrArg Dev.svi (d.fetched_only q)).trans rfl
@[simp] theorem Dev.fetched_mcd (d : Dev) (q : Nat) : (d.fetched q).mcd = d.mcd := (congrArg Dev.mcd (d.fetched_only q)).trans rfl
@[simp] theorem Dev.fetched_clk (d : Dev) (q : Nat) : (d.fetched q).clk = d.clk := (congrArg Dev.clk (d.fetched_only q)).trans rfl
@[simp] theorem Dev.fetched_tmb (d : Dev) (q : Nat) : (d.fetched q).tmb = d.tmb := (congrArg Dev.tmb (d.fetched_only q)).trans rfl
@[simp] theorem Dev.fetched_ptp (d : Dev) (q : Nat) : (d.fetched q).ptp = d.ptp := (congrArg Dev.ptp (d.fetched_only q)).trans rfl
@[simp] theorem Dev.fetched_ddp (d : Dev) (q : Nat) : (d.fetched q).ddp = d.ddp := (congrArg Dev.ddp (d.fetched_only q)).trans rfl
@[simp] theorem Dev.fetched_recd (d : Dev) (q : Nat) : (d.fetched q).recd = d.recd := (congrArg Dev.recd (d.fetched_only q)).trans rfl
@[simp] theorem Dev.fetched_apu (d : Dev) (q : Nat) : (d.fetched q).apu = d.apu := (congrArg Dev.apu (d.fetched_only q)).trans rfl
@[simp] theorem Dev.fetched_vlt (d : Dev) (q : Nat) : (d.fetched q).vlt = d.vlt := (congrArg Dev.vlt (d.fetched_only q)).trans rfl
@[simp] theorem Dev.fetched_jobs (d : Dev) (q : Nat) : (d.fetched q).jobs = d.jobs := (congrArg Dev.jobs (d.fetched_only q)).trans rfl
@[simp] theorem Dev.fetched_pwr (d : Dev) (q : Nat) : (d.fetched q).pwr = d.pwr := (congrArg Dev.pwr (d.fetched_only q)).trans rfl
@[simp] theorem Dev.fetched_thm (d : Dev) (q : Nat) : (d.fetched q).thm = d.thm := (congrArg Dev.thm (d.fetched_only q)).trans rfl
@[simp] theorem Dev.fetched_rsv (d : Dev) (q : Nat) : (d.fetched q).rsv = d.rsv := (congrArg Dev.rsv (d.fetched_only q)).trans rfl
@[simp] theorem Dev.fetched_pins (d : Dev) (q : Nat) : (d.fetched q).pins = d.pins := (congrArg Dev.pins (d.fetched_only q)).trans rfl
@[simp] theorem Dev.fetched_free (d : Dev) (q : Nat) : (d.fetched q).free = d.free := (congrArg Dev.free (d.fetched_only q)).trans rfl
@[simp] theorem Dev.queueError_active (d : Dev) (q c : Nat) : (d.queueError q c).active = d.active := (congrArg Dev.active (d.queueError_only q c)).trans rfl
@[simp] theorem Dev.queueError_staging (d : Dev) (q c : Nat) : (d.queueError q c).staging = d.staging := (congrArg Dev.staging (d.queueError_only q c)).trans rfl
@[simp] theorem Dev.queueError_rw (d : Dev) (q c : Nat) : (d.queueError q c).rw = d.rw := (congrArg Dev.rw (d.queueError_only q c)).trans rfl
@[simp] theorem Dev.queueError_sticky (d : Dev) (q c : Nat) : (d.queueError q c).sticky = d.sticky := (congrArg Dev.sticky (d.queueError_only q c)).trans rfl
@[simp] theorem Dev.queueError_clears (d : Dev) (q c : Nat) : (d.queueError q c).clears = d.clears := (congrArg Dev.clears (d.queueError_only q c)).trans rfl
@[simp] theorem Dev.queueError_sys (d : Dev) (q c : Nat) : (d.queueError q c).sys = d.sys := (congrArg Dev.sys (d.queueError_only q c)).trans rfl
@[simp] theorem Dev.queueError_frt (d : Dev) (q c : Nat) : (d.queueError q c).frt = d.frt := (congrArg Dev.frt (d.queueError_only q c)).trans rfl
@[simp] theorem Dev.queueError_boot (d : Dev) (q c : Nat) : (d.queueError q c).boot = d.boot := (congrArg Dev.boot (d.queueError_only q c)).trans rfl
@[simp] theorem Dev.queueError_gc (d : Dev) (q c : Nat) : (d.queueError q c).gc = d.gc := (congrArg Dev.gc (d.queueError_only q c)).trans rfl
@[simp] theorem Dev.queueError_rae (d : Dev) (q c : Nat) : (d.queueError q c).rae = d.rae := (congrArg Dev.rae (d.queueError_only q c)).trans rfl
@[simp] theorem Dev.queueError_prc (d : Dev) (q c : Nat) : (d.queueError q c).prc = d.prc := (congrArg Dev.prc (d.queueError_only q c)).trans rfl
@[simp] theorem Dev.queueError_lpe (d : Dev) (q c : Nat) : (d.queueError q c).lpe = d.lpe := (congrArg Dev.lpe (d.queueError_only q c)).trans rfl
@[simp] theorem Dev.queueError_mbe (d : Dev) (q c : Nat) : (d.queueError q c).mbe = d.mbe := (congrArg Dev.mbe (d.queueError_only q c)).trans rfl
@[simp] theorem Dev.queueError_ikl (d : Dev) (q c : Nat) : (d.queueError q c).ikl = d.ikl := (congrArg Dev.ikl (d.queueError_only q c)).trans rfl
@[simp] theorem Dev.queueError_nodes (d : Dev) (q c : Nat) : (d.queueError q c).nodes = d.nodes := (congrArg Dev.nodes (d.queueError_only q c)).trans rfl
@[simp] theorem Dev.queueError_rdn (d : Dev) (q c : Nat) : (d.queueError q c).rdn = d.rdn := (congrArg Dev.rdn (d.queueError_only q c)).trans rfl
@[simp] theorem Dev.queueError_adc (d : Dev) (q c : Nat) : (d.queueError q c).adc = d.adc := (congrArg Dev.adc (d.queueError_only q c)).trans rfl
@[simp] theorem Dev.queueError_svi (d : Dev) (q c : Nat) : (d.queueError q c).svi = d.svi := (congrArg Dev.svi (d.queueError_only q c)).trans rfl
@[simp] theorem Dev.queueError_mcd (d : Dev) (q c : Nat) : (d.queueError q c).mcd = d.mcd := (congrArg Dev.mcd (d.queueError_only q c)).trans rfl
@[simp] theorem Dev.queueError_clk (d : Dev) (q c : Nat) : (d.queueError q c).clk = d.clk := (congrArg Dev.clk (d.queueError_only q c)).trans rfl
@[simp] theorem Dev.queueError_tmb (d : Dev) (q c : Nat) : (d.queueError q c).tmb = d.tmb := (congrArg Dev.tmb (d.queueError_only q c)).trans rfl
@[simp] theorem Dev.queueError_ptp (d : Dev) (q c : Nat) : (d.queueError q c).ptp = d.ptp := (congrArg Dev.ptp (d.queueError_only q c)).trans rfl
@[simp] theorem Dev.queueError_ddp (d : Dev) (q c : Nat) : (d.queueError q c).ddp = d.ddp := (congrArg Dev.ddp (d.queueError_only q c)).trans rfl
@[simp] theorem Dev.queueError_recd (d : Dev) (q c : Nat) : (d.queueError q c).recd = d.recd := (congrArg Dev.recd (d.queueError_only q c)).trans rfl
@[simp] theorem Dev.queueError_apu (d : Dev) (q c : Nat) : (d.queueError q c).apu = d.apu := (congrArg Dev.apu (d.queueError_only q c)).trans rfl
@[simp] theorem Dev.queueError_vlt (d : Dev) (q c : Nat) : (d.queueError q c).vlt = d.vlt := (congrArg Dev.vlt (d.queueError_only q c)).trans rfl
@[simp] theorem Dev.queueError_jobs (d : Dev) (q c : Nat) : (d.queueError q c).jobs = d.jobs := (congrArg Dev.jobs (d.queueError_only q c)).trans rfl
@[simp] theorem Dev.queueError_pwr (d : Dev) (q c : Nat) : (d.queueError q c).pwr = d.pwr := (congrArg Dev.pwr (d.queueError_only q c)).trans rfl
@[simp] theorem Dev.queueError_thm (d : Dev) (q c : Nat) : (d.queueError q c).thm = d.thm := (congrArg Dev.thm (d.queueError_only q c)).trans rfl
@[simp] theorem Dev.queueError_rsv (d : Dev) (q c : Nat) : (d.queueError q c).rsv = d.rsv := (congrArg Dev.rsv (d.queueError_only q c)).trans rfl
@[simp] theorem Dev.queueError_pins (d : Dev) (q c : Nat) : (d.queueError q c).pins = d.pins := (congrArg Dev.pins (d.queueError_only q c)).trans rfl
@[simp] theorem Dev.queueError_free (d : Dev) (q c : Nat) : (d.queueError q c).free = d.free := (congrArg Dev.free (d.queueError_only q c)).trans rfl
@[simp] theorem Dev.trigger_active (d : Dev) (b c s e : Nat) : (d.trigger b c s e).active = d.active := (congrArg Dev.active (d.trigger_only b c s e)).trans rfl
@[simp] theorem Dev.trigger_staging (d : Dev) (b c s e : Nat) : (d.trigger b c s e).staging = d.staging := (congrArg Dev.staging (d.trigger_only b c s e)).trans rfl
@[simp] theorem Dev.trigger_rw (d : Dev) (b c s e : Nat) : (d.trigger b c s e).rw = d.rw := (congrArg Dev.rw (d.trigger_only b c s e)).trans rfl
@[simp] theorem Dev.trigger_sticky (d : Dev) (b c s e : Nat) : (d.trigger b c s e).sticky = d.sticky := (congrArg Dev.sticky (d.trigger_only b c s e)).trans rfl
@[simp] theorem Dev.trigger_clears (d : Dev) (b c s e : Nat) : (d.trigger b c s e).clears = d.clears := (congrArg Dev.clears (d.trigger_only b c s e)).trans rfl
@[simp] theorem Dev.trigger_frt (d : Dev) (b c s e : Nat) : (d.trigger b c s e).frt = d.frt := (congrArg Dev.frt (d.trigger_only b c s e)).trans rfl
@[simp] theorem Dev.trigger_boot (d : Dev) (b c s e : Nat) : (d.trigger b c s e).boot = d.boot := (congrArg Dev.boot (d.trigger_only b c s e)).trans rfl
@[simp] theorem Dev.trigger_gc (d : Dev) (b c s e : Nat) : (d.trigger b c s e).gc = d.gc := (congrArg Dev.gc (d.trigger_only b c s e)).trans rfl
@[simp] theorem Dev.trigger_rae (d : Dev) (b c s e : Nat) : (d.trigger b c s e).rae = d.rae := (congrArg Dev.rae (d.trigger_only b c s e)).trans rfl
@[simp] theorem Dev.trigger_prc (d : Dev) (b c s e : Nat) : (d.trigger b c s e).prc = d.prc := (congrArg Dev.prc (d.trigger_only b c s e)).trans rfl
@[simp] theorem Dev.trigger_lpe (d : Dev) (b c s e : Nat) : (d.trigger b c s e).lpe = d.lpe := (congrArg Dev.lpe (d.trigger_only b c s e)).trans rfl
@[simp] theorem Dev.trigger_mbe (d : Dev) (b c s e : Nat) : (d.trigger b c s e).mbe = d.mbe := (congrArg Dev.mbe (d.trigger_only b c s e)).trans rfl
@[simp] theorem Dev.trigger_ikl (d : Dev) (b c s e : Nat) : (d.trigger b c s e).ikl = d.ikl := (congrArg Dev.ikl (d.trigger_only b c s e)).trans rfl
@[simp] theorem Dev.trigger_nodes (d : Dev) (b c s e : Nat) : (d.trigger b c s e).nodes = d.nodes := (congrArg Dev.nodes (d.trigger_only b c s e)).trans rfl
@[simp] theorem Dev.trigger_rdn (d : Dev) (b c s e : Nat) : (d.trigger b c s e).rdn = d.rdn := (congrArg Dev.rdn (d.trigger_only b c s e)).trans rfl
@[simp] theorem Dev.trigger_adc (d : Dev) (b c s e : Nat) : (d.trigger b c s e).adc = d.adc := (congrArg Dev.adc (d.trigger_only b c s e)).trans rfl
@[simp] theorem Dev.trigger_svi (d : Dev) (b c s e : Nat) : (d.trigger b c s e).svi = d.svi := (congrArg Dev.svi (d.trigger_only b c s e)).trans rfl
@[simp] theorem Dev.trigger_mcd (d : Dev) (b c s e : Nat) : (d.trigger b c s e).mcd = d.mcd := (congrArg Dev.mcd (d.trigger_only b c s e)).trans rfl
@[simp] theorem Dev.trigger_clk (d : Dev) (b c s e : Nat) : (d.trigger b c s e).clk = d.clk := (congrArg Dev.clk (d.trigger_only b c s e)).trans rfl
@[simp] theorem Dev.trigger_tmb (d : Dev) (b c s e : Nat) : (d.trigger b c s e).tmb = d.tmb := (congrArg Dev.tmb (d.trigger_only b c s e)).trans rfl
@[simp] theorem Dev.trigger_ptp (d : Dev) (b c s e : Nat) : (d.trigger b c s e).ptp = d.ptp := (congrArg Dev.ptp (d.trigger_only b c s e)).trans rfl
@[simp] theorem Dev.trigger_ddp (d : Dev) (b c s e : Nat) : (d.trigger b c s e).ddp = d.ddp := (congrArg Dev.ddp (d.trigger_only b c s e)).trans rfl
@[simp] theorem Dev.trigger_pci (d : Dev) (b c s e : Nat) : (d.trigger b c s e).pci = d.pci := (congrArg Dev.pci (d.trigger_only b c s e)).trans rfl
@[simp] theorem Dev.trigger_apu (d : Dev) (b c s e : Nat) : (d.trigger b c s e).apu = d.apu := (congrArg Dev.apu (d.trigger_only b c s e)).trans rfl
@[simp] theorem Dev.trigger_vlt (d : Dev) (b c s e : Nat) : (d.trigger b c s e).vlt = d.vlt := (congrArg Dev.vlt (d.trigger_only b c s e)).trans rfl
@[simp] theorem Dev.trigger_jobs (d : Dev) (b c s e : Nat) : (d.trigger b c s e).jobs = d.jobs := (congrArg Dev.jobs (d.trigger_only b c s e)).trans rfl
@[simp] theorem Dev.trigger_pwr (d : Dev) (b c s e : Nat) : (d.trigger b c s e).pwr = d.pwr := (congrArg Dev.pwr (d.trigger_only b c s e)).trans rfl
@[simp] theorem Dev.trigger_thm (d : Dev) (b c s e : Nat) : (d.trigger b c s e).thm = d.thm := (congrArg Dev.thm (d.trigger_only b c s e)).trans rfl
@[simp] theorem Dev.trigger_rsv (d : Dev) (b c s e : Nat) : (d.trigger b c s e).rsv = d.rsv := (congrArg Dev.rsv (d.trigger_only b c s e)).trans rfl
@[simp] theorem Dev.trigger_pins (d : Dev) (b c s e : Nat) : (d.trigger b c s e).pins = d.pins := (congrArg Dev.pins (d.trigger_only b c s e)).trans rfl
@[simp] theorem Dev.trigger_free (d : Dev) (b c s e : Nat) : (d.trigger b c s e).free = d.free := (congrArg Dev.free (d.trigger_only b c s e)).trans rfl
@[simp] theorem Dev.raiseT_active (d : Dev) (b c s i r m : Nat) (w : List Word) : (d.raiseT b c s i r m w).active = d.active := (congrArg Dev.active (d.raiseT_only b c s i r m w)).trans rfl
@[simp] theorem Dev.raiseT_staging (d : Dev) (b c s i r m : Nat) (w : List Word) : (d.raiseT b c s i r m w).staging = d.staging := (congrArg Dev.staging (d.raiseT_only b c s i r m w)).trans rfl
@[simp] theorem Dev.raiseT_rw (d : Dev) (b c s i r m : Nat) (w : List Word) : (d.raiseT b c s i r m w).rw = d.rw := (congrArg Dev.rw (d.raiseT_only b c s i r m w)).trans rfl
@[simp] theorem Dev.raiseT_sticky (d : Dev) (b c s i r m : Nat) (w : List Word) : (d.raiseT b c s i r m w).sticky = d.sticky := (congrArg Dev.sticky (d.raiseT_only b c s i r m w)).trans rfl
@[simp] theorem Dev.raiseT_clears (d : Dev) (b c s i r m : Nat) (w : List Word) : (d.raiseT b c s i r m w).clears = d.clears := (congrArg Dev.clears (d.raiseT_only b c s i r m w)).trans rfl
@[simp] theorem Dev.raiseT_sys (d : Dev) (b c s i r m : Nat) (w : List Word) : (d.raiseT b c s i r m w).sys = d.sys := (congrArg Dev.sys (d.raiseT_only b c s i r m w)).trans rfl
@[simp] theorem Dev.raiseT_frt (d : Dev) (b c s i r m : Nat) (w : List Word) : (d.raiseT b c s i r m w).frt = d.frt := (congrArg Dev.frt (d.raiseT_only b c s i r m w)).trans rfl
@[simp] theorem Dev.raiseT_boot (d : Dev) (b c s i r m : Nat) (w : List Word) : (d.raiseT b c s i r m w).boot = d.boot := (congrArg Dev.boot (d.raiseT_only b c s i r m w)).trans rfl
@[simp] theorem Dev.raiseT_gc (d : Dev) (b c s i r m : Nat) (w : List Word) : (d.raiseT b c s i r m w).gc = d.gc := (congrArg Dev.gc (d.raiseT_only b c s i r m w)).trans rfl
@[simp] theorem Dev.raiseT_rae (d : Dev) (b c s i r m : Nat) (w : List Word) : (d.raiseT b c s i r m w).rae = d.rae := (congrArg Dev.rae (d.raiseT_only b c s i r m w)).trans rfl
@[simp] theorem Dev.raiseT_prc (d : Dev) (b c s i r m : Nat) (w : List Word) : (d.raiseT b c s i r m w).prc = d.prc := (congrArg Dev.prc (d.raiseT_only b c s i r m w)).trans rfl
@[simp] theorem Dev.raiseT_lpe (d : Dev) (b c s i r m : Nat) (w : List Word) : (d.raiseT b c s i r m w).lpe = d.lpe := (congrArg Dev.lpe (d.raiseT_only b c s i r m w)).trans rfl
@[simp] theorem Dev.raiseT_mbe (d : Dev) (b c s i r m : Nat) (w : List Word) : (d.raiseT b c s i r m w).mbe = d.mbe := (congrArg Dev.mbe (d.raiseT_only b c s i r m w)).trans rfl
@[simp] theorem Dev.raiseT_ikl (d : Dev) (b c s i r m : Nat) (w : List Word) : (d.raiseT b c s i r m w).ikl = d.ikl := (congrArg Dev.ikl (d.raiseT_only b c s i r m w)).trans rfl
@[simp] theorem Dev.raiseT_nodes (d : Dev) (b c s i r m : Nat) (w : List Word) : (d.raiseT b c s i r m w).nodes = d.nodes := (congrArg Dev.nodes (d.raiseT_only b c s i r m w)).trans rfl
@[simp] theorem Dev.raiseT_rdn (d : Dev) (b c s i r m : Nat) (w : List Word) : (d.raiseT b c s i r m w).rdn = d.rdn := (congrArg Dev.rdn (d.raiseT_only b c s i r m w)).trans rfl
@[simp] theorem Dev.raiseT_adc (d : Dev) (b c s i r m : Nat) (w : List Word) : (d.raiseT b c s i r m w).adc = d.adc := (congrArg Dev.adc (d.raiseT_only b c s i r m w)).trans rfl
@[simp] theorem Dev.raiseT_svi (d : Dev) (b c s i r m : Nat) (w : List Word) : (d.raiseT b c s i r m w).svi = d.svi := (congrArg Dev.svi (d.raiseT_only b c s i r m w)).trans rfl
@[simp] theorem Dev.raiseT_mcd (d : Dev) (b c s i r m : Nat) (w : List Word) : (d.raiseT b c s i r m w).mcd = d.mcd := (congrArg Dev.mcd (d.raiseT_only b c s i r m w)).trans rfl
@[simp] theorem Dev.raiseT_clk (d : Dev) (b c s i r m : Nat) (w : List Word) : (d.raiseT b c s i r m w).clk = d.clk := (congrArg Dev.clk (d.raiseT_only b c s i r m w)).trans rfl
@[simp] theorem Dev.raiseT_tmb (d : Dev) (b c s i r m : Nat) (w : List Word) : (d.raiseT b c s i r m w).tmb = d.tmb := (congrArg Dev.tmb (d.raiseT_only b c s i r m w)).trans rfl
@[simp] theorem Dev.raiseT_ptp (d : Dev) (b c s i r m : Nat) (w : List Word) : (d.raiseT b c s i r m w).ptp = d.ptp := (congrArg Dev.ptp (d.raiseT_only b c s i r m w)).trans rfl
@[simp] theorem Dev.raiseT_ddp (d : Dev) (b c s i r m : Nat) (w : List Word) : (d.raiseT b c s i r m w).ddp = d.ddp := (congrArg Dev.ddp (d.raiseT_only b c s i r m w)).trans rfl
@[simp] theorem Dev.raiseT_apu (d : Dev) (b c s i r m : Nat) (w : List Word) : (d.raiseT b c s i r m w).apu = d.apu := (congrArg Dev.apu (d.raiseT_only b c s i r m w)).trans rfl
@[simp] theorem Dev.raiseT_vlt (d : Dev) (b c s i r m : Nat) (w : List Word) : (d.raiseT b c s i r m w).vlt = d.vlt := (congrArg Dev.vlt (d.raiseT_only b c s i r m w)).trans rfl
@[simp] theorem Dev.raiseT_jobs (d : Dev) (b c s i r m : Nat) (w : List Word) : (d.raiseT b c s i r m w).jobs = d.jobs := (congrArg Dev.jobs (d.raiseT_only b c s i r m w)).trans rfl
@[simp] theorem Dev.raiseT_pwr (d : Dev) (b c s i r m : Nat) (w : List Word) : (d.raiseT b c s i r m w).pwr = d.pwr := (congrArg Dev.pwr (d.raiseT_only b c s i r m w)).trans rfl
@[simp] theorem Dev.raiseT_thm (d : Dev) (b c s i r m : Nat) (w : List Word) : (d.raiseT b c s i r m w).thm = d.thm := (congrArg Dev.thm (d.raiseT_only b c s i r m w)).trans rfl
@[simp] theorem Dev.raiseT_rsv (d : Dev) (b c s i r m : Nat) (w : List Word) : (d.raiseT b c s i r m w).rsv = d.rsv := (congrArg Dev.rsv (d.raiseT_only b c s i r m w)).trans rfl
@[simp] theorem Dev.raiseT_pins (d : Dev) (b c s i r m : Nat) (w : List Word) : (d.raiseT b c s i r m w).pins = d.pins := (congrArg Dev.pins (d.raiseT_only b c s i r m w)).trans rfl
@[simp] theorem Dev.raiseT_free (d : Dev) (b c s i r m : Nat) (w : List Word) : (d.raiseT b c s i r m w).free = d.free := (congrArg Dev.free (d.raiseT_only b c s i r m w)).trans rfl
@[simp] theorem Dev.accessFault_active (d : Dev) (s : Option Nat) (k o : Nat) (w : Bool) : (d.accessFault s k o w).active = d.active := (congrArg Dev.active (d.accessFault_only s k o w)).trans rfl
@[simp] theorem Dev.accessFault_staging (d : Dev) (s : Option Nat) (k o : Nat) (w : Bool) : (d.accessFault s k o w).staging = d.staging := (congrArg Dev.staging (d.accessFault_only s k o w)).trans rfl
@[simp] theorem Dev.accessFault_rw (d : Dev) (s : Option Nat) (k o : Nat) (w : Bool) : (d.accessFault s k o w).rw = d.rw := (congrArg Dev.rw (d.accessFault_only s k o w)).trans rfl
@[simp] theorem Dev.accessFault_sticky (d : Dev) (s : Option Nat) (k o : Nat) (w : Bool) : (d.accessFault s k o w).sticky = d.sticky := (congrArg Dev.sticky (d.accessFault_only s k o w)).trans rfl
@[simp] theorem Dev.accessFault_clears (d : Dev) (s : Option Nat) (k o : Nat) (w : Bool) : (d.accessFault s k o w).clears = d.clears := (congrArg Dev.clears (d.accessFault_only s k o w)).trans rfl
@[simp] theorem Dev.accessFault_sys (d : Dev) (s : Option Nat) (k o : Nat) (w : Bool) : (d.accessFault s k o w).sys = d.sys := (congrArg Dev.sys (d.accessFault_only s k o w)).trans rfl
@[simp] theorem Dev.accessFault_frt (d : Dev) (s : Option Nat) (k o : Nat) (w : Bool) : (d.accessFault s k o w).frt = d.frt := (congrArg Dev.frt (d.accessFault_only s k o w)).trans rfl
@[simp] theorem Dev.accessFault_boot (d : Dev) (s : Option Nat) (k o : Nat) (w : Bool) : (d.accessFault s k o w).boot = d.boot := (congrArg Dev.boot (d.accessFault_only s k o w)).trans rfl
@[simp] theorem Dev.accessFault_gc (d : Dev) (s : Option Nat) (k o : Nat) (w : Bool) : (d.accessFault s k o w).gc = d.gc := (congrArg Dev.gc (d.accessFault_only s k o w)).trans rfl
@[simp] theorem Dev.accessFault_rae (d : Dev) (s : Option Nat) (k o : Nat) (w : Bool) : (d.accessFault s k o w).rae = d.rae := (congrArg Dev.rae (d.accessFault_only s k o w)).trans rfl
@[simp] theorem Dev.accessFault_prc (d : Dev) (s : Option Nat) (k o : Nat) (w : Bool) : (d.accessFault s k o w).prc = d.prc := (congrArg Dev.prc (d.accessFault_only s k o w)).trans rfl
@[simp] theorem Dev.accessFault_lpe (d : Dev) (s : Option Nat) (k o : Nat) (w : Bool) : (d.accessFault s k o w).lpe = d.lpe := (congrArg Dev.lpe (d.accessFault_only s k o w)).trans rfl
@[simp] theorem Dev.accessFault_mbe (d : Dev) (s : Option Nat) (k o : Nat) (w : Bool) : (d.accessFault s k o w).mbe = d.mbe := (congrArg Dev.mbe (d.accessFault_only s k o w)).trans rfl
@[simp] theorem Dev.accessFault_ikl (d : Dev) (s : Option Nat) (k o : Nat) (w : Bool) : (d.accessFault s k o w).ikl = d.ikl := (congrArg Dev.ikl (d.accessFault_only s k o w)).trans rfl
@[simp] theorem Dev.accessFault_nodes (d : Dev) (s : Option Nat) (k o : Nat) (w : Bool) : (d.accessFault s k o w).nodes = d.nodes := (congrArg Dev.nodes (d.accessFault_only s k o w)).trans rfl
@[simp] theorem Dev.accessFault_rdn (d : Dev) (s : Option Nat) (k o : Nat) (w : Bool) : (d.accessFault s k o w).rdn = d.rdn := (congrArg Dev.rdn (d.accessFault_only s k o w)).trans rfl
@[simp] theorem Dev.accessFault_adc (d : Dev) (s : Option Nat) (k o : Nat) (w : Bool) : (d.accessFault s k o w).adc = d.adc := (congrArg Dev.adc (d.accessFault_only s k o w)).trans rfl
@[simp] theorem Dev.accessFault_svi (d : Dev) (s : Option Nat) (k o : Nat) (w : Bool) : (d.accessFault s k o w).svi = d.svi := (congrArg Dev.svi (d.accessFault_only s k o w)).trans rfl
@[simp] theorem Dev.accessFault_mcd (d : Dev) (s : Option Nat) (k o : Nat) (w : Bool) : (d.accessFault s k o w).mcd = d.mcd := (congrArg Dev.mcd (d.accessFault_only s k o w)).trans rfl
@[simp] theorem Dev.accessFault_clk (d : Dev) (s : Option Nat) (k o : Nat) (w : Bool) : (d.accessFault s k o w).clk = d.clk := (congrArg Dev.clk (d.accessFault_only s k o w)).trans rfl
@[simp] theorem Dev.accessFault_tmb (d : Dev) (s : Option Nat) (k o : Nat) (w : Bool) : (d.accessFault s k o w).tmb = d.tmb := (congrArg Dev.tmb (d.accessFault_only s k o w)).trans rfl
@[simp] theorem Dev.accessFault_ptp (d : Dev) (s : Option Nat) (k o : Nat) (w : Bool) : (d.accessFault s k o w).ptp = d.ptp := (congrArg Dev.ptp (d.accessFault_only s k o w)).trans rfl
@[simp] theorem Dev.accessFault_ddp (d : Dev) (s : Option Nat) (k o : Nat) (w : Bool) : (d.accessFault s k o w).ddp = d.ddp := (congrArg Dev.ddp (d.accessFault_only s k o w)).trans rfl
@[simp] theorem Dev.accessFault_recd (d : Dev) (s : Option Nat) (k o : Nat) (w : Bool) : (d.accessFault s k o w).recd = d.recd := (congrArg Dev.recd (d.accessFault_only s k o w)).trans rfl
@[simp] theorem Dev.accessFault_vlt (d : Dev) (s : Option Nat) (k o : Nat) (w : Bool) : (d.accessFault s k o w).vlt = d.vlt := (congrArg Dev.vlt (d.accessFault_only s k o w)).trans rfl
@[simp] theorem Dev.accessFault_jobs (d : Dev) (s : Option Nat) (k o : Nat) (w : Bool) : (d.accessFault s k o w).jobs = d.jobs := (congrArg Dev.jobs (d.accessFault_only s k o w)).trans rfl
@[simp] theorem Dev.accessFault_pwr (d : Dev) (s : Option Nat) (k o : Nat) (w : Bool) : (d.accessFault s k o w).pwr = d.pwr := (congrArg Dev.pwr (d.accessFault_only s k o w)).trans rfl
@[simp] theorem Dev.accessFault_thm (d : Dev) (s : Option Nat) (k o : Nat) (w : Bool) : (d.accessFault s k o w).thm = d.thm := (congrArg Dev.thm (d.accessFault_only s k o w)).trans rfl
@[simp] theorem Dev.accessFault_rsv (d : Dev) (s : Option Nat) (k o : Nat) (w : Bool) : (d.accessFault s k o w).rsv = d.rsv := (congrArg Dev.rsv (d.accessFault_only s k o w)).trans rfl
@[simp] theorem Dev.accessFault_pins (d : Dev) (s : Option Nat) (k o : Nat) (w : Bool) : (d.accessFault s k o w).pins = d.pins := (congrArg Dev.pins (d.accessFault_only s k o w)).trans rfl
@[simp] theorem Dev.accessFault_free (d : Dev) (s : Option Nat) (k o : Nat) (w : Bool) : (d.accessFault s k o w).free = d.free := (congrArg Dev.free (d.accessFault_only s k o w)).trans rfl
@[simp] theorem Dev.ddpTick_active (d : Dev) : (d.ddpTick).active = d.active := (congrArg Dev.active (d.ddpTick_cause)).trans rfl
@[simp] theorem Dev.ddpTick_staging (d : Dev) : (d.ddpTick).staging = d.staging := (congrArg Dev.staging (d.ddpTick_cause)).trans rfl
@[simp] theorem Dev.ddpTick_rw (d : Dev) : (d.ddpTick).rw = d.rw := (congrArg Dev.rw (d.ddpTick_cause)).trans rfl
@[simp] theorem Dev.ddpTick_frt (d : Dev) : (d.ddpTick).frt = d.frt := (congrArg Dev.frt (d.ddpTick_cause)).trans rfl
@[simp] theorem Dev.ddpTick_boot (d : Dev) : (d.ddpTick).boot = d.boot := (congrArg Dev.boot (d.ddpTick_cause)).trans rfl
@[simp] theorem Dev.ddpTick_gc (d : Dev) : (d.ddpTick).gc = d.gc := (congrArg Dev.gc (d.ddpTick_cause)).trans rfl
@[simp] theorem Dev.ddpTick_rae (d : Dev) : (d.ddpTick).rae = d.rae := (congrArg Dev.rae (d.ddpTick_cause)).trans rfl
@[simp] theorem Dev.ddpTick_prc (d : Dev) : (d.ddpTick).prc = d.prc := (congrArg Dev.prc (d.ddpTick_cause)).trans rfl
@[simp] theorem Dev.ddpTick_lpe (d : Dev) : (d.ddpTick).lpe = d.lpe := (congrArg Dev.lpe (d.ddpTick_cause)).trans rfl
@[simp] theorem Dev.ddpTick_mbe (d : Dev) : (d.ddpTick).mbe = d.mbe := (congrArg Dev.mbe (d.ddpTick_cause)).trans rfl
@[simp] theorem Dev.ddpTick_nodes (d : Dev) : (d.ddpTick).nodes = d.nodes := (congrArg Dev.nodes (d.ddpTick_cause)).trans rfl
@[simp] theorem Dev.ddpTick_adc (d : Dev) : (d.ddpTick).adc = d.adc := (congrArg Dev.adc (d.ddpTick_cause)).trans rfl
@[simp] theorem Dev.ddpTick_svi (d : Dev) : (d.ddpTick).svi = d.svi := (congrArg Dev.svi (d.ddpTick_cause)).trans rfl
@[simp] theorem Dev.ddpTick_mcd (d : Dev) : (d.ddpTick).mcd = d.mcd := (congrArg Dev.mcd (d.ddpTick_cause)).trans rfl
@[simp] theorem Dev.ddpTick_clk (d : Dev) : (d.ddpTick).clk = d.clk := (congrArg Dev.clk (d.ddpTick_cause)).trans rfl
@[simp] theorem Dev.ddpTick_tmb (d : Dev) : (d.ddpTick).tmb = d.tmb := (congrArg Dev.tmb (d.ddpTick_cause)).trans rfl
@[simp] theorem Dev.ddpTick_ptp (d : Dev) : (d.ddpTick).ptp = d.ptp := (congrArg Dev.ptp (d.ddpTick_cause)).trans rfl
@[simp] theorem Dev.ddpTick_apu (d : Dev) : (d.ddpTick).apu = d.apu := (congrArg Dev.apu (d.ddpTick_cause)).trans rfl
@[simp] theorem Dev.ddpTick_vlt (d : Dev) : (d.ddpTick).vlt = d.vlt := (congrArg Dev.vlt (d.ddpTick_cause)).trans rfl
@[simp] theorem Dev.ddpTick_jobs (d : Dev) : (d.ddpTick).jobs = d.jobs := (congrArg Dev.jobs (d.ddpTick_cause)).trans rfl
@[simp] theorem Dev.ddpTick_pwr (d : Dev) : (d.ddpTick).pwr = d.pwr := (congrArg Dev.pwr (d.ddpTick_cause)).trans rfl
@[simp] theorem Dev.ddpTick_thm (d : Dev) : (d.ddpTick).thm = d.thm := (congrArg Dev.thm (d.ddpTick_cause)).trans rfl
@[simp] theorem Dev.ddpTick_rsv (d : Dev) : (d.ddpTick).rsv = d.rsv := (congrArg Dev.rsv (d.ddpTick_cause)).trans rfl
@[simp] theorem Dev.ddpTick_pins (d : Dev) : (d.ddpTick).pins = d.pins := (congrArg Dev.pins (d.ddpTick_cause)).trans rfl
@[simp] theorem Dev.ddpTick_free (d : Dev) : (d.ddpTick).free = d.free := (congrArg Dev.free (d.ddpTick_cause)).trans rfl
@[simp] theorem Dev.pairTick_active (d : Dev) (n : Nat) : (d.pairTick n).active = d.active := (congrArg Dev.active (d.pairTick_cause n)).trans rfl
@[simp] theorem Dev.pairTick_staging (d : Dev) (n : Nat) : (d.pairTick n).staging = d.staging := (congrArg Dev.staging (d.pairTick_cause n)).trans rfl
@[simp] theorem Dev.pairTick_rw (d : Dev) (n : Nat) : (d.pairTick n).rw = d.rw := (congrArg Dev.rw (d.pairTick_cause n)).trans rfl
@[simp] theorem Dev.pairTick_frt (d : Dev) (n : Nat) : (d.pairTick n).frt = d.frt := (congrArg Dev.frt (d.pairTick_cause n)).trans rfl
@[simp] theorem Dev.pairTick_boot (d : Dev) (n : Nat) : (d.pairTick n).boot = d.boot := (congrArg Dev.boot (d.pairTick_cause n)).trans rfl
@[simp] theorem Dev.pairTick_gc (d : Dev) (n : Nat) : (d.pairTick n).gc = d.gc := (congrArg Dev.gc (d.pairTick_cause n)).trans rfl
@[simp] theorem Dev.pairTick_rae (d : Dev) (n : Nat) : (d.pairTick n).rae = d.rae := (congrArg Dev.rae (d.pairTick_cause n)).trans rfl
@[simp] theorem Dev.pairTick_prc (d : Dev) (n : Nat) : (d.pairTick n).prc = d.prc := (congrArg Dev.prc (d.pairTick_cause n)).trans rfl
@[simp] theorem Dev.pairTick_lpe (d : Dev) (n : Nat) : (d.pairTick n).lpe = d.lpe := (congrArg Dev.lpe (d.pairTick_cause n)).trans rfl
@[simp] theorem Dev.pairTick_mbe (d : Dev) (n : Nat) : (d.pairTick n).mbe = d.mbe := (congrArg Dev.mbe (d.pairTick_cause n)).trans rfl
@[simp] theorem Dev.pairTick_nodes (d : Dev) (n : Nat) : (d.pairTick n).nodes = d.nodes := (congrArg Dev.nodes (d.pairTick_cause n)).trans rfl
@[simp] theorem Dev.pairTick_adc (d : Dev) (n : Nat) : (d.pairTick n).adc = d.adc := (congrArg Dev.adc (d.pairTick_cause n)).trans rfl
@[simp] theorem Dev.pairTick_svi (d : Dev) (n : Nat) : (d.pairTick n).svi = d.svi := (congrArg Dev.svi (d.pairTick_cause n)).trans rfl
@[simp] theorem Dev.pairTick_mcd (d : Dev) (n : Nat) : (d.pairTick n).mcd = d.mcd := (congrArg Dev.mcd (d.pairTick_cause n)).trans rfl
@[simp] theorem Dev.pairTick_clk (d : Dev) (n : Nat) : (d.pairTick n).clk = d.clk := (congrArg Dev.clk (d.pairTick_cause n)).trans rfl
@[simp] theorem Dev.pairTick_tmb (d : Dev) (n : Nat) : (d.pairTick n).tmb = d.tmb := (congrArg Dev.tmb (d.pairTick_cause n)).trans rfl
@[simp] theorem Dev.pairTick_ptp (d : Dev) (n : Nat) : (d.pairTick n).ptp = d.ptp := (congrArg Dev.ptp (d.pairTick_cause n)).trans rfl
@[simp] theorem Dev.pairTick_apu (d : Dev) (n : Nat) : (d.pairTick n).apu = d.apu := (congrArg Dev.apu (d.pairTick_cause n)).trans rfl
@[simp] theorem Dev.pairTick_vlt (d : Dev) (n : Nat) : (d.pairTick n).vlt = d.vlt := (congrArg Dev.vlt (d.pairTick_cause n)).trans rfl
@[simp] theorem Dev.pairTick_jobs (d : Dev) (n : Nat) : (d.pairTick n).jobs = d.jobs := (congrArg Dev.jobs (d.pairTick_cause n)).trans rfl
@[simp] theorem Dev.pairTick_pwr (d : Dev) (n : Nat) : (d.pairTick n).pwr = d.pwr := (congrArg Dev.pwr (d.pairTick_cause n)).trans rfl
@[simp] theorem Dev.pairTick_thm (d : Dev) (n : Nat) : (d.pairTick n).thm = d.thm := (congrArg Dev.thm (d.pairTick_cause n)).trans rfl
@[simp] theorem Dev.pairTick_rsv (d : Dev) (n : Nat) : (d.pairTick n).rsv = d.rsv := (congrArg Dev.rsv (d.pairTick_cause n)).trans rfl
@[simp] theorem Dev.pairTick_pins (d : Dev) (n : Nat) : (d.pairTick n).pins = d.pins := (congrArg Dev.pins (d.pairTick_cause n)).trans rfl
@[simp] theorem Dev.pairTick_free (d : Dev) (n : Nat) : (d.pairTick n).free = d.free := (congrArg Dev.free (d.pairTick_cause n)).trans rfl
@[simp] theorem Dev.ddpForce_active (d : Dev) (b : Bool) : (d.ddpForce b).active = d.active := (congrArg Dev.active (d.ddpForce_cause b)).trans rfl
@[simp] theorem Dev.ddpForce_staging (d : Dev) (b : Bool) : (d.ddpForce b).staging = d.staging := (congrArg Dev.staging (d.ddpForce_cause b)).trans rfl
@[simp] theorem Dev.ddpForce_rw (d : Dev) (b : Bool) : (d.ddpForce b).rw = d.rw := (congrArg Dev.rw (d.ddpForce_cause b)).trans rfl
@[simp] theorem Dev.ddpForce_frt (d : Dev) (b : Bool) : (d.ddpForce b).frt = d.frt := (congrArg Dev.frt (d.ddpForce_cause b)).trans rfl
@[simp] theorem Dev.ddpForce_boot (d : Dev) (b : Bool) : (d.ddpForce b).boot = d.boot := (congrArg Dev.boot (d.ddpForce_cause b)).trans rfl
@[simp] theorem Dev.ddpForce_gc (d : Dev) (b : Bool) : (d.ddpForce b).gc = d.gc := (congrArg Dev.gc (d.ddpForce_cause b)).trans rfl
@[simp] theorem Dev.ddpForce_rae (d : Dev) (b : Bool) : (d.ddpForce b).rae = d.rae := (congrArg Dev.rae (d.ddpForce_cause b)).trans rfl
@[simp] theorem Dev.ddpForce_prc (d : Dev) (b : Bool) : (d.ddpForce b).prc = d.prc := (congrArg Dev.prc (d.ddpForce_cause b)).trans rfl
@[simp] theorem Dev.ddpForce_lpe (d : Dev) (b : Bool) : (d.ddpForce b).lpe = d.lpe := (congrArg Dev.lpe (d.ddpForce_cause b)).trans rfl
@[simp] theorem Dev.ddpForce_mbe (d : Dev) (b : Bool) : (d.ddpForce b).mbe = d.mbe := (congrArg Dev.mbe (d.ddpForce_cause b)).trans rfl
@[simp] theorem Dev.ddpForce_nodes (d : Dev) (b : Bool) : (d.ddpForce b).nodes = d.nodes := (congrArg Dev.nodes (d.ddpForce_cause b)).trans rfl
@[simp] theorem Dev.ddpForce_adc (d : Dev) (b : Bool) : (d.ddpForce b).adc = d.adc := (congrArg Dev.adc (d.ddpForce_cause b)).trans rfl
@[simp] theorem Dev.ddpForce_svi (d : Dev) (b : Bool) : (d.ddpForce b).svi = d.svi := (congrArg Dev.svi (d.ddpForce_cause b)).trans rfl
@[simp] theorem Dev.ddpForce_mcd (d : Dev) (b : Bool) : (d.ddpForce b).mcd = d.mcd := (congrArg Dev.mcd (d.ddpForce_cause b)).trans rfl
@[simp] theorem Dev.ddpForce_clk (d : Dev) (b : Bool) : (d.ddpForce b).clk = d.clk := (congrArg Dev.clk (d.ddpForce_cause b)).trans rfl
@[simp] theorem Dev.ddpForce_tmb (d : Dev) (b : Bool) : (d.ddpForce b).tmb = d.tmb := (congrArg Dev.tmb (d.ddpForce_cause b)).trans rfl
@[simp] theorem Dev.ddpForce_ptp (d : Dev) (b : Bool) : (d.ddpForce b).ptp = d.ptp := (congrArg Dev.ptp (d.ddpForce_cause b)).trans rfl
@[simp] theorem Dev.ddpForce_apu (d : Dev) (b : Bool) : (d.ddpForce b).apu = d.apu := (congrArg Dev.apu (d.ddpForce_cause b)).trans rfl
@[simp] theorem Dev.ddpForce_vlt (d : Dev) (b : Bool) : (d.ddpForce b).vlt = d.vlt := (congrArg Dev.vlt (d.ddpForce_cause b)).trans rfl
@[simp] theorem Dev.ddpForce_jobs (d : Dev) (b : Bool) : (d.ddpForce b).jobs = d.jobs := (congrArg Dev.jobs (d.ddpForce_cause b)).trans rfl
@[simp] theorem Dev.ddpForce_pwr (d : Dev) (b : Bool) : (d.ddpForce b).pwr = d.pwr := (congrArg Dev.pwr (d.ddpForce_cause b)).trans rfl
@[simp] theorem Dev.ddpForce_thm (d : Dev) (b : Bool) : (d.ddpForce b).thm = d.thm := (congrArg Dev.thm (d.ddpForce_cause b)).trans rfl
@[simp] theorem Dev.ddpForce_rsv (d : Dev) (b : Bool) : (d.ddpForce b).rsv = d.rsv := (congrArg Dev.rsv (d.ddpForce_cause b)).trans rfl
@[simp] theorem Dev.ddpForce_pins (d : Dev) (b : Bool) : (d.ddpForce b).pins = d.pins := (congrArg Dev.pins (d.ddpForce_cause b)).trans rfl
@[simp] theorem Dev.ddpForce_free (d : Dev) (b : Bool) : (d.ddpForce b).free = d.free := (congrArg Dev.free (d.ddpForce_cause b)).trans rfl
@[simp] theorem Dev.sendEblk_active (d : Dev) (c : Nat) : (d.sendEblk c).active = d.active := (congrArg Dev.active (d.sendEblk_cause c)).trans rfl
@[simp] theorem Dev.sendEblk_staging (d : Dev) (c : Nat) : (d.sendEblk c).staging = d.staging := (congrArg Dev.staging (d.sendEblk_cause c)).trans rfl
@[simp] theorem Dev.sendEblk_rw (d : Dev) (c : Nat) : (d.sendEblk c).rw = d.rw := (congrArg Dev.rw (d.sendEblk_cause c)).trans rfl
@[simp] theorem Dev.sendEblk_frt (d : Dev) (c : Nat) : (d.sendEblk c).frt = d.frt := (congrArg Dev.frt (d.sendEblk_cause c)).trans rfl
@[simp] theorem Dev.sendEblk_boot (d : Dev) (c : Nat) : (d.sendEblk c).boot = d.boot := (congrArg Dev.boot (d.sendEblk_cause c)).trans rfl
@[simp] theorem Dev.sendEblk_gc (d : Dev) (c : Nat) : (d.sendEblk c).gc = d.gc := (congrArg Dev.gc (d.sendEblk_cause c)).trans rfl
@[simp] theorem Dev.sendEblk_rae (d : Dev) (c : Nat) : (d.sendEblk c).rae = d.rae := (congrArg Dev.rae (d.sendEblk_cause c)).trans rfl
@[simp] theorem Dev.sendEblk_prc (d : Dev) (c : Nat) : (d.sendEblk c).prc = d.prc := (congrArg Dev.prc (d.sendEblk_cause c)).trans rfl
@[simp] theorem Dev.sendEblk_lpe (d : Dev) (c : Nat) : (d.sendEblk c).lpe = d.lpe := (congrArg Dev.lpe (d.sendEblk_cause c)).trans rfl
@[simp] theorem Dev.sendEblk_mbe (d : Dev) (c : Nat) : (d.sendEblk c).mbe = d.mbe := (congrArg Dev.mbe (d.sendEblk_cause c)).trans rfl
@[simp] theorem Dev.sendEblk_nodes (d : Dev) (c : Nat) : (d.sendEblk c).nodes = d.nodes := (congrArg Dev.nodes (d.sendEblk_cause c)).trans rfl
@[simp] theorem Dev.sendEblk_adc (d : Dev) (c : Nat) : (d.sendEblk c).adc = d.adc := (congrArg Dev.adc (d.sendEblk_cause c)).trans rfl
@[simp] theorem Dev.sendEblk_svi (d : Dev) (c : Nat) : (d.sendEblk c).svi = d.svi := (congrArg Dev.svi (d.sendEblk_cause c)).trans rfl
@[simp] theorem Dev.sendEblk_mcd (d : Dev) (c : Nat) : (d.sendEblk c).mcd = d.mcd := (congrArg Dev.mcd (d.sendEblk_cause c)).trans rfl
@[simp] theorem Dev.sendEblk_clk (d : Dev) (c : Nat) : (d.sendEblk c).clk = d.clk := (congrArg Dev.clk (d.sendEblk_cause c)).trans rfl
@[simp] theorem Dev.sendEblk_tmb (d : Dev) (c : Nat) : (d.sendEblk c).tmb = d.tmb := (congrArg Dev.tmb (d.sendEblk_cause c)).trans rfl
@[simp] theorem Dev.sendEblk_ptp (d : Dev) (c : Nat) : (d.sendEblk c).ptp = d.ptp := (congrArg Dev.ptp (d.sendEblk_cause c)).trans rfl
@[simp] theorem Dev.sendEblk_apu (d : Dev) (c : Nat) : (d.sendEblk c).apu = d.apu := (congrArg Dev.apu (d.sendEblk_cause c)).trans rfl
@[simp] theorem Dev.sendEblk_vlt (d : Dev) (c : Nat) : (d.sendEblk c).vlt = d.vlt := (congrArg Dev.vlt (d.sendEblk_cause c)).trans rfl
@[simp] theorem Dev.sendEblk_jobs (d : Dev) (c : Nat) : (d.sendEblk c).jobs = d.jobs := (congrArg Dev.jobs (d.sendEblk_cause c)).trans rfl
@[simp] theorem Dev.sendEblk_pwr (d : Dev) (c : Nat) : (d.sendEblk c).pwr = d.pwr := (congrArg Dev.pwr (d.sendEblk_cause c)).trans rfl
@[simp] theorem Dev.sendEblk_thm (d : Dev) (c : Nat) : (d.sendEblk c).thm = d.thm := (congrArg Dev.thm (d.sendEblk_cause c)).trans rfl
@[simp] theorem Dev.sendEblk_rsv (d : Dev) (c : Nat) : (d.sendEblk c).rsv = d.rsv := (congrArg Dev.rsv (d.sendEblk_cause c)).trans rfl
@[simp] theorem Dev.sendEblk_pins (d : Dev) (c : Nat) : (d.sendEblk c).pins = d.pins := (congrArg Dev.pins (d.sendEblk_cause c)).trans rfl
@[simp] theorem Dev.sendEblk_free (d : Dev) (c : Nat) : (d.sendEblk c).free = d.free := (congrArg Dev.free (d.sendEblk_cause c)).trans rfl
@[simp] theorem Dev.raiseCause_active (d : Dev) (b : Nat) : (d.raiseCause b).active = d.active := (congrArg Dev.active (d.raiseCause_cause b)).trans rfl
@[simp] theorem Dev.raiseCause_staging (d : Dev) (b : Nat) : (d.raiseCause b).staging = d.staging := (congrArg Dev.staging (d.raiseCause_cause b)).trans rfl
@[simp] theorem Dev.raiseCause_rw (d : Dev) (b : Nat) : (d.raiseCause b).rw = d.rw := (congrArg Dev.rw (d.raiseCause_cause b)).trans rfl
@[simp] theorem Dev.raiseCause_frt (d : Dev) (b : Nat) : (d.raiseCause b).frt = d.frt := (congrArg Dev.frt (d.raiseCause_cause b)).trans rfl
@[simp] theorem Dev.raiseCause_boot (d : Dev) (b : Nat) : (d.raiseCause b).boot = d.boot := (congrArg Dev.boot (d.raiseCause_cause b)).trans rfl
@[simp] theorem Dev.raiseCause_gc (d : Dev) (b : Nat) : (d.raiseCause b).gc = d.gc := (congrArg Dev.gc (d.raiseCause_cause b)).trans rfl
@[simp] theorem Dev.raiseCause_rae (d : Dev) (b : Nat) : (d.raiseCause b).rae = d.rae := (congrArg Dev.rae (d.raiseCause_cause b)).trans rfl
@[simp] theorem Dev.raiseCause_prc (d : Dev) (b : Nat) : (d.raiseCause b).prc = d.prc := (congrArg Dev.prc (d.raiseCause_cause b)).trans rfl
@[simp] theorem Dev.raiseCause_lpe (d : Dev) (b : Nat) : (d.raiseCause b).lpe = d.lpe := (congrArg Dev.lpe (d.raiseCause_cause b)).trans rfl
@[simp] theorem Dev.raiseCause_mbe (d : Dev) (b : Nat) : (d.raiseCause b).mbe = d.mbe := (congrArg Dev.mbe (d.raiseCause_cause b)).trans rfl
@[simp] theorem Dev.raiseCause_nodes (d : Dev) (b : Nat) : (d.raiseCause b).nodes = d.nodes := (congrArg Dev.nodes (d.raiseCause_cause b)).trans rfl
@[simp] theorem Dev.raiseCause_adc (d : Dev) (b : Nat) : (d.raiseCause b).adc = d.adc := (congrArg Dev.adc (d.raiseCause_cause b)).trans rfl
@[simp] theorem Dev.raiseCause_svi (d : Dev) (b : Nat) : (d.raiseCause b).svi = d.svi := (congrArg Dev.svi (d.raiseCause_cause b)).trans rfl
@[simp] theorem Dev.raiseCause_mcd (d : Dev) (b : Nat) : (d.raiseCause b).mcd = d.mcd := (congrArg Dev.mcd (d.raiseCause_cause b)).trans rfl
@[simp] theorem Dev.raiseCause_clk (d : Dev) (b : Nat) : (d.raiseCause b).clk = d.clk := (congrArg Dev.clk (d.raiseCause_cause b)).trans rfl
@[simp] theorem Dev.raiseCause_tmb (d : Dev) (b : Nat) : (d.raiseCause b).tmb = d.tmb := (congrArg Dev.tmb (d.raiseCause_cause b)).trans rfl
@[simp] theorem Dev.raiseCause_ptp (d : Dev) (b : Nat) : (d.raiseCause b).ptp = d.ptp := (congrArg Dev.ptp (d.raiseCause_cause b)).trans rfl
@[simp] theorem Dev.raiseCause_apu (d : Dev) (b : Nat) : (d.raiseCause b).apu = d.apu := (congrArg Dev.apu (d.raiseCause_cause b)).trans rfl
@[simp] theorem Dev.raiseCause_vlt (d : Dev) (b : Nat) : (d.raiseCause b).vlt = d.vlt := (congrArg Dev.vlt (d.raiseCause_cause b)).trans rfl
@[simp] theorem Dev.raiseCause_jobs (d : Dev) (b : Nat) : (d.raiseCause b).jobs = d.jobs := (congrArg Dev.jobs (d.raiseCause_cause b)).trans rfl
@[simp] theorem Dev.raiseCause_pwr (d : Dev) (b : Nat) : (d.raiseCause b).pwr = d.pwr := (congrArg Dev.pwr (d.raiseCause_cause b)).trans rfl
@[simp] theorem Dev.raiseCause_thm (d : Dev) (b : Nat) : (d.raiseCause b).thm = d.thm := (congrArg Dev.thm (d.raiseCause_cause b)).trans rfl
@[simp] theorem Dev.raiseCause_rsv (d : Dev) (b : Nat) : (d.raiseCause b).rsv = d.rsv := (congrArg Dev.rsv (d.raiseCause_cause b)).trans rfl
@[simp] theorem Dev.raiseCause_pins (d : Dev) (b : Nat) : (d.raiseCause b).pins = d.pins := (congrArg Dev.pins (d.raiseCause_cause b)).trans rfl
@[simp] theorem Dev.raiseCause_free (d : Dev) (b : Nat) : (d.raiseCause b).free = d.free := (congrArg Dev.free (d.raiseCause_cause b)).trans rfl
@[simp] theorem Dev.raiseCause_sys_mode (d : Dev) (b : Nat) : (d.raiseCause b).sys.mode = d.sys.mode := (congrArg (fun (x : Dev) => x.sys.mode) (d.raiseCause_cause b)).trans rfl
@[simp] theorem Dev.raiseCause_sys_prev (d : Dev) (b : Nat) : (d.raiseCause b).sys.prev = d.sys.prev := (congrArg (fun (x : Dev) => x.sys.prev) (d.raiseCause_cause b)).trans rfl
@[simp] theorem Dev.raiseCause_sys_ret (d : Dev) (b : Nat) : (d.raiseCause b).sys.ret = d.sys.ret := (congrArg (fun (x : Dev) => x.sys.ret) (d.raiseCause_cause b)).trans rfl
@[simp] theorem Dev.raiseCause_sys_modeReqs (d : Dev) (b : Nat) : (d.raiseCause b).sys.modeReqs = d.sys.modeReqs := (congrArg (fun (x : Dev) => x.sys.modeReqs) (d.raiseCause_cause b)).trans rfl
@[simp] theorem Dev.raiseCause_sys_mrResult (d : Dev) (b : Nat) : (d.raiseCause b).sys.mrResult = d.sys.mrResult := (congrArg (fun (x : Dev) => x.sys.mrResult) (d.raiseCause_cause b)).trans rfl
@[simp] theorem Dev.raiseCause_sys_commitReqs (d : Dev) (b : Nat) : (d.raiseCause b).sys.commitReqs = d.sys.commitReqs := (congrArg (fun (x : Dev) => x.sys.commitReqs) (d.raiseCause_cause b)).trans rfl
@[simp] theorem Dev.raiseCause_sys_commitResult (d : Dev) (b : Nat) : (d.raiseCause b).sys.commitResult = d.sys.commitResult := (congrArg (fun (x : Dev) => x.sys.commitResult) (d.raiseCause_cause b)).trans rfl
@[simp] theorem Dev.raiseCause_sys_stageGen (d : Dev) (b : Nat) : (d.raiseCause b).sys.stageGen = d.sys.stageGen := (congrArg (fun (x : Dev) => x.sys.stageGen) (d.raiseCause_cause b)).trans rfl
@[simp] theorem Dev.raiseCause_sys_dirty (d : Dev) (b : Nat) : (d.raiseCause b).sys.dirty = d.sys.dirty := (congrArg (fun (x : Dev) => x.sys.dirty) (d.raiseCause_cause b)).trans rfl
@[simp] theorem Dev.raiseCause_sys_holdStart (d : Dev) (b : Nat) : (d.raiseCause b).sys.holdStart = d.sys.holdStart := (congrArg (fun (x : Dev) => x.sys.holdStart) (d.raiseCause_cause b)).trans rfl
@[simp] theorem Dev.raiseCause_sys_digestDrop (d : Dev) (b : Nat) : (d.raiseCause b).sys.digestDrop = d.sys.digestDrop := (congrArg (fun (x : Dev) => x.sys.digestDrop) (d.raiseCause_cause b)).trans rfl
@[simp] theorem Dev.raiseCause_sys_digestLost (d : Dev) (b : Nat) : (d.raiseCause b).sys.digestLost = d.sys.digestLost := (congrArg (fun (x : Dev) => x.sys.digestLost) (d.raiseCause_cause b)).trans rfl
@[simp] theorem Dev.raiseCause_sys_overruns (d : Dev) (b : Nat) : (d.raiseCause b).sys.overruns = d.sys.overruns := (congrArg (fun (x : Dev) => x.sys.overruns) (d.raiseCause_cause b)).trans rfl
@[simp] theorem Dev.raiseCause_sys_overrunRun (d : Dev) (b : Nat) : (d.raiseCause b).sys.overrunRun = d.sys.overrunRun := (congrArg (fun (x : Dev) => x.sys.overrunRun) (d.raiseCause_cause b)).trans rfl
@[simp] theorem Dev.raiseCause_sys_engineErr (d : Dev) (b : Nat) : (d.raiseCause b).sys.engineErr = d.sys.engineErr := (congrArg (fun (x : Dev) => x.sys.engineErr) (d.raiseCause_cause b)).trans rfl
@[simp] theorem Dev.raiseCause_sys_tripCause (d : Dev) (b : Nat) : (d.raiseCause b).sys.tripCause = d.sys.tripCause := (congrArg (fun (x : Dev) => x.sys.tripCause) (d.raiseCause_cause b)).trans rfl
@[simp] theorem Dev.raiseCause_sys_tripEpoch (d : Dev) (b : Nat) : (d.raiseCause b).sys.tripEpoch = d.sys.tripEpoch := (congrArg (fun (x : Dev) => x.sys.tripEpoch) (d.raiseCause_cause b)).trans rfl
@[simp] theorem Dev.raiseCause_sys_tripClears (d : Dev) (b : Nat) : (d.raiseCause b).sys.tripClears = d.sys.tripClears := (congrArg (fun (x : Dev) => x.sys.tripClears) (d.raiseCause_cause b)).trans rfl
@[simp] theorem Dev.raiseCause_sys_tripRefs (d : Dev) (b : Nat) : (d.raiseCause b).sys.tripRefs = d.sys.tripRefs := (congrArg (fun (x : Dev) => x.sys.tripRefs) (d.raiseCause_cause b)).trans rfl
@[simp] theorem Dev.raiseCause_sys_tripDone (d : Dev) (b : Nat) : (d.raiseCause b).sys.tripDone = d.sys.tripDone := (congrArg (fun (x : Dev) => x.sys.tripDone) (d.raiseCause_cause b)).trans rfl
@[simp] theorem Dev.raiseCause_sys_charged (d : Dev) (b : Nat) : (d.raiseCause b).sys.charged = d.sys.charged := (congrArg (fun (x : Dev) => x.sys.charged) (d.raiseCause_cause b)).trans rfl
@[simp] theorem Dev.raiseCause_sys_deadBus (d : Dev) (b : Nat) : (d.raiseCause b).sys.deadBus = d.sys.deadBus := (congrArg (fun (x : Dev) => x.sys.deadBus) (d.raiseCause_cause b)).trans rfl

end Sys2Proof.Machine
end

