-- ==== Sys2Proof/Tests/Slice0.lean ====
section
/-! SUPPORT. Tests of the model and witnesses for the statements: `wit_<Statement>` shows states and operands that meet the hypotheses of its clauses. -/
open Sys2Proof Sys2Proof.Machine
-- One test after the other: side by side each would take a stack of its own.
set_option Elab.async false
namespace Sys2Proof.Tests

/-- A device in mode `m` after BOOT: every domain on, lock and reference good, the timebase running. -/
def up (m : Mode) : Dev :=
  { sys := { mode := m }, pwr := { porb := false, on := List.replicate 14 (some 0) }, clk := { lock := true, refOk := true, mult := 480 * 2 ^ 32 }, boot := { step := 7 }
    tmb := { running := true, now := 10 * secU, up := 10 * secU, sync := 10 * secU, syncUp := 10 * secU, epoch := 5 } }
/-- The same device with active copies of registers. -/
def withRegs (m : Mode) (l : List (Nat × Word)) : Dev := { up m with active := l }
/-- A state with a device. -/
def on (d : Dev) : State := { State.reset with dev := d }
/-- The device in STANDBY with BAR0 at level 3. -/
def low : Dev := withRegs .standby [(R.APU_BAR0_LVL, 3)]
/-- A device whose epoch origin is its present second: the next boundary lies ahead. -/
def early (m : Mode) : Dev := withRegs m [(R.TMB_EPOCH_ORIGIN_LO, 10)]

-- The machine as a whole -------------------------------------------------------------------------------------------------

theorem wit_StepRunsTheFrontCommand : ({ State.reset with pending := [.powerOn, .commitGo] } : State).pending = .powerOn :: [.commitGo] := rfl
theorem wit_EmptyQueueTicks : State.reset.pending = [] := rfl
theorem wit_StepKeepsDramCanonical : dramWf ({ on (up .standby) with dram := [(3, 7)] }).dram = true ∧ ∃ t, step { on (up .standby) with dram := [(3, 7)] } = .next t :=
  ⟨by decide, _, rfl⟩
theorem wit_ReadsMoveAtBoundaries : removesPower .commitGo = false ∧ (∀ late phase, Instr.commitGo ≠ .periodBoundary late phase) ∧ Instr.commitGo ≠ .holdSet ∧
    Instr.commitGo ≠ .holdClear ∧ Instr.commitGo ≠ .holdExpired ∧ (∀ v, Instr.commitGo ≠ .registerWrite R.SYS_SNAP_CTRL v true) ∧ ∃ t, exec .commitGo (on (up .standby)) = .next t :=
  ⟨rfl, by simp, by simp, by simp, by simp, by simp, _, rfl⟩
theorem wit_WellFormedCommandsComplete : Instr.wf (.recFree 8191) = true := by decide
theorem wit_UnreachedDeviceIgnoresBar0 : (on {}).dev.hostUp = false ∧ isBar0 .commitGo = true := by decide
theorem wit_ModeMovesAtBoundaries : removesPower .emblkN = false ∧ (∀ late phase, Instr.emblkN ≠ .periodBoundary late phase) ∧ ∃ t, exec .emblkN (on (up .gfGrid)) = .next t :=
  ⟨rfl, by simp, _, rfl⟩
theorem wit_VaultCountersNeverDecrease : ∃ t, exec (.ctrInc 2) (on (up .config)) = .next t := ⟨_, rfl⟩

-- Power, reset, temperature, the reserve store ---------------------------------------------------------------------------

theorem wit_PowerRemovalLeavesReset : takesPower .powerOn (on {}) = true ∧ takesPower .porbAssert (on (up .gfGrid)) = true ∧ takesPower .hardCut (on (up .gfGrid)) = true ∧
    takesPower .aonBrownout (on (up .gfGrid)) = true ∧
    takesPower .powerDown (on { up .gfGrid with pwr := { porb := false, stopAt := some 0, blockDone := true } }) = true := by decide
theorem wit_ResetReleaseStartsBoot : (on {}).dev.pwr.porb = true ∧ (on {}).dev.pwr.brownout = false ∧
    (on { pwr := { porb := false, brownout := true } }).dev.pwr.brownout = true ∧
    (on { pwr := { porb := false, rising := [14], seqNext := 15 }, boot := { step := 1 } }).dev.pwr.rising.contains 14 = true ∧
    (on { pwr := { porb := false, rising := [14], seqNext := 15 }, boot := { step := 1 } }).dev.unpowered = false ∧
    (on { pwr := { porb := false, rising := [1], seqNext := 2 }, boot := { step := 1 } }).dev.pwr.rising.contains 1 = true ∧
    (on { up .standby with pwr := { porb := false, rising := [8] } }).dev.boot.step ≠ 1 := by decide
theorem wit_PwrFailStartsAnOrderlyStop : (on (up .gfGrid)).dev.unpowered = false ∧ (on (up .gfGrid)).dev.pwr.stopAt = none ∧ (on (up .gfGrid)).dev.mode ≠ .boot ∧
    (on (up .boot)).dev.unpowered = false ∧ (on (up .boot)).dev.mode = .boot := by decide
theorem wit_ThermalRoundTakesTheReadings : (on (up .gfGrid)).dev.unpowered = false ∧ (on (up .gfGrid)).dev.domOn 1 = true ∧
    [⟨300, 1600, false, false⟩][0]? = some (⟨300, 1600, false, false⟩ : Reading) ∧ (on { up .gfGrid with thm := { stop := true } }).dev.thm.stop = true := by decide
/-- A journal record. -/
def jr : JRec := ⟨1, 0, true, 1, 5, [(R.GFE_P0, 1)], true⟩
theorem wit_ReserveStoreKeepsItsJournal :
    (on { up .config with rsv := { writing := some jr, fresh := false } }).dev.rsv.writing = some jr ∧ jr.last = true ∧
    (on { up .config with rsv := { compact := some ⟨true, []⟩ } }).dev.rsv.compact = some ⟨true, []⟩ ∧
    (on (up .config)).dev.bar0Open R.RSV_CMD 1 = true ∧ (on (up .config)).dev.rsv.compact = none ∧ (on { up .config with thm := { throttle := true } }).dev.bar0Open R.RSV_CMD 1 = true ∧
    (on (up .service)).dev.bar0Open R.RSV_CMD 0 = true ∧ (on (up .service)).dev.mode = .service ∧ (on (up .config)).dev.bar0Open R.RSV_CMD 0 = true ∧
    (on (up .config)).dev.mode ≠ .service ∧ (on { up .service with rsv := { erasing := true } }).dev.rsv.erasing = true := by decide
/-- Step 4 of BOOT, 300 ms in, waiting for the host. -/
def step4 : Dev := { up .boot with boot := { step := 4, waitHost := true } }
theorem wit_BootImagesFromTheHost : (on step4).dev.boot.step = 4 ∧ (on step4).dev.boot.start + 300 * msU ≤ (on step4).dev.tmb.up ∧ (on step4).dev.boot.waitHost = true ∧
    (on step4).dev.bar0Open R.VLT_BOOT_GO 3 = true := by decide

-- Commits, reads, modes, trips -------------------------------------------------------------------------------------------

theorem wit_CommitRequestsWait : (on (up .standby)).dev.bar0Open R.SYS_COMMIT 2 = true ∧ (on low).dev.bar0Refused R.SYS_COMMIT 2 = true := by decide

/-- A device in mode `m` with queue 0 RUNNING at level `l`, rings of 16, one entry to fetch. -/
def fetching (m : Mode) (l : Nat) : Dev :=
  { withRegs m [(R.PCI_Qq_CFG 0, word (0x80000404 + l * 2 ^ 28))] with pci := { queues := { st := 1, sqTail := 1 } :: List.replicate 31 {} } }
/-- A submission entry with words from 1 on. -/
def ent (w : List Word) : SqEntry := { tag := 7, flags := 0, w := w ++ List.replicate (15 - w.length) 0 }

theorem wit_StagingWritesCount :
    (findReg R.GFE_P0).any (fun r => r.flds.any (fun f => isStaged f.acc) && !((on (up .standby)).dev.sealedReg r)) = true ∧ R.GFE_P0 < 16777216 ∧ R.GFE_P0 % 4 = 0 ∧
    (findReg (R.DDP_PAIRn_CFG 11)).any (fun r => ({ up .standby with vlt := { sealed := true } } : Dev).sealedReg r && r.flds.any (fun f => f.acc == .rws)) = true ∧
    R.GFE_P0 ≠ R.SYS_SNAP_CTRL ∧ readOnly R.GFE_P0 = false ∧ ((on (up .standby)).dev.cmdWrite R.GFE_P0 1).isNone = true ∧ (on (up .standby)).dev.hostUp = true ∧
    (on (up .standby)).dev.bootHidden R.GFE_P0 = false ∧ (on (up .standby)).dev.writeAdmitted none 3 R.GFE_P0 = true ∧
    ((schedReg R.GFE_P0).map (fun e => ((on (up .standby)).dev.sched e).st == 1)).getD false = false ∧
    (on (fetching .standby 0)).dev.takesEntry 0 Op.regStage (ent [1, word R.GFE_P0, 5]) = true ∧
    (([⟨true, none, .bar0, 0⟩, ⟨false, none, .bar0, 1⟩] : List CommitReq).filter ((up .standby).commitDue 1)).getLast? = some ⟨true, none, .bar0, 0⟩ := by decide
/-- A staging bank that passes every check: domain 0 enabled, an svID length for every stream, a measured value for every loop slot and for the recorder channel in use. -/
def validBank : List (Nat × Word) :=
  [(R.PTP_DOMx_CFG 0, resetOf (R.PTP_DOMx_CFG 0) ||| 1)] ++ (List.range 16).map (fun s => (R.SVI_STRs_CFG s, resetOf (R.SVI_STRs_CFG s) ||| 1)) ++
    (List.range 64).map (fun n => (R.LPE_SLOTn_SRC n, 0x2000)) ++ [(R.REC_CHc_CFG 0, 0x20000000)]
/-- A commit in CONFIG of that bank. -/
def committing (r : CommitReq) : Dev := { up .config with staging := validBank, sys := { mode := .config, stageGen := 0x1F43, commitReqs := [r] } }
theorem wit_CommitsApplyWholeOrNotAtAll : ((committing ⟨false, none, .bar0, 0⟩).commitStep 1).applied = true := by decide +kernel
theorem wit_HoldKeepsTheSnapshot : (on (up .standby)).dev.bar0Open R.SYS_SNAP_CTRL 3 = true ∧ (on (up .standby)).dev.sys.holdStart = none ∧
    (on { up .standby with sys := { mode := .standby, holdStart := some 0 } }).dev.bar0Open R.SYS_SNAP_CTRL 3 = true ∧
    (on { up .standby with sys := { mode := .standby, holdStart := some (10 * secU - msU) } }).dev.sys.holdStart = some (10 * secU - msU) ∧ 10 * secU - msU + msU ≤ 10 * secU ∧
    10 * secU < 10 * secU - msU + 1 + msU := by decide
theorem wit_ModeRequestsReplaceEachOther : (on (up .config)).dev.bar0Open R.SYS_MODE_REQ ((on (up .config)).dev.modeLevel (2 % 16)) = true ∧
    (on { early .config with sys := { mode := .config, modeReqs := [⟨2, .desc ⟨0, 0, 7, 4⟩, 0⟩] } }).dev.bar0Open R.SYS_MODE_REQ ((on (early .config)).dev.modeLevel (2 % 16)) = true ∧
    (on { early .config with sys := { mode := .config, modeReqs := [⟨2, .desc ⟨0, 0, 7, 4⟩, 0⟩] } }).dev.sys.modeReqs = [⟨2, .desc ⟨0, 0, 7, 4⟩, 0⟩] ∧ (on (early .config)).dev.afterEpoch = false ∧
    (on low).dev.bar0Refused R.SYS_MODE_REQ ((on low).dev.modeLevel (3 % 16)) = true := by decide
theorem wit_TripRequestsNeedLevelTwo : (on (withRegs .standby [(R.APU_BAR0_LVL, 2), (R.APU_DEFAULT, 0x33)])).dev.bar0Open R.SYS_TRIP_CTRL 2 = true ∧ (on low).dev.hostUp = true ∧
    (on low).dev.bootHidden R.SYS_TRIP_CTRL = false ∧ 2 < (on low).dev.level none ∧ (on (fetching .gfGrid 2)).dev.takesEntry 0 Op.trip (ent [1]) = true ∧
    sqF (ent [1]) 1 3 0 = 1 ∧ (on (fetching .gfGrid 2)).dev.level (some 0) ≤ 2 ∧ (on (fetching .gfGrid 3)).dev.takesEntry 0 Op.trip (ent [1]) = true ∧
    2 < (on (fetching .gfGrid 3)).dev.level (some 0) := by decide
/-- A device in FRT, its return mode STATCOM, the exit conditions met, for 2 s. -/
def frtDev : Dev :=
  { withRegs .frt [(R.SYS_FRT_EXIT_VAC, 0), (R.CCE_CTRL, 0x1000)] with
    sys := { mode := .frt, ret := .statcom }, frt := { count := 10000, entryTime := 0, causeDc := true }, gc := { c := { clampRun := 3 } } }
theorem wit_ProtectiveEventsRaiseCauses : (on (up .gfGrid)).dev.unpowered = false ∧ (on (up .gfGrid)).dev.mode ≠ .boot ∧ (on step4).dev.mode = .boot ∧
    3 ≤ (on { up .gfGrid with sys := { mode := .gfGrid, overrunRun := 3 } }).dev.sys.overrunRun ∧
    (on { withRegs .precharge [(R.CCE_PRC_TIMEOUT, 10)] with prc := { stage := 1 } }).dev.prc.entry +
      (on { withRegs .precharge [(R.CCE_PRC_TIMEOUT, 10)] with prc := { stage := 1 } }).dev.afld R.CCE_PRC_TIMEOUT 15 0 * secU ≤ (up .precharge).tmb.up ∧
    (on (up .precharge)).dev.mode = .precharge ∧ (1 : Nat) ≠ 3 ∧ (1 : Nat) ≠ 4 ∧ (on (up .gfGrid)).dev.bar0Open R.SYS_TRIP_CTRL 1 = true := by decide
theorem wit_ProtectiveEvents_frt : (on frtDev).dev.mode = .frt ∧ (on frtDev).dev.frtOk = true ∧ (on frtDev).dev.frtN ≤ (on frtDev).dev.frt.count + 1 ∧
    (on frtDev).dev.frt.entryTime + (on frtDev).dev.afld R.SYS_FRT_TIMING 31 16 * msU ≤ (on frtDev).dev.tmb.up := by decide +kernel
theorem wit_BoundaryEndsTheEpoch : (on (up .gfGrid)).dev.unpowered = false ∧ (on (up .gfGrid)).dev.tmb.running = true ∧ (on (up .gfGrid)).dev.mode ≠ .boot ∧
    (on (up .gfGrid)).dev.sys.commitReqs = [] ∧ (on (up .gfGrid)).dev.tmb.reqs = [] ∧ (on step4).dev.mode = .boot ∧
    (on { up .boot with boot := { step := 6 } }).dev.boot.step = 6 ∧ (on { up .boot with boot := { step := 6 } }).dev.mode = .boot ∧
    (on { up .boot with boot := { step := 6 } }).dev.tmb.running = true ∧ (on {}).dev.tmb.running = false := by decide
theorem wit_SelectionFollowsThePriority : (on { up .gfGrid with rae := { paths := [some {}, none, none, none, none] } }).dev.mode ≠ .boot ∧
    (nth (on { up .gfGrid with rae := { paths := [some {}, none, none, none, none] } }).dev.rae.paths 0 none).isSome = true ∧
    (on { up .gfGrid with rae := { paths := [some {}, none, none, none, none] } }).dev.rae.front = none ∧
    (on { up .gfGrid with rae := { paths := [some {}, none, none, none, none] } }).dev.rae.selected = false := by decide

-- Measurement and the engines --------------------------------------------------------------------------------------------

/-- A device in GRID_FORMING with core 0 as given, register `x` set. -/
def adcDev (c : AdcCore) (l : List (Nat × Word)) : Dev := { withRegs .gfGrid l with adc := { cores := c :: List.replicate 3 {} } }
theorem wit_ConversionsAdvanceTheSequences : (on (adcDev { run := some 0 } [])).dev.coreOn 0 = true ∧ 0 < (on (adcDev { run := some 0 } [])).dev.adc.cores.length ∧
    ((on (adcDev { run := some 0 } [])).dev.core 0).inj = none ∧ ((on (adcDev { run := some 0 } [])).dev.core 0).run = some 0 ∧
    0 < ((on (adcDev { run := some 0 } [])).dev.core 0).done.length ∧
    ((on (adcDev { run := some 0 } [])).dev.core 0).conv + 1 < (on (adcDev { run := some 0 } [(R.ADC_COREc_REGe 0 0, 0x20600)])).dev.afld (R.ADC_COREc_REGe 0 0) 20 16 ∧
    (on (adcDev { run := some 0 } [])).dev.afld (R.ADC_COREc_REGe 0 0) 20 16 ≤ ((on (adcDev { run := some 0 } [])).dev.core 0).conv + 1 ∧
    ((on (adcDev { run := some 0 } [])).dev.core 0).late = false ∧ (on (adcDev { run := some 0 } [])).dev.adc.cut = false ∧
    ((on (adcDev { inj := some 0 } [])).dev.core 0).inj = some 0 ∧ (on (adcDev { inj := some 0 } [])).dev.injLen 0 ≤ 0 + 1 ∧
    0 + 1 < (on (adcDev { inj := some 0 } [(R.ADC_COREc_CFG 0, 0x10000)])).dev.injLen 0 ∧ (on (adcDev {} [])).dev.mode ≠ .boot ∧ (on (adcDev {} [])).dev.tmb.running = true ∧
    (on (adcDev {} [])).dev.adc.cores.length = 4 ∧ ({ adcDev {} [] with adc := { cut := true } } : Dev).adc.cut = true := by decide
theorem wit_TriggersStartInjectedSequences : (on (adcDev {} [(R.ADC_COREc_CFG 0, 0x01000000)])).dev.bar0Open (R.ADC_COREc_SOFT 0) 3 = true ∧
    (on (adcDev {} [(R.ADC_COREc_CFG 0, 0x01000000)])).dev.afld (R.ADC_COREc_CFG 0) 28 24 = 1 ∧ (on (adcDev {} [])).dev.coreOn 0 = true ∧
    ((on (adcDev {} [])).dev.core 0).inj = none ∧ ((on (adcDev {} [])).dev.core 0).trig = false ∧ ((on (adcDev {} [])).dev.core 0).pd = false ∧
    ((on (adcDev { pd := true } [])).dev.core 0).pd = true ∧ ((on (adcDev { inj := some 0 } [])).dev.core 0).inj.isSome = true ∧
    ((on (adcDev { trig := true, run := some 0 } [])).dev.core 0).trig = true ∧ ((on (adcDev { trig := true, run := some 0 } [])).dev.core 0).run.isSome = true ∧
    ((on (adcDev { trig := true, pd := true } [])).dev.core 0).trig = true ∧ ((on (adcDev { warmEnd := some 1 } [])).dev.core 0).warmEnd = some 1 ∧
    1 ≤ (on (adcDev { warmEnd := some 1 } [])).dev.tmb.up := by decide
/-- Stream 0 enabled on port 2, one value. -/
def svDev : Dev := withRegs .gfGrid [(R.SVI_CTRL, 1), (R.SVI_STRs_CFG 0, 0x41000000)]
/-- A sampled-value frame of sample `n` with values `v`. -/
def svFrame (n : Nat) (v : List (Word × Word)) : SvFrame :=
  ⟨⟨2, 11, true, List.replicate 12 0 ++ [0x88, 0xBA]⟩, 0x4000, [], false, false, [⟨n, 2, v⟩]⟩
theorem wit_SampledValuesReachTheirStream : (on svDev).dev.domOn 6 = true ∧ (svFrame 7 []).eth.good = true ∧ (etherType (svFrame 7 []).eth.bytes).1 = 0x88BA ∧
    (List.range 16).find? (fun m => (on svDev).dev.svMatch (svFrame 7 []) m) = some 0 ∧ 0 < (on svDev).dev.svi.length ∧
    (on svDev).dev.afld (R.SVI_STRs_CFG 0) 27 24 = 1 ∧ 4799 < (on svDev).dev.afld (R.SVI_STRs_RATE 0) 16 0 ∧ (on svDev).dev.afld (R.SVI_STRs_RATE 0) 16 0 ≤ 4800 ∧
    (on svDev).dev.afld (R.SVI_STRs_CFG 0) 27 24 ≤ [((1 : Word), (0 : Word))].length ∧
    ((on { svDev with svi := { seen := [(9, 7, 4800)] } :: List.replicate 15 {} }).dev.stream 0).hasSeen (sampleSec 4800 7 ((on svDev).dev.rxStamp 2 11)) 7 4800 = true ∧
    (∀ n, n < 16 → (on (up .gfGrid)).dev.svMatch (svFrame 7 []) n = false) := by decide +kernel
/-- Conditioning done in this epoch, input 3 held for three epochs. -/
def condDev : Dev := { up .gfGrid with mcd := { next := some { ins := List.replicate 3 {} ++ { hold := 3 } :: List.replicate 20 {} } }, adc := { cut := true } }
theorem wit_ConditioningRunsOnceAnEpoch : (on { up .gfGrid with adc := { cut := true } }).dev.mode ≠ .boot ∧ (on { up .gfGrid with adc := { cut := true } }).dev.mcd.next = none ∧
    (on { up .gfGrid with adc := { cut := true } }).dev.adc.cut = true ∧ (on condDev).dev.mcd.next.isSome = true ∧ 3 < (on condDev).dev.mcdNow.ins.length ∧
    (on condDev).dev.afld R.MCD_TIMING 15 0 ≤ (nth (on condDev).dev.mcdNow.ins 3 {}).hold ∧ (1 : Nat) < 6 ∧
    (on { condDev with active := [(R.MCD_CTRL, 2)] }).dev.setOn 1 = true ∧ ((on condDev).dev.setInputs 1).contains 3 = true := by decide
/-- Ledgers complete. -/
def readyArms : Mbe := { arms := List.replicate 6 { complete := true } }
theorem wit_EnginesStepOnceAnEpoch : (on condDev).dev.mode ≠ .boot ∧ (on condDev).dev.mcd.next.isSome = true ∧ nth (on condDev).dev.rae.paths 0 none = none ∧
    (∀ n, n < 6 → (nth (on { condDev with mbe := readyArms, rae := { paths := [some {}, none, none, none, none], front := some {} } }).dev.mbe.arms n {}).complete = true) ∧
    (on { condDev with mbe := readyArms, rae := { paths := [some {}, none, none, none, none], front := some {} } }).dev.rae.front.isSome = true := by decide
theorem wit_ModulationCommandsEveryArm : (on { condDev with mbe := readyArms, rae := { selected := true } }).dev.rae.selected = true ∧
    (∀ n, n < 6 → (nth (on { condDev with mbe := readyArms, rae := { selected := true } }).dev.mbe.arms n {}).complete = true) ∧
    (on { condDev with mbe := readyArms, rae := { selected := true } }).dev.mbe.next = none ∧ (on (up .standby)).dev.mode.blocked = true := by decide
/-- Job 0 scans the recorder DRAM's first 64 bytes. -/
def jobRegs : List (Nat × Word) := [(R.TLY_JOBj_CFG 0, 0x83100001), (R.TLY_JOBj_START 0, 0), (R.TLY_JOBj_LEN 0, 64)]
theorem wit_EngineConditionsTakeEffect :
    (on { withRegs .gfIsland [(R.GFE_RESYNC_CTRL, 1)] with gc := { g := { rsState := 1, rsHold := 100000 } } }).dev.abit R.GFE_RESYNC_CTRL 0 = true ∧
    qdiv (((up .gfIsland).afld R.GFE_RESYNC_CFG 15 0 : Rat) / 1000) (up .gfIsland).tcs ≤ ((100000 : Nat) : Rat) ∧
    (on frtDev).dev.frt.causeDc = true ∧ (on frtDev).dev.afld R.CCE_CTRL 13 12 = 1 ∧ (on frtDev).dev.afld R.CCE_DCF_TIMING 7 0 ≤ (on frtDev).dev.gc.c.clampRun ∧
    (on { frtDev with gc := { c := { tblk := true, tblkRun := 10000 } } }).dev.gc.c.tblk = true ∧
    qdiv ((frtDev.afld R.CCE_DCF_TIMING 31 16 : Rat) / 1000000) frtDev.tcs ≤ ((10000 : Nat) : Rat) ∧ (withRegs .gfGrid jobRegs).jobHolds 0 3 56 = true ∧
    (withRegs .gfGrid jobRegs).unpowered = false ∧ (withRegs .gfGrid jobRegs).mode ≠ .boot ∧ (withRegs .gfGrid jobRegs).sys.engineErr = false ∧
    (withRegs .gfGrid jobRegs).lanesRun = true := by decide +kernel
/-- Slot 0 on, every epoch, its sources the constant and `src`. -/
def slotDev (src : Word) : Dev :=
  { withRegs .gfGrid [(R.LPE_SLOTn_CTRL 0, 0x80000001), (R.LPE_SLOTn_SRC 0, src)] with lpe := { slots := { on := true } :: List.replicate 63 {} } }
theorem wit_LoopsAndPulseInputsEvaluate : (on (slotDev 0)).dev.lpe.next.length = 64 ∧ (on (slotDev 0)).dev.mode ≠ .boot ∧ (nth (on (slotDev 0)).dev.lpe.slots 0 {}).on = true ∧
    (on (slotDev 0)).dev.tmb.epoch % fld ((on (slotDev 0)).dev.act (R.LPE_SLOTn_CTRL 0)) 9 0 = 0 ∧
    ((on (slotDev 0)).dev.lpeSource 0 (fld ((on (slotDev 0)).dev.act (R.LPE_SLOTn_SRC 0)) 31 16)).isSome = true ∧
    ((on (slotDev 0)).dev.lpeSource 0 (fld ((on (slotDev 0)).dev.act (R.LPE_SLOTn_SRC 0)) 15 0)).isSome = true ∧
    (on (slotDev 0x1000)).dev.lpeSource 0 (fld ((on (slotDev 0x1000)).dev.act (R.LPE_SLOTn_SRC 0)) 15 0) = none ∧ 7 < (on (slotDev 0)).dev.lpe.pulses.length ∧
    (withRegs .gfGrid [(R.LPE_PIn_CFG 7, 0x03E80001)]).abit (R.LPE_PIn_CFG 7) 0 = true ∧
    (nth ({ lpe := { pulses := List.replicate 7 {} ++ [{ startAt := some 0 }] } } : Dev).lpe.pulses 7 {}).startAt = some 0 ∧
    0 + (withRegs .gfGrid [(R.LPE_PIn_CFG 7, 0x03E80001)]).afld (R.LPE_PIn_CFG 7) 31 16 * 200000 ≤ (up .gfGrid).tmb.up / (5 * nsU) := by decide +kernel

-- The submodule network --------------------------------------------------------------------------------------------------

/-- A submodule node's table entry: lane 0, slots 0, three reports missed. -/
def smEnt : NodeEnt :=
  { serial := 77, kind := 0, arm := 0, adm := 1, lane := 0, depth := 1, route := 0, cslot := 0, rslot := 0, rphase := 0, rtt := 100, quantity := 0, exp := 0, mant := 0, ddown := 0,
    send := 0, eff := 0 }
/-- A measurement node's entry, slot 1 of lane 0. -/
def msEnt : NodeEnt := { smEnt with kind := 2, arm := 7, rslot := 1, missedRun := 3 }
/-- A device with both nodes, the lanes locked; the submodule's ledger entry has missed three reports. -/
def netDev (m : Mode) : Dev :=
  { up m with
    ikl := { lanes := List.replicate 12 { lock := true }, nodes := [(17, smEnt), (18, msEnt)] }
    nodes := [(0, { ident := ⟨77, 17, 0, 0, 3, 1, 2, 2, 5, 1, 0, 0, 0⟩, down := [{ lock := true }, {}] })]
    mbe := { arms := { cells := [{ addr := 17, missed := 3 }], complete := true } :: List.replicate 5 { complete := true } } }
/-- A report of node `addr` in epoch 5. -/
def rep (addr : Nat) : Dword := withCrc (put 47 35 addr + put 2 0 5)
theorem wit_ReportsReachTheNode : (on (netDev .gfGrid)).dev.lanesRun = true ∧ (on (netDev .gfGrid)).dev.laneOn 0 = true ∧
    (nth (on (netDev .gfGrid)).dev.ikl.lanes 0 {}).lock = true ∧ slotNode (on (netDev .gfGrid)).dev.ikl.nodes 0 0 5 = some (17, smEnt) ∧
    slotNode (on (netDev .gfGrid)).dev.ikl.nodes 0 1 5 = some (18, msEnt) ∧ (nth (on (netDev .gfGrid)).dev.ikl.lanes 0 {}).cut = false ∧ smEnt.valueEpoch ≠ some 5 ∧
    crcOk (rep 17) = true ∧ bfld (rep 17) 63 51 = 17 ∧ bfld (rep 17) 18 16 = 5 % 8 ∧ smEnt.sm = true ∧ msEnt.sm = false ∧ (on (netDev .gfGrid)).dev.mode ≠ .precharge ∧
    slotNode (on (netDev .gfGrid)).dev.ikl.nodes 0 2 5 = none ∧ crcOk 0 = false ∧ (on (netDev .gfGrid)).dev.tmb.running = true ∧
    findNode (on (netDev .gfGrid)).dev.ikl.nodes 17 = some smEnt ∧ (on (netDev .gfGrid)).dev.cell smEnt.arm 17 = some { addr := 17, missed := 3 } ∧
    ({ addr := 17, missed := 3 } : Cell).gone = false ∧ findNode (on (netDev .gfGrid)).dev.ikl.nodes 18 = some msEnt ∧ 3 ≤ msEnt.missedRun ∧ msEnt.adm = 1 := by decide +kernel
/-- A device with PAIR_EN as `pair` says and both mirror lanes in lock. -/
def pairDev (m : Mode) (cfg : Word) : Dev := { withRegs m [(R.RDN_CFG, cfg)] with rdn := { mirLock := [true, true] } }
theorem wit_LanesReceive : (on (netDev .gfGrid)).dev.laneOn 11 = true ∧ (nth (on (netDev .gfGrid)).dev.ikl.lanes 11 {}).lock = true ∧ blockType (fltBlock 1) = 0x66 ∧
    crcOk (fltBlock 1) = true ∧ ¬(blockType 0 = 0x66 ∧ crcOk 0 = true) ∧ (on (pairDev .gfGrid 0x30800001)).dev.domOn 14 = true ∧
    ((on (netDev .gfGrid)).dev.node 0).ports.length = 2 ∧ ((on (netDev .gfGrid)).dev.node 0).down.length = 2 ∧ ((on (netDev .gfGrid)).dev.node 0).locked 2 = true ∧
    ((on (netDev .gfGrid)).dev.node 0).locked 3 = false ∧
    (on (pairDev .gfGrid 0x30800001)).dev.abit R.RDN_MIR_EN 1 = true ∧ laneTypes.contains (blockType 0) = false ∧ (on (pairDev .gfGrid 0x30800001)).dev.mirOk 1 = true ∧
    mirrorTypes.contains (blockType 0) = false := by decide +kernel
/-- The response with tag 9 to an IDENT of node 17. -/
def identAnswer : MFrame := ⟨false, 0, 17, 0x81, 9, identBlocks ⟨77, 17, 0, 0, 3, 1, 2, 2, 5, 1, 0, 0, 0⟩⟩
/-- A request for IDENT is pending and was sent in epoch `k`. -/
def mgmtDev (k : Nat) : Dev :=
  { netDev .standby with rw := [(R.IKL_MGMT_HDR, word (0x01 * 2 ^ 14))], ikl := { (netDev .standby).ikl with mgmt := { pending := true, sent := some k, tag := 9 } } }
/-- A request with tag 9 ended without a response in this cycle. -/
def lateMgmt : Dev := { netDev .standby with ikl := { (netDev .standby).ikl with mgmt := { result := 3, ended := some (10 * secU), tag := 9 } } }
theorem wit_ManagementRequests : (on (netDev .standby)).dev.bar0Open R.IKL_MGMT_GO 3 = true ∧ (on (netDev .standby)).dev.ikl.mgmt.pending = false ∧
    (on (mgmtDev 3)).dev.bar0Open R.IKL_MGMT_GO 3 = true ∧ (on (mgmtDev 3)).dev.ikl.mgmt.pending = true ∧ parseFrame identAnswer.blocks = some identAnswer ∧
    (on (mgmtDev 3)).dev.ikl.mgmt.sent ≠ none ∧ identAnswer.tag = (on (mgmtDev 3)).dev.ikl.mgmt.tag ∧ (on (mgmtDev 3)).dev.laneOn 0 = true ∧
    0x80 ≤ identAnswer.opcode ∧ (on (mgmtDev 3)).dev.ikl.mgmt.sent = some 3 ∧ 3 + 2 ≤ (on (mgmtDev 3)).dev.tmb.epoch ∧
    identAnswer.tag = lateMgmt.ikl.mgmt.tag ∧ lateMgmt.laneOn 0 = true ∧ lateMgmt.ikl.mgmt.result = 3 ∧ lateMgmt.ikl.mgmt.ended = some lateMgmt.tmb.now := by
  decide +kernel
/-- Discovery runs with one probe, as given, and the port it names. -/
def probeDev (p : Probe) : Dev := { up .standby with ikl := { disc := 1, probes := [p] } }
/-- A probe of depth 1 on lane 0 with its request of tag 9 sent in epoch 3. -/
def probe0 : Probe := { lane := 0, depth := 1, route := 0, sent := some 3, tag := 9 }
/-- The answer to ECHO. -/
def echoAnswer : MFrame := ⟨true, 1, 0, 0x82, 9, []⟩
theorem wit_DiscoveryProbesThePorts : (on (netDev .standby)).dev.bar0Open R.IKL_DISC 3 = true ∧ (on (netDev .standby)).dev.mode = .standby ∧
    (on (netDev .standby)).dev.lanesRun = true ∧ (on (netDev .standby)).dev.laneOn 0 = true ∧ (on (up .config)).dev.bar0Open R.IKL_DISC 3 = true ∧ (on (up .config)).dev.mode ≠ .standby ∧
    (on (up .standby)).dev.scanMode = true ∧ (on (up .standby)).dev.ikl.disc = 0 ∧ (on (up .config)).dev.scanMode = false ∧ (on (up .standby)).dev.abit R.IKL_CTRL 4 = true ∧
    (on (up .standby)).dev.ikl.lastScan + (on (up .standby)).dev.afld R.IKL_SCAN 15 0 * msU ≤ (on (up .standby)).dev.tmb.up ∧
    outstanding (on (probeDev probe0)).dev.ikl.probes 0 1 0 = some probe0 ∧ probe0.answered identAnswer.tag (10 * secU) = true ∧ 3 + 2 ≤ (on (probeDev probe0)).dev.tmb.epoch ∧
    parseFrame identAnswer.blocks = some identAnswer ∧ identAnswer.opcode = 0x81 ∧ (parseIdent identAnswer.data).isSome = true ∧ (on (probeDev probe0)).dev.ikl.disc ≠ 2 ∧
    outstanding (on (probeDev { probe0 with ident := parseIdent identAnswer.data, echoes := 2 })).dev.ikl.probes 0 1 0 =
      some { probe0 with ident := parseIdent identAnswer.data, echoes := 2 } ∧ parseFrame echoAnswer.blocks = some echoAnswer ∧ echoAnswer.opcode = 0x82 ∧
    ({ probe0 with ended := some (10 * secU) } : Probe).answered echoAnswer.tag (10 * secU) = true ∧
    10 * secU - 1 < (on (probeDev { probe0 with ended := some (10 * secU - 1) })).dev.tmb.now := by
  decide +kernel
/-- The node of address 17 is LOST in its ledger. -/
def lostDev : Dev := { netDev .standby with mbe := { arms := { cells := [{ addr := 17, st := 3 }] } :: List.replicate 5 {} } }
theorem wit_NodeTableCommands : (on lostDev).dev.bar0Open R.IKL_NODE_CMD 1 = true ∧ findNode (on lostDev).dev.ikl.nodes (17 % 8192) = some smEnt ∧ smEnt.adm ≠ 0 ∧ smEnt.rel = none ∧
    (on lostDev).dev.readmits (17 % 8192) smEnt = true ∧ (on lostDev).dev.ikl.probes = [] ∧ smEnt.redo = none ∧ (on lostDev).dev.bar0Open R.IKL_OVF_CLEAR 3 = true := by decide +kernel
/-- A submodule node of address 17, admitted on port A with command slot 0. -/
def node17 : Node := { ident := ⟨77, 17, 0, 0, 3, 1, 2, 2, 5, 1, 0, 0, 0⟩
                       lastValid := some 0
                       ports := [{ lock := true, admitted := true, cslot := 0, tc := 240000 }, { lock := true }]
                       down := [{ lock := true, side := some 1 }, {}] }
/-- A wait of the clearing, over at 10 s, with the command `c` of the side that came first. -/
def waitDev (c : Option NodeCmd) : Dev := { up .standby with nodes := [(0, { node17 with waitFor := some ⟨0, 6, 10 * secU, 1, [none, c], false⟩ })] }
/-- A command of the other side. -/
def heldCmd : NodeCmd := ⟨6, 1, {}, 0, 0, false, false, true⟩
/-- A device with node 17 in the model's list of nodes. -/
def nodeDev (x : Node) : Dev := { up .standby with nodes := [(0, x)] }
/-- A command frame of sequence 6 with one slot for node 17, inserted, and PWM entries of 0. -/
def cmdFrame : List Dword :=
  let tab := ((List.range 6).foldl (fun a arm => a * 2 ^ 48 + pwmEntry 6 arm 0 0) 0 * 2 ^ 32) + (1 * 2 ^ 23) + crc16Bits (bitsMsb 16 6 ++ bitsMsb 16 (1 * 2 ^ 7))
  cmdHeader 6 1 :: (List.range 5).map (fun i => BitVec.ofNat 64 (tab / 2 ^ (64 * (4 - i)))) ++ [BitVec.ofNat 64 (slotBits 17 6 ⟨1, 2, 1, 2, false⟩ true false * 2 ^ 37)]
theorem wit_NodesReceiveAndAct : blockType (syncBlock 6 1 0) = 0x2D ∧ crcOk (syncBlock 6 1 0) = true ∧ ¬(blockType 0 = 0x2D ∧ crcOk 0 = true) ∧
    (((on (nodeDev node17)).dev.node 0).port 0).admitted = true ∧ ((on (nodeDev node17)).dev.node 0).sm = true ∧
    ((readFrame 17 0 0 cmdFrame).any (fun c => c.claim != 0)) = true ∧ (((on (nodeDev node17)).dev.node 0).port 0).eblk = false ∧
    (((on (nodeDev node17)).dev.node 0).port 0).pending = none ∧ blockType (eblkBlock 6 1) = 0x33 ∧ crcOk (eblkBlock 6 1) = true ∧
    (((on (nodeDev node17)).dev.node 0).port 0).lock = true ∧ (((on (nodeDev node17)).dev.node 0).port 1).lock = true ∧
    (((on (nodeDev { node17 with ports := [{}, {}] })).dev.node 0).port 1).lock = false ∧
    1 < ((on (nodeDev node17)).dev.node 0).ports.length ∧ (((on (nodeDev node17)).dev.node 0).port 1).current = none ∧
    ((on (nodeDev { node17 with follows := true })).dev.node 0).follows = true ∧ ((on (nodeDev { node17 with follows := true })).dev.node 0).src = 0 ∧
    blockType (fltBlock 1) = 0x66 ∧ crcOk (fltBlock 1) = true ∧ ((on (nodeDev node17)).dev.node 0).admitted = true ∧ ((on (nodeDev node17)).dev.node 0).lastValid = some 0 ∧
    0 + 2 * 240000 * rootU + 250 * nsU ≤ (on (nodeDev node17)).dev.tmb.up ∧
    ((on (nodeDev node17)).dev.node 0).fault = false ∧ ((on (nodeDev node17)).dev.node 0).ident.arm ≤ 5 := by decide +kernel
theorem wit_NodesReceiveAndAct_downstream : 0 < ((on (nodeDev node17)).dev.node 0).ident.downs ∧
    ((on (nodeDev node17)).dev.node 0).down[0]? = some ({ lock := true, side := some 1 } : DownPort) ∧ blockType (idleBlock 1) = 0x1E ∧
    (∀ z ∈ (((on (nodeDev node17)).dev.node 0).port 1).line, z.1 ≠ 511) ∧ (nth ((on (nodeDev node17)).dev.node 0).down 1 {}).lock = false ∧
    ((on (nodeDev node17)).dev.node 0).ident.downs ≤ 1 ∧ blockType (fltBlock 1 ^^^ 1) = 0x66 ∧ crcOk (fltBlock 1 ^^^ 1) = false ∧
    ((on (waitDev none)).dev.node 0).waitFor.isSome = true ∧ (((on (waitDev none)).dev.node 0).waitFor.map (fun w => (decide (w.till ≤ (on (waitDev none)).dev.tmb.up), nth w.cmds w.first none))) = some (true, none) ∧
    (((on (waitDev (some heldCmd))).dev.node 0).waitFor.map (fun w => nth w.cmds w.first none)) = some (some heldCmd) ∧ ((on (nodeDev node17)).dev.node 0).waitFor = none ∧
    ((on (nodeDev node17)).dev.node 0).locked 2 = true := by decide +kernel
/-- A request to a node with an opcode. -/
def req (op : Nat) : MFrame := ⟨false, 0, 17, op, 9, [0, 0x0088000000000000]⟩
theorem wit_NodesAnswerRequests : consumes ((on (nodeDev node17)).dev.node 0).ident.addr (req 1) = true ∧ (req 1).data ≠ [] ∧ parseFrame (req 0x01).blocks = some (req 0x01) ∧
    parseFrame (req 0x02).blocks = some (req 0x02) ∧ parseFrame (req 0x03).blocks = some (req 0x03) ∧ parseFrame (req 0x04).blocks = some (req 0x04) ∧
    parseFrame (req 0x05).blocks = some (req 0x05) ∧ parseFrame (req 0x06).blocks = some (req 0x06) ∧
    parseFrame ({ req 0x08 with amode := true } : MFrame).blocks = some { req 0x08 with amode := true } ∧
    consumes ((on (nodeDev node17)).dev.node 0).ident.addr { req 0x08 with amode := true } = true ∧ parseFrame (req 0x7F).blocks = some (req 0x7F) ∧
    (((on (nodeDev node17)).dev.node 0).port 1).lock = true ∧ parseFrame [] = none ∧ parseFrame ({ req 0x01 with target := 18 } : MFrame).blocks = some { req 0x01 with target := 18 } ∧
    consumes ((on (nodeDev node17)).dev.node 0).ident.addr { req 0x01 with target := 18 } = false ∧ ({ req 0x08 with amode := true } : MFrame).depth = 0 ∧
    ((on (nodeDev { node17 with ports := [{}, { lock := true }] })).dev.node 0).admitted = false ∧ 2 ≤ (req 0x7F).data.length := by decide +kernel
theorem wit_NodeCommandsChangeTheirNode : Instr.nodeCellFailure 0 ∈ [Instr.nodeSync 0 0 0, .nodeCellFailure 0] ∧ ∃ t, exec (.nodeCellFailure 0) (on (nodeDev node17)) = .next t :=
  ⟨by decide, _, rfl⟩

-- Redundant pairs, the root clock, station time --------------------------------------------------------------------------

/-- A run over bits keeps below a bound that each step keeps. -/
theorem foldl_lt {α : Type} (f : Nat → α → Nat) (B : Nat) (h : ∀ r a, r < B → f r a < B) (l : List α) : ∀ r, r < B → l.foldl f r < B := by
  induction l with
  | nil => intro r hr; exact hr
  | cons a l ih => intro r hr; exact ih _ (h r a hr)
/-- A CRC-32C has 32 bits. -/
theorem crc32c_lt (bs : List Nat) : crc32c bs < 2 ^ 32 := by
  unfold crc32c crcBytesR
  refine Nat.xor_lt_two_pow (foldl_lt _ _ (fun r a hr => foldl_lt _ _ (fun r b hr => ?_) _ r hr) _ _ (by decide)) (by decide)
  simp only [crcShiftR]
  split
  · exact Nat.xor_lt_two_pow (by omega) (by decide)
  · omega
/-- A run made of a header, 326 body blocks and a trailer that holds their CRC is complete. -/
theorem escrowComplete_built (h : Dword) (b : List Dword) (hl : b.length = 326) (ht : blockType h = 0x87) (hc : crcOk h = true) :
    escrowComplete ((2, h) :: (b ++ [BitVec.ofNat 64 (escrowCrc h b * 2 ^ 32)]).map (fun x => (1, x))) = true := by
  have hb : escrowCrc h b < 2 ^ 32 := crc32c_lt _
  have e1 : ((b ++ [BitVec.ofNat 64 (escrowCrc h b * 2 ^ 32)]).map (fun x => ((1 : Nat), x))).map (fun (x : Nat × Dword) => x.2) = b ++ [BitVec.ofNat 64 (escrowCrc h b * 2 ^ 32)] := by
    rw [List.map_map]; exact List.map_id' _
  have e2 : nth (b ++ [BitVec.ofNat 64 (escrowCrc h b * 2 ^ 32)]) 326 0 = BitVec.ofNat 64 (escrowCrc h b * 2 ^ 32) := by simp [nth, ← hl]
  have e3 : (b ++ [BitVec.ofNat 64 (escrowCrc h b * 2 ^ 32)]).take 326 = b := by rw [← hl]; simp
  have e4 : (BitVec.ofNat 64 (escrowCrc h b * 2 ^ 32)).toNat / 2 ^ 32 = escrowCrc h b := by rw [BitVec.toNat_ofNat, Nat.mod_eq_of_lt (by omega)]; omega
  simp only [escrowComplete, e1, e2, e3, e4, ht, hc]
  simp [hl]
/-- The header of an escrow run of epoch `k`. -/
def escHead (k : Nat) : Dword := withCrc (put 47 40 0x87 + put 39 24 k + put 7 0 1)
/-- The body of an escrow run of epoch `k` with the device's period, everything else 0. -/
def escBody (k : Nat) : List Dword := [BitVec.ofNat 64 k, BitVec.ofNat 64 (put 63 47 (up .gfGrid).cycles)] ++ List.replicate 324 0
/-- The run. -/
def escRun (k : Nat) : List (Nat × Dword) := (2, escHead k) :: (escBody k ++ [BitVec.ofNat 64 (escrowCrc (escHead k) (escBody k) * 2 ^ 32)]).map (fun x => (1, x))
theorem wit_PairBlocks : (on (pairDev .gfGrid 0x30800001)).dev.pairEn = true ∧ (on (pairDev .gfGrid 0x30800001)).dev.mirOk 0 = true ∧
    (on (pairDev .gfGrid 0x30800001)).dev.mirOk 1 = true ∧ blockType (pairBlockOf 5 9 1 6 2) = 0x99 ∧ crcOk (pairBlockOf 5 9 1 6 2) = true ∧
    bfld (pairBlockOf 5 9 1 6 2) 55 40 = (on (pairDev .gfGrid 0x30800001)).dev.tmb.epoch % 65536 ∧ ¬(blockType 0 = 0x99 ∧ crcOk 0 = true) ∧
    (on (pairDev .gfGrid 0x30800001)).dev.rdn.unitConflict = false ∧ (on (pairDev .gfGrid 0x30800001)).dev.rdn.escGot = false ∧ escrowComplete [] = false ∧
    (on (pairDev .gfGrid 0x30800001)).dev.rdn.escTorn = false ∧ (on (up .gfGrid)).dev.tmb.running = true ∧ (on (up .gfGrid)).dev.rdn.cutPassed = false := by decide +kernel
theorem wit_EscrowIsChecked : escrowComplete (escRun 4) = true ∧ (readEscrow ((escRun 4).map (fun x => x.2))).epoch + 1 = (on (pairDev .gfGrid 0x30800001)).dev.tmb.epoch ∧
    (readEscrow ((escRun 4).map (fun x => x.2))).tc = (on (pairDev .gfGrid 0x30800001)).dev.cycles ∧
    (readEscrow ((escRun 4).map (fun x => x.2))).origin * secU = (on (pairDev .gfGrid 0x30800001)).dev.origin :=
  ⟨escrowComplete_built (escHead 4) (escBody 4) (by rw [escBody, List.length_append, List.length_replicate]; rfl) (by decide +kernel) (by decide +kernel), by decide +kernel, by decide +kernel, by decide +kernel⟩
/-- A pair's unit in a state. -/
def rdnDev (r : Rdn) : Dev := { pairDev .gfGrid 0x30800001 with rdn := r }
theorem wit_PairTimersTakeEffect : (on (rdnDev { role := 2, state := 2, staleRun := 255 })).dev.pairEn = true ∧ (on (rdnDev { role := 2, state := 2, staleRun := 255 })).dev.mode.energized = true ∧
    (on (rdnDev {})).dev.afld R.RDN_HOLD 7 0 ≤ 255 ∧ (on (rdnDev {})).dev.afld R.RDN_JOIN 15 0 ≤ 65535 ∧
    0 + (on (rdnDev {})).dev.afld R.RDN_JOIN 31 16 * msU ≤ (on { rdnDev { joinAt := some 0 } with tmb := { up := 70 * secU } }).dev.tmb.up ∧
    0 + (on (rdnDev {})).dev.afld R.RDN_HOLD 31 16 * msU ≤ (on { rdnDev { state := 4 } with tmb := { up := 70 * secU } }).dev.tmb.up ∧
    ({ rdnDev { c3At := some 0, overrunAt := some 0 } with tmb := { up := 70 * secU } } : Dev).held (some 0) = false := by decide +kernel
/-- A device with a clock as given. -/
def clkDev (c : Clk) : Dev := { withRegs .gfGrid [(R.CLK_PLL_CFG, 0x1000)] with clk := c }
theorem wit_ClockFollowsTheReference : (on (clkDev { lock := true })).dev.clk.lock = true ∧ (on (clkDev { lock := true })).dev.unpowered = false ∧
    (on (clkDev { refOk := true })).dev.unpowered = false ∧
    (on (clkDev { refOk := true })).dev.domOn 2 = true ∧ (on (clkDev { refOk := true })).dev.clk.refOk = true ∧ (on (clkDev { refOk := true })).dev.clk.lock = false ∧
    2 < (on (clkDev { refOk := true })).dev.boot.step ∧
    (on { clkDev { refOk := true } with boot := { step := 2 } }).dev.boot.selfTestGood = false ∧ 1000 ≤ (on (clkDev { alignRun := 1000 })).dev.clk.alignRun ∧
    (on (clkDev { alignRun := 999 })).dev.clk.alignRun < 1000 ∧ (on (clkDev {})).dev.abit R.CLK_PLL_CFG 12 = true ∧
    (163 : Rat) / 100 < rabs ((on (clkDev { lock := true, errs := [16777216000] })).dev.clk.err * 1250 / 3) ∧
    (on (clkDev { lock := true, lastStep := some (10 * secU - 1) })).dev.tmb.up - (10 * secU - 1) < 256 * rootU ∧
    256 * rootU ≤ (on (clkDev { lock := true, lastStep := some 0 })).dev.tmb.up - 0 := by decide +kernel
theorem wit_TimeAdjustmentsWait : (on (up .gfGrid)).dev.bar0Open R.TMB_ADJ_GO 1 = true ∧ (on (up .config)).dev.mode = .config ∧ (on (up .gfGrid)).dev.mode ≠ .config ∧
    (on (up .gfGrid)).dev.mode ≠ .standby ∧ (on (up .gfGrid)).dev.mode ≠ .service ∧ (on low).dev.bar0Refused R.TMB_ADJ_GO 1 = true ∧ (on (up .gfGrid)).dev.bar0Open R.TMB_CAP 3 = true ∧
    (on { up .gfGrid with ptp := { rem := 1 } }).dev.slew1 = (on { up .gfGrid with ptp := { rem := 1 } }).dev.ptp.rem ∧
    (on (early .gfGrid)).dev.bar0Open R.TMB_ADJ_GO 1 = true ∧ (on (early .gfGrid)).dev.afterEpoch = false ∧
    (∀ r ∈ (on (early .gfGrid)).dev.tmb.reqs, r.joint = false) ∧
    2748779069 < signed 40 (({ up .gfGrid with rw := [(R.TMB_ADJ_TRIM_HI, 1)] } : Dev).rwv R.TMB_ADJ_TRIM_LO |>.toNat) + 2 ^ 32 := by decide +kernel
/-- Domain 0 on port 0, peer delay on port 0; the states of the domains and of port 0 as given. -/
def ptpDev (x : Dom) (p : Pdel) : Dev :=
  { withRegs .gfGrid [(R.PTP_DOMx_CFG 0, 1), (R.PTP_CTRL, 0x101)] with ptp := { doms := [x, {}], ports := p :: List.replicate 3 {} } }
/-- A message of domain 0 on port 0 with sequence 9. -/
def ptpMsg (two : Bool) : PtpMsg := ⟨⟨0, 11, true, List.replicate 14 0⟩, 0, 9, 0, two, 10, 5⟩
theorem wit_PtpMessagesAreUsed : (on (ptpDev {} {})).dev.takes (ptpMsg true) 0 = true ∧ (on (ptpDev {} {})).dev.takes (ptpMsg true) 1 = false ∧ (ptpMsg true).twoStep = true ∧
    (on (ptpDev {} {})).dev.takes (ptpMsg false) 0 = true ∧ (on (ptpDev {} {})).dev.takes (ptpMsg false) 1 = false ∧ (ptpMsg false).twoStep = false ∧
    ((on (ptpDev { wait := some ⟨9, 0, 0⟩ } {})).dev.dom 0).wait = some ⟨9, 0, 0⟩ ∧ ((on (ptpDev {} {})).dev.dom 1).wait = none ∧ (on (ptpDev {} {})).dev.domEn 0 = true ∧
    ((on (ptpDev { st := 2 } {})).dev.dom 0).st = 2 ∧ ((on (ptpDev { st := 2 } {})).dev.dom 0).lastSync + ((on (ptpDev {} {})).dev.act (R.PTP_DOMx_SYNC_TO 0)).toNat * msU ≤ 10 * secU ∧
    (on (ptpDev { st := 3 } {})).dev.bar0Open (R.PTP_DOMx_CMD 0) 1 = true ∧ ((on (ptpDev { st := 3 } {})).dev.dom 0).st = 3 ∧ (on (ptpDev {} {})).dev.p2p 0 = true ∧
    ((on (ptpDev {} {})).dev.pdel 0).nextReq ≤ (on (ptpDev {} {})).dev.tmb.up ∧ (ptpMsg true).eth.good = true ∧ ((on (ptpDev {} { seq := 9, t1 := some 1, t2 := some 2 })).dev.pdel 0).t1 = some 1 ∧
    ((on (ptpDev {} { seq := 9, gaveUp := some (10 * secU, 1) })).dev.pdel 0).t1 = none ∧
    ((on (ptpDev {} { seq := 9, gaveUp := some (10 * secU, 1) })).dev.pdel 0).gaveUp = some ((on (ptpDev {} {})).dev.tmb.up, 1) ∧
    ((on (ptpDev {} { seq := 9, t1 := some 1, t2 := some 2 })).dev.pdel 0).t2 = some 2 ∧ ((on (ptpDev {} { seq := 9, t1 := some 1 })).dev.pdel 0).seq = (ptpMsg true).seq ∧
    (on (ptpDev {} {})).dev.afld (R.PTP_DOMx_CFG 0) 17 16 = (ptpMsg true).eth.port := by decide +kernel

/-- A multicast frame on port 0. -/
def frame0 (good : Bool) : EthFrame := ⟨0, 11, good, 1 :: List.replicate 63 0⟩
/-- Port 0's frames go to queue 0. -/
def ethDev (b : List EthReq) : Dev := { withRegs .gfGrid [(R.PCI_ETH_CFG, 0x80)] with pci := { rxbufs := b, txq := b } }
theorem wit_FramesAndImmediateRequests : (on (ethDev [])).dev.domOn 6 = true ∧ (frame0 false).good = false ∧ nth (frame0 true).bytes 0 0 % 2 = 1 ∧ (frame0 true).bytes.length ≤ 2040 ∧
    (on (ethDev [])).dev.abit R.PCI_ETH_CFG (8 * 0 + 7) = true ∧ (on (ethDev [])).dev.pci.rxbufs = [] ∧
    (on (ethDev [⟨⟨0, 0, 7, 11⟩, 0, 2048⟩])).dev.pci.rxbufs.find? (fun x => x.port == 0) = some ⟨⟨0, 0, 7, 11⟩, 0, 2048⟩ ∧
    (on (ethDev [⟨⟨0, 0, 7, 11⟩, 0, 2048⟩])).dev.pci.txq.find? (fun x => x.port == 0) = some ⟨⟨0, 0, 7, 11⟩, 0, 2048⟩ ∧
    (on (fetching .gfGrid 0)).dev.takesEntry 0 Op.nop (ent []) = true ∧ 0 < (on (fetching .gfGrid 0)).dev.pci.queues.length ∧
    (on (fetching .gfGrid 0)).dev.takesEntry 0 Op.regRead (ent [1, word R.GFE_P0]) = true ∧
    (∀ i, i < sqF (ent [1, word R.GFE_P0]) 1 3 0 → sqF (ent [1, word R.GFE_P0]) (2 + i) 23 0 % 4 = 0 ∧
      (on (fetching .gfGrid 0)).dev.regionAdmits ((on (fetching .gfGrid 0)).dev.level (some 0)) (sqF (ent [1, word R.GFE_P0]) (2 + i) 23 0) false = true) := by decide
/-- Entry 15 in state `st` with an action word, due at second `t`. -/
def schedDev (st : Nat) (act : Word) (t : Nat) : Dev :=
  { withRegs .gfGrid [(R.TMB_TTn_CFG 7, 2)] with
    rw := [(R.TMB_SCHEDe_ACT 15, act), (R.TMB_SCHEDe_SEC_LO 15, word t), (R.TMB_SCHEDe_VALUE 15, 1000)]
    tmb := { (up .gfGrid).tmb with sched := List.replicate 15 {} ++ [{ st := st }] } }
theorem wit_ScheduledActionsAndPulses : 15 < (on (schedDev 0 0x10000000 20)).dev.tmb.sched.length ∧
    (on (schedDev 0 0x10000000 20)).dev.bar0Open R.TMB_SCHED_CMD ((on (schedDev 0 0x10000000 20)).dev.schedLevel ((on (schedDev 0 0x10000000 20)).dev.schedKind 15)
      ((on (schedDev 0 0x10000000 20)).dev.schedTarget 15)) = true ∧ ((on (schedDev 0 0x10000000 20)).dev.sched 15).st ≠ 1 ∧ (on (schedDev 0 0x10000000 20)).dev.armCode 15 = 0 ∧
    (on (schedDev 0 0 20)).dev.armCode 15 ≠ 0 ∧ (on (schedDev 0 0x40000007 9)).dev.armCode 15 = 0 ∧ (on (schedDev 0 0x40000007 9)).dev.schedKind 15 = 4 ∧
    (on (schedDev 0 0x40000007 9)).dev.schedT 15 < (on (schedDev 0 0x40000007 9)).dev.tmb.now + 100 * nsU ∧ (on (schedDev 0 0x40000007 9)).dev.schedTarget 15 < 8 ∧
    ¬((on (schedDev 0 0x40000007 11)).dev.schedKind 15 = 4 ∧ (on (schedDev 0 0x40000007 11)).dev.schedT 15 < (on (schedDev 0 0x40000007 11)).dev.tmb.now + 100 * nsU) ∧
    ((on (schedDev 1 0x10000000 20)).dev.sched 15).st = 1 ∧
    (on (schedDev 1 0x10000000 20)).dev.bar0Open R.TMB_SCHED_CMD ((on (schedDev 1 0x10000000 20)).dev.schedLevel ((on (schedDev 1 0x10000000 20)).dev.schedKind 15)
      ((on (schedDev 1 0x10000000 20)).dev.schedTarget 15)) = true ∧ (on (schedDev 1 0x40000007 9)).dev.ttMode 7 = 2 ∧
    (List.range 16).find? (fun i => ((on (schedDev 1 0x40000007 9)).dev.sched i).st == 1 && (on (schedDev 1 0x40000007 9)).dev.schedKind i == 4 &&
      (on (schedDev 1 0x40000007 9)).dev.schedTarget i == 7 && decide ((on (schedDev 1 0x40000007 9)).dev.schedT i ≤ (on (schedDev 1 0x40000007 9)).dev.tmb.now)) = some 15 ∧
    (withRegs .gfGrid [(R.TMB_TTn_CFG 0, 1)]).ttMode 0 = 1 ∧ (({ tmb := { now := 9, tt := { next := some 9 } :: List.replicate 7 {} } } : Dev).tt 0).next = some 9 := by
  decide +kernel

-- Direct drive -----------------------------------------------------------------------------------------------------------

/-- Pair 11 as given, with its configuration. -/
def ddpDev (p : Pair) (cfg : Word) : Dev := { withRegs .gfGrid [(R.DDP_PAIRn_CFG 11, cfg), (R.DDP_HOST, 0x08000800)] with ddp := { pairs := List.replicate 11 {} ++ [p] } }
theorem wit_DrivePairsTripAndInterlock : 11 < (on (ddpDev { st := 2 } 0x50110500)).dev.ddp.pairs.length ∧ ((on (ddpDev { st := 2 } 0x50110500)).dev.pair 11).st = 2 ∧
    ((on (ddpDev { st := 1 } 0x50110500)).dev.pair 11).st ≠ 2 ∧ ((on (ddpDev { st := 2 } 0x50110500)).dev.pair 11).hoc = false ∧
    false = bit ((on (ddpDev { st := 2 } 0x50110500)).dev.pairCfg 11) 25 ∧ fld ((on (ddpDev { st := 2 } 0x50110500)).dev.pairCfg 11) 29 28 ≠ 2 ∧
    ((on (ddpDev { st := 2, h := true, ds := true, dsFrom := some 0 } 0x50110500)).dev.pair 11).desatDue ((on (ddpDev {} 0x50110500)).dev.pairCfg 11) (10 * secU) = true ∧
    ((on (ddpDev { blankEnd := some 9 } 0x50110500)).dev.pair 11).blankEnd = some 9 ∧ 9 ≤ (on (ddpDev {} 0)).dev.tmb.up ∧
    ((on (ddpDev { st := 2 } 0x50110500)).dev.pair 11).desatDue ((on (ddpDev {} 0x50110500)).dev.pairCfg 11) (10 * secU) = false ∧ (on (ddpDev { st := 2 } 0x50110500)).dev.ddHeld = false ∧
    (on (ddpDev { st := 2 } 0x50110500)).dev.forced 11 = false ∧ ((on (ddpDev { st := 2 } 0x50110500)).dev.pair 11).hocOn ((on (ddpDev { st := 2 } 0x50110500)).dev.pairCfg 11) = false ∧ fld ((on (ddpDev { st := 2 } 0x60110500)).dev.pairCfg 11) 29 28 = 2 ∧
    ((on (ddpDev { st := 2 } 0x60110500)).dev.pairCmd 11).1 = true ∧ ((on (ddpDev { st := 2 } 0x60110500)).dev.pairCmd 11).2 = true ∧
    ¬(((on (ddpDev { st := 2 } 0x50110500)).dev.pair 11).h = true ∧ ((on (ddpDev { st := 2 } 0x50110500)).dev.pair 11).l = true) := by decide
theorem wit_DriveUnitEventsTakeEffect : (on { up .gfGrid with ddp := { chop := true, chopEnd := some 1 } }).dev.ddp.chopEnd = some 1 ∧ 1 ≤ (on (up .gfGrid)).dev.tmb.up ∧
    (on (up .gfGrid)).dev.ddp.uvlo = false ∧ ((on (ddpDev { test := some ⟨0, 0, 1, 0⟩ } 0)).dev.pair 11).test = some ⟨0, 0, 1, 0⟩ ∧
    ((on (ddpDev { test := some ⟨0, 1, 1, 0⟩ } 0)).dev.pair 11).test = some ⟨0, 1, 1, 0⟩ ∧ ((on (ddpDev { test := some ⟨1, 1, 1, 0⟩ } 0)).dev.pair 11).test = some ⟨1, 1, 1, 0⟩ ∧
    (on (up .config)).dev.bar0Open R.DDP_CMD 1 = true := by decide

-- The recorder and the host interface ------------------------------------------------------------------------------------

/-- A device that fetches from queue 0, with a closed segment 3. -/
def recDev : Dev := { fetching .gfGrid 0 with recd := { segs := [(3, 9)] } }
theorem wit_RecorderRequestsWait : (on (up .gfGrid)).dev.bar0Open R.REC_CMD 2 = true ∧ (on (up .gfGrid)).dev.bar0Open R.REC_CMD 1 = true ∧
    (on { up .gfGrid with recd := { hostT := some (1, ⟨0, 0, 7, 9⟩) } }).dev.recd.hostT = some (1, ⟨0, 0, 7, 9⟩) ∧ 1 ≤ (on (up .gfGrid)).dev.tmb.now ∧
    (on recDev).dev.takesEntry 0 Op.recTrig (ent [0, 11]) = true ∧ (on recDev).dev.level (some 0) ≤ 2 ∧ (on recDev).dev.domOn 11 = true ∧
    (on recDev).dev.tmb.now < sqT (ent [0, 11]) 2 ∧ (on recDev).dev.takesEntry 0 Op.recTrig (ent [0, 9]) = true ∧ sqT (ent [0, 9]) 2 ≤ (on recDev).dev.tmb.now ∧
    (on recDev).dev.takesEntry 0 Op.recXfer (ent [3, 0, 64]) = true ∧ (on recDev).dev.regionAdmits ((on recDev).dev.level (some 0)) 0xC00000 false = true ∧
    (on recDev).dev.recd.segs.find? (fun x => x.1 == sqF (ent [3, 0, 64]) 1 12 0) = some (3, 9) ∧ (sqW (ent [3, 0, 64]) 2).toNat % 4 = 0 ∧ (sqW (ent [3, 0, 64]) 3).toNat % 4 = 0 ∧
    (sqW (ent [3, 0, 64]) 2).toNat + (sqW (ent [3, 0, 64]) 3).toNat ≤ (on recDev).dev.segSize ∧
    (on { recDev with pci := { xfers := [⟨⟨0, 0, 7, 8⟩, 3, 0, 64, 9, false⟩] } }).dev.pci.xfers.find? (fun x => x.ref.q == 0) = some ⟨⟨0, 0, 7, 8⟩, 3, 0, 64, 9, false⟩ := by decide
theorem wit_DoorbellsAreChecked : (on (fetching .gfGrid 0)).dev.unpowered = false ∧ ((on (fetching .gfGrid 0)).dev.queue 0).st = 1 ∧ ((on (fetching .gfGrid 0)).dev.queue 31).st ≠ 1 ∧
    (on (fetching .gfGrid 0)).dev.sqSize 0 ≤ 16 ∧ 15 < (on (fetching .gfGrid 0)).dev.sqSize 0 ∧ (on (fetching .gfGrid 0)).dev.cqSize 0 ≤ 16 ∧ 15 < (on (fetching .gfGrid 0)).dev.cqSize 0 ∧
    ((on (fetching .gfGrid 0)).dev.queue 0).cqTail + (on (fetching .gfGrid 0)).dev.cqSize 0 - 0 = 16 ∧ 16 % 16 ≤ ((on (fetching .gfGrid 0)).dev.queue 0).slots.length := by decide
/-- Queue 31 has one record to signal, since time 0, with a coalescing time of 10 µs. -/
def coalDev : Dev := { withRegs .gfGrid [(R.PCI_Qq_COAL 31, 0x000A0002)] with pci := { queues := List.replicate 31 {} ++ [{ st := 1, unsig := 1, firstUnsig := some 0 }], msixPending := 2 ^ 63 } }
theorem wit_LinkAndInterrupts : 31 < (on coalDev).dev.pci.queues.length ∧ ((on coalDev).dev.queue 31).st = 1 ∧ ((on coalDev).dev.queue 31).firstUnsig = some 0 ∧
    (on coalDev).dev.afld (R.PCI_Qq_COAL 31) 31 16 ≠ 0 ∧ ((on coalDev).dev.queue 31).unsig ≠ 0 ∧ 0 + (on coalDev).dev.afld (R.PCI_Qq_COAL 31) 31 16 * usU ≤ (on coalDev).dev.tmb.up ∧
    (on coalDev).dev.unpowered = false ∧ 255 % 4 = 3 ∧ bit 0 0 = false ∧ (on coalDev).dev.pci.msixPending.testBit (255 / 4) = true ∧ ¬(254 % 4 = 3) := by decide
theorem wit_DescriptorRequestsWait : (on (fetching .config 0)).dev.takesEntry 0 Op.commit (ent [1, 5]) = true ∧ bit (sqW (ent [1, 5]) 1) 1 = false ∧
    (on (fetching .config 0)).dev.takesEntry 0 Op.commit (ent [2]) = true ∧ bit (sqW (ent [2]) 1) 1 = true ∧ (on (fetching .config 0)).dev.level (some 0) ≤ 0 ∧
    (on (fetching .config 0)).dev.takesEntry 0 Op.mode (ent [2]) = true ∧ (on (fetching .config 0)).dev.takesEntry 0 Op.sched (ent [0x1000000F, 20, 0, 0, 0x10000000]) = true ∧
    sqF (ent [0x1000000F, 20, 0, 0, 0x10000000]) 1 31 28 = 1 ∧ ((on (fetching .config 0)).dev.sched 15).st ≠ 1 ∧
    (((on (fetching .config 0)).dev.fetched 0).schedFill 15 (ent [0x1000000F, 20, 0, 0, 0x10000000])).armCode 15 = 0 ∧
    (((on (fetching .config 0)).dev.fetched 0).schedFill 15 (ent [0x1000000F, 20, 0, 0, 0])).armCode 15 ≠ 0 ∧
    (on (fetching .config 0)).dev.takesEntry 0 Op.sched (ent [0x2000000F]) = true ∧ sqF (ent [0x2000000F]) 1 31 28 = 2 ∧
    (on (fetching .config 0)).dev.takesEntry 0 Op.timeAdj (ent [1, 5]) = true ∧ bit (sqW (ent [1, 5]) 1) 0 = true ∧ bit (sqW (ent [1, 5]) 1) 1 = false ∧
    signed 40 ((sqW (ent [1, 5]) 2).toNat + sqF (ent [1, 5]) 3 7 0 * 2 ^ 32) = 5 ∧ (on (fetching .config 0)).dev.takesEntry 0 Op.timeAdj (ent [2, 0, 0, 1]) = true ∧
    bit (sqW (ent [2, 0, 0, 1]) 1) 1 = true ∧ (on (fetching .config 0)).dev.mode = .config ∧ (on (fetching .config 0)).dev.takesEntry 0 Op.trip (ent [2]) = true ∧
    (on (fetching .config 0)).dev.takesEntry 0 Op.trip (ent [3]) = true ∧ (on (fetching .config 0)).dev.takesEntry 0 Op.ethTx (ent [0x003C0003]) = true ∧
    (on (fetching .config 0)).dev.domOn 6 = true ∧ 60 ≤ sqF (ent [0x003C0003]) 1 27 16 ∧ sqF (ent [0x003C0003]) 1 27 16 ≤ 2040 ∧
    (on (fetching .config 0)).dev.takesEntry 0 Op.ethRxbuf (ent [3]) = true ∧
    (on (fetching .config 0)).dev.afld R.PCI_ETH_CFG (8 * sqF (ent [3]) 1 1 0 + 4) (8 * sqF (ent [3]) 1 1 0) = 0 := by decide +kernel
theorem wit_DescriptorRequests_pending :
    ((on { fetching .config 0 with tmb := { (up .config).tmb with sched := List.replicate 15 {} ++ [{ st := 1 }] } }).dev.sched (sqF (ent [0x2000000F]) 1 3 0)).st = 1 := by decide
theorem wit_MalformedEntriesAreNotApplied : (on (fetching .config 0)).dev.canFetch 0 (sqFence (ent [8])) = true ∧ sqReserved Op.mode (ent [16]) = true ∧
    sqCountBad Op.regStage (ent [0]) = true ∧ sqCountBad Op.regRead (ent [9]) = true ∧ sqAddrBad Op.recXfer (ent [0, 0, 4, 2]) = true ∧ 12 ≤ fld (0x0007000C : Word) 7 0 ∧
    (1 : Nat) < (on (fetching .config 0)).dev.sqSize 0 ∧ ((on (fetching .config 0)).dev.queue 0).st = 1 ∧
    ((on (fetching .config 0)).dev.setQueue 0 { (on (fetching .config 0)).dev.queue 0 with sqTail := 1 }).canFetch 0 (bit (0x0007000C : Word) 8) = true := by decide

-- The vault, the tally unit, the registers and the debug ports -----------------------------------------------------------

/-- A vault in a state, in a mode. -/
def vltDev (m : Mode) (v : Vlt) : Dev := { up m with vlt := v }
theorem wit_VaultCommandsAreAdmittedAndRun : (on (vltDev .config { running := some 1 })).dev.hostUp = true ∧ (on (vltDev .config {})).dev.bootHidden R.VLT_CMD = false ∧
    (on (vltDev .config { running := some 1 })).dev.vlt.running.isSome = true ∧ 2 < (on low).dev.level none ∧ (on low).dev.vlt.running = none ∧
    (on (vltDev .standby {})).dev.vaultOpen 2 = true ∧ ((on (vltDev .standby {})).dev.mode == .config) = false ∧ (on (vltDev .config { ownerSet := true })).dev.vaultOpen 0 = true ∧
    (on (vltDev .config { st := 1, ownerSet := true, cfgVerified := true })).dev.vaultOpen 0 = true ∧ (on (vltDev .config {})).dev.vlt.st = 0 ∧
    nth (on (vltDev .config {})).dev.vlt.ctrs 15 0 < 0xFFFFFFFF ∧ 0xFFFFFFFF ≤ nth ({ ctrs := List.replicate 15 0 ++ [0xFFFFFFFF] } : Vlt).ctrs 15 0 ∧
    (on (vltDev .gfGrid { st := 1 })).dev.vaultOpen 2 = true ∧ (on (vltDev .gfGrid { attest := 2 })).dev.vlt.attest = 2 ∧ (on (vltDev .service {})).dev.vaultOpen 0 = true ∧
    (on (vltDev .service {})).dev.vlt.svcPolicy = 0 ∧ (on (vltDev .service {})).dev.vlt.unlockFails < 3 ∧ (on (vltDev .service { challenge := [1], challengeEnd := 9 })).dev.vlt.challenge ≠ [] ∧
    9 ≤ (on (vltDev .service {})).dev.tmb.up ∧ (on (vltDev .service {})).dev.tmb.up < 11 * secU ∧ (on (vltDev .service { challenge := [1] })).dev.vaultOpen 0 = true ∧
    (on (vltDev .service { running := some 8, marker := true })).dev.vlt.running = some 8 ∧ (8 : Nat) ≠ 5 ∧ (8 : Nat) ≠ 6 := by decide
/-- Job 7 in a state. -/
def jobDev (x : Job) : Dev := { withRegs .gfGrid [(R.TLY_JOBj_CFG 7, 0x83100001), (R.TLY_JOBj_LEN 7, 4)] with jobs := List.replicate 7 {} ++ [x] }
theorem wit_ScanPassesRunAndEnd : 7 < (on (jobDev { dueAt := some 9 })).dev.jobs.length ∧ ((on (jobDev { dueAt := some 9 })).dev.job 7).dueAt = some 9 ∧ 9 ≤ (on (jobDev {})).dev.tmb.up ∧
    (on (jobDev {})).dev.thm.throttle = false ∧ ((on (jobDev {})).dev.job 7).st = 0 ∧ ((on (jobDev { st := 2, dueAt := some 9 })).dev.job 7).st ≠ 0 ∧
    ((on (jobDev { st := 2 })).dev.job 7).st = 2 ∧ ((on (jobDev { st := 2 })).dev.job 7).restart = false ∧
    (on (jobDev { st := 2 })).dev.scanBytes (on (jobDev { st := 2 })).dram 7 = some [0, 0, 0, 0] := by decide +kernel
theorem wit_RegisterAndPortAccesses : (on (up .config)).dev.hostUp = true ∧ (on (up .config)).dev.bootHidden 0x20 = false ∧ (2 : Nat) % 4 ≠ 0 ∧ readOnly 0x800000 = true ∧
    readOnly R.GFE_P0 = false ∧ findReg 0xFFFC = none ∧ readOnly 0xFFFC = false ∧
    (on (withRegs .config [(R.APU_BAR0_LVL, 3), (R.APU_DEFAULT, 1)])).dev.regionAdmits ((on (withRegs .config [(R.APU_BAR0_LVL, 3), (R.APU_DEFAULT, 1)])).dev.level none) 0x20 false = false ∧
    (on (up .config)).dev.regionAdmits ((on (up .config)).dev.level none) 0x20 false = true ∧
    (findReg R.TMB_ADJ_TRIM_LO).any (fun r => r.flds.all (fun f => f.acc == .rw || f.acc == .ro) && r.flds.any (fun f => f.acc == .rw)) = true ∧
    ((on (up .config)).dev.cmdWrite R.TMB_ADJ_TRIM_LO 5).isNone = true ∧ (on (up .config)).dev.writeAdmitted none 3 R.TMB_ADJ_TRIM_LO = true ∧
    ((schedReg R.TMB_ADJ_TRIM_LO).map (fun e => ((on (up .config)).dev.sched e).st == 1)).getD false = false ∧
    (on (vltDev .service { svcOpen := true })).dev.vlt.svcOpen = true ∧ (on (up .config)).dev.vlt.svcOpen = false := by decide +kernel

-- Well-formed commands ---------------------------------------------------------------------------------------------------

/-- For each check of `Instr.wf` a command that fails it. -/
theorem test_illFormed_refused : ([.porbRelease false true true [256], .domainPowerGood 0, .domainPowerGood 15, .thermalRound (List.replicate 13 ⟨0, 0, false, false⟩), .adcConversion 4 0,
    .injectedTrigger 4, .adcCorecSoft 4, .adcWake 4, .adcWarmUpEnd 4, .sampledValueFrame { svFrame 0 [] with appid := 65536 },
    .sampledValueFrame { svFrame 0 [] with svid := [256] }, .sampledValueFrame (svFrame 65536 []), .sampledValueFrame { svFrame 0 [] with eth := ⟨4, 0, true, []⟩ }, .ethFrame ⟨0, 12, true, []⟩,
    .gfeStep (some ⟨3, 4, true⟩), .cceStep (some ⟨5, 0, true⟩), .modulate (some ⟨3, 268435456, true⟩), .inputInvalid 24, .lpeEvaluation 64, .pulseEdge 8 true, .pulseTimeout 8,
    .report 12 0 0, .report 0 0x1FF 0, .reportCutoff 12, .faultFlash 12 0, .nodeLost 8192, .nodeCmdRelease 8192, .nodeCmdReadmit 8192, .codeError 14 0, .nodeFlt 0 ⟨2, 0, true, 0⟩, .flashCondition 0 (.comm 4),
    .mgmtResponse 12 [0, 0], .mgmtResponse 0 [0], .mgmtResponse 0 (List.replicate 10 0), .discoveryResponse 12 1 0 0 [0, 0], .discoveryResponse 0 0 0 0 [0, 0],
    .discoveryResponse 0 17 0 0 [0, 0], .discoveryResponse 0 1 65536 0 [0, 0], .discoveryResponse 0 1 0 0 [0], .discoveryProbeTimeout 12 1 0, .discoveryProbeTimeout 0 0 0,
    .discoveryProbeTimeout 0 17 0, .discoveryProbeTimeout 0 1 65536, .nodeSync 0 2 0, .nodeEblk 0 2 0, .nodeCmdFrame 0 2 []] : List Instr).all (fun c => !c.wf) = true := by decide
theorem test_illFormed_refused2 : ([.ident 0 2 [0, 0], .echo 0 0 [0], .portCfg 0 2 [0, 0], .admitNode 0 2 [0, 0], .release 0 2 [0, 0], .status 0 2 [0, 0], .portReset 0 2 [0, 0],
    .setIdent 0 2 [0, 0], .pairBlock 2 0, .escrowReceived 2 [], .escrowReceived 0 (List.replicate 329 (1, 0)), .ethFrame ⟨4, 0, true, []⟩, .ethFrame ⟨0, 0, true, [256]⟩,
    .ptpSync { ptpMsg true with domain := 256 }, .followUp { ptpMsg true with seq := 65536 }, .pdelayReq { ptpMsg true with ns := 1000000000 }, .pdelayResp { ptpMsg true with domain := 256 },
    .pdelayRespFollowUp { ptpMsg true with seq := 65536 }, .pdelayReqInterval 4, .pdelayTimeout 4, .ethTxSent 4, .syncTo 2, .accept 2, .keep 2, .ttPulseStart 8, .ttPulseEnd 8,
    .schedCmdArm 16, .schedCmdCancel 16, .hoc 12, .hocRelease 12, .dsInputChange 12 true, .desatTrip 12, .blankingEnd 12, .deadTimeEnd 12, .ddpCommandEdge 12, .offStateTestPhaseEnd 12 0 0,
    .reenable 4096, .test 4096, .recFree 8192, .sqTail 32 0 [], .sqTail 0 4096 [], .cqHead 32 0, .cqHead 0 4096] : List Instr).all (fun c => !c.wf) = true := by decide +kernel
theorem test_illFormed_refused3 : ([.nop 32 (ent []), .nop 0 { ent [] with tag := 65536 }, .regStage 0 { ent [] with flags := 256 }, .regRead 0 { ent [] with w := [] }, .commit 32 (ent []),
    .commitDescriptorAbandon 32 (ent []), .mode 32 (ent []), .schedArm 32 (ent []), .schedCancel 32 (ent []), .timeAdjIncr 32 (ent []), .timeAdjStep 32 (ent []), .tripOpTrip 32 (ent []),
    .tripOpEmergency 32 (ent []), .tripOpClear 32 (ent []), .recXfer 32 (ent []), .recTrigDescriptor 32 (ent []), .ethTx 32 (ent []), .ethRxbuf 32 (ent []), .recXferDone 32, .dmaError 32,
    .coalescingTime 32, .linkUp 16 0, .linkUp 0 16, .vltBootGo false [256] [], .vltBootGo false [] [256], .storeCert 4096, .ctrInc 16, .tlyPassDue 8, .tlyPassComplete 8 0 [], .sysModeReq 16,
    .registerWrite 16777216 0 true, .bar0ReadFault 16777216 true, .msixTableWrite 256 0] : List Instr).all (fun c => !c.wf) = true := by decide

-- Values the spec works out ----------------------------------------------------------------------------------------------

/-- The ASCII bytes "123456789". -/
def digits : List Nat := [0x31, 0x32, 0x33, 0x34, 0x35, 0x36, 0x37, 0x38, 0x39]
/-- The check values of R564. -/
theorem test_crcs : crc32 digits = 0xCBF43926 ∧ crc32c digits = 0xE3069283 ∧ crc64 digits = 0x6C40DF5F0B497347 ∧ crc16 digits = 0x29B1 := by decide +kernel
/-- "Lane 6 of the example station" (chapter 7): d_down, SEND, the report cut-off of 2,850 ns, a command frame of 137 blocks. -/
theorem test_lane6 : ddownOf 3700 1 = 1866 ∧ ddownOf 14370 5 = 7265 ∧ sendOf 5350 0 3700 = 30 ∧ sendOf 5350 309 14370 = 145 ∧
    ({ rstart := 5350, nr0 := 310, nc := 310 } : Lane).cutTicks = 570 ∧ ({ rstart := 5350, nr0 := 310, nc := 310 } : Lane).frameLen = 137 := by decide +kernel
/-- "Level count and PWM on arm 0" (chapter 6): 216 cells and 1,339 units; with LEVEL_MODE 0 no PWM. -/
theorem test_arm0_levels :
    levels ⟨8000, true, false, false, 8, 400, 0, 0, 0, 7000, 1280000⟩ false 475136 (List.replicate 620 { volt := 43960 }) = (216, 1339) ∧
    levels ⟨8000, false, false, false, 8, 400, 0, 0, 0, 7000, 1280000⟩ false 475136 (List.replicate 620 { volt := 43960 }) = (216, 0) := by decide +kernel
/-- "A reference 12 ppm fast" (chapter 10): the TRIM of −65,969,906. -/
theorem test_trim : signed 40 (0xFC11610E + 0xFF * 2 ^ 32) = -65969906 ∧ wrapInt 40 (-65969906) = 0xFFFC11610E := by decide

-- Single steps -----------------------------------------------------------------------------------------------------------

/-- The device after a command, if it answers a next state. -/
def after (c : Instr) (s : State) : Option Dev := match exec c s with | .next t => some t.dev | _ => none
theorem test_step_takes_the_front : step { on (up .standby) with pending := [.commitGo, .commitAbandon] } = exec .commitGo { on (up .standby) with pending := [.commitAbandon] } := rfl
theorem test_outside_bar0 : exec (.registerWrite 16777216 0 true) (on (up .standby)) = .fault .outsideBar0 := rfl
/-- R9: a narrow write has no effect but an access fault. -/
theorem test_narrow_write : (after (.registerWrite R.GFE_P0 5 false) (on (up .standby))).map (fun d => (d.staging, d.apu.ofs, d.apu.cnt)) = some ([], R.GFE_P0, 1) := by decide
/-- R46: a staged write counts and leaves the active copy. -/
theorem test_staged_write : (after (.registerWrite R.GFE_P0 5 true) (on (up .standby))).map (fun d => (d.stg R.GFE_P0, d.act R.GFE_P0, d.sys.stageGen)) = some (5, 0, 1) := by decide +kernel
/-- R47 and the worked example of commits: another generation refuses the commit. -/
theorem test_stage_changed : ((committing ⟨false, some 0x1F42, .bar0, 0⟩).commitStep 1).dev.sys.commitResult = 5 ∧
    ((committing ⟨false, some 0x1F42, .bar0, 0⟩).commitStep 1).applied = false := by decide +kernel
/-- R511: a tail that would leave 16 entries unfetched in a ring of 16. -/
theorem test_bad_doorbell : (after (.sqTail 0 16 []) (on (fetching .standby 0))).map (fun d => ((d.queue 0).st, (d.queue 0).err)) = some (2, 1) := by decide
/-- R516, R530: NOP is answered in one slot with its TAG. -/
theorem test_nop : (after (.nop 0 (ent [])) (on (fetching .standby 0))).map (fun d => ((d.queue 0).slots.map (fun ws => wAt ws 0), (d.queue 0).sqHead)) = some ([0x00070000], 1) := by decide
/-- R130: EMBLK_N raises EMERGENCY. -/
theorem test_emergency : (after .emblkN (on (up .gfGrid))).map (fun d => d.causeUp Cause.emergency) = some true := by decide
/-- R470: an overcurrent trips an enabled pair. -/
theorem test_hoc : (after (.hoc 11) (on (ddpDev { st := 2, h := true } 0x50110500))).map (fun d => ((d.pair 11).st, (d.pair 11).h, (d.pair 11).hocTrip)) = some (3, false, true) := by decide
/-- R320: a fault flash joins the map. -/
theorem test_flash : (after (.faultFlash 11 (fltBlock 4)) (on (netDev .gfGrid))).map (fun d => (d.ikl.map, d.ikl.flash)) = some (4, 2048) := by decide +kernel
/-- R555: CTR_INC of counter 2. -/
theorem test_ctrInc : (after (.ctrInc 2) (on (up .config))).map (fun d => (nth d.vlt.ctrs 2 0, nth d.vlt.ctrs 3 0)) = some (1, 0) := by decide
/-- R581: PORB takes the device to BOOT. -/
theorem test_porb : (after .porbAssert (on (up .gfGrid))).map (fun d => (d.mode, d.pwr.porb)) = some (.boot, true) := by decide

end Sys2Proof.Tests
end

section
/-! SUPPORT. What each way of writing the staging bank does to `SYS_STAGE_GEN` and DIRTY (R46): a BAR0 write of a register with a staging copy, the writes of a
REG_STAGE, an abandon applied at a boundary. -/
namespace Sys2Proof.Machine

/-- The counter and DIRTY of R46 after one write to a staging copy. -/
def Sys.staged (y : Sys) : Sys := { y with stageGen := y.stageGen + 1, dirty := true }

@[simp] theorem Sys.staged_stageGen (y : Sys) : y.staged.stageGen = y.stageGen + 1 := rfl
@[simp] theorem Sys.staged_dirty (y : Sys) : y.staged.dirty = true := rfl
@[simp] theorem Dev.stage_sys (d : Dev) (off : Nat) (v : Word) : (d.stage off v).sys = d.sys.staged := rfl

-- BAR0 ---------------------------------------------------------------------------------------------------------------------

/-- Only `SYS_SNAP_CTRL` acts on the snapshot that reads see (R59, R60); a write of another register acts on the device. -/
theorem State.registerWrite_dev (s : State) (off : Nat) (v : Word) (whole : Bool) (hsnap : off ≠ R.SYS_SNAP_CTRL) :
    s.registerWrite off v whole = { s with dev := s.dev.regWrite off v whole } := by
  simp [State.registerWrite, hsnap]

/-- A write that no rule of BAR0 refuses and that names no command register acts by the access types of the fields (R9, R12, R540, R545). -/
theorem Dev.regWrite_plain (d : Dev) (off : Nat) (v : Word) (r : RegDef) (hreg : findReg off = some r) (halign : off % 4 = 0) (hro : readOnly off = false)
    (hcmd : d.cmdWrite off v = none) (hup : d.hostUp = true) (hboot : d.bootHidden off = false) (hadm : d.writeAdmitted none 3 off = true) :
    d.regWrite off v true = d.plainWrite none off v r := by
  simp [Dev.regWrite, hreg, halign, hro, hcmd, hup, hboot, hadm]

/-- After sealing, a register with an RWS field beside its RWL fields is still staged (R10). -/
theorem Dev.sealedStage_sys (d : Dev) (src : Option Nat) (off : Nat) (v : Word) (r : RegDef) (hrws : r.flds.any (fun f => f.acc == .rws) = true) :
    (d.sealedStage src off v r).sys = d.sys.staged := by
  simp [Dev.sealedStage, hrws]

/-- An admitted write of a register with a staging copy counts once, sealed or not, whatever other fields the register has. -/
theorem Dev.plainWrite_sys (d : Dev) (src : Option Nat) (off : Nat) (v : Word) (r : RegDef) (hstg : r.flds.any (fun f => isStaged f.acc) = true)
    (hseal : d.sealedReg r = false ∨ r.flds.any (fun f => f.acc == .rws) = true)
    (hsched : ((schedReg off).map (fun e => (d.sched e).st == 1)).getD false = false) :
    (d.plainWrite src off v r).sys = d.sys.staged := by
  unfold Dev.plainWrite
  simp only [hsched, hstg, Bool.false_eq_true, if_false, if_true]
  cases hlock : d.sealedReg r
  case true =>
    have hrws := hseal.resolve_left (by simp [hlock])
    simp only [if_true, Dev.sealedStage_sys d src off v r hrws]
  case false =>
    simp only [Bool.false_eq_true, if_false, apply_ite Dev.sys, Dev.clearReq_sys, Dev.setRw_sys, Dev.stage_sys, ite_self]

-- REG_STAGE ----------------------------------------------------------------------------------------------------------------

/-- One write of a REG_STAGE is staged, or stops the entry and leaves the counter and DIRTY (R521). -/
theorem Dev.stageReq_cases (d : Dev) (q off : Nat) (v : Word) :
    d.stageReq q off v = (d.stage off v, true) ∨ ∃ x, d.stageReq q off v = (x, false) ∧ x.sys = d.sys := by
  have refused (kind : Nat) : ∃ x, (d.accessFault (some q) kind off true, false) = (x, false) ∧ x.sys = d.sys := ⟨_, rfl, d.accessFault_sys ..⟩
  unfold Dev.stageReq
  dsimp only
  split
  · exact .inr (refused 0)
  split
  · exact .inr (refused 4)
  split
  · exact .inr (refused 1)
  split
  · exact .inr (refused 2)
  split
  · exact .inr ⟨d, rfl, rfl⟩
  split
  · exact .inr (refused 3)
  · exact .inl rfl

/-- From pair `i` on the counter moves with the number of writes applied, so that their difference stays. -/
theorem Dev.stageFrom_gen (e : SqEntry) (q n i : Nat) (d : Dev) :
    (Dev.stageFrom e q n i d).1.sys.stageGen + BitVec.ofNat 32 i = d.sys.stageGen + BitVec.ofNat 32 (Dev.stageFrom e q n i d).2.1 := by
  induction n generalizing i d with
  | zero => rfl
  | succ n ih =>
    unfold Dev.stageFrom
    obtain hstaged | ⟨x, hrefused, hsys⟩ := d.stageReq_cases q (sqF e (2 + 2 * i) 23 0) (sqW e (3 + 2 * i))
    · have hrest := ih (i + 1) (d.stage (sqF e (2 + 2 * i) 23 0) (sqW e (3 + 2 * i)))
      simp only [Dev.stage_gen, BitVec.ofNat_add] at hrest
      simp only [hstaged, if_true]
      bv_omega
    · simp [hrefused, hsys]

/-- A REG_STAGE adds the number of its writes that were applied; its completion leaves the counter. -/
theorem Dev.regStage_gen (d : Dev) (e : SqEntry) (r : CompRef) :
    (d.regStage e r).sys.stageGen = d.sys.stageGen + BitVec.ofNat 32 (Dev.stageFrom e r.q (sqF e 1 2 0) 0 d).2.1 := by
  simpa [Dev.regStage] using Dev.stageFrom_gen e r.q (sqF e 1 2 0) 0 d

-- Boundary -----------------------------------------------------------------------------------------------------------------

/-- An abandon that decides the boundary counts as one write (R49). -/
theorem Dev.commitStep_abandon_gen (d : Dev) (b : Nat) (r : CommitReq) (hlast : (d.sys.commitReqs.filter (d.commitDue b)).getLast? = some r) (habandon : r.abandon = true) :
    (d.commitStep b).dev.sys.stageGen = d.sys.stageGen + 1 := by
  simp [Dev.commitStep, hlast, habandon]

-- The obligation -----------------------------------------------------------------------------------------------------------

/-- Settles O18: a write of a staged register counts once, a REG_STAGE once for each write applied, an abandon once. -/
theorem stagingWritesCount : Obligations.StagingWritesCount := by
  refine ⟨?bar0, Dev.stage_gen, ?regStage, Dev.commitStep_abandon_gen⟩
  case bar0 =>
    intro s off v r hreg hstg hseal hwin halign hsnap hro hcmd hup hboot hadm hsched
    have hexec : exec (.registerWrite off v true) s = .next { s with dev := s.dev.plainWrite none off v r } := calc
      exec (.registerWrite off v true) s = .next (s.registerWrite off v true) := if_pos hwin
      _ = .next { s with dev := s.dev.regWrite off v true } := by rw [State.registerWrite_dev s off v true hsnap]
      _ = .next { s with dev := s.dev.plainWrite none off v r } := by rw [Dev.regWrite_plain s.dev off v r hreg halign hro hcmd hup hboot hadm]
    have hsys := Dev.plainWrite_sys s.dev none off v r hstg hseal hsched
    exact ⟨_, hexec, by rw [hsys, Sys.staged_stageGen], by rw [hsys, Sys.staged_dirty]⟩
  case regStage =>
    intro s q e htakes
    have hexec : exec (.regStage q e) s = .next { s with dev := (s.dev.fetched q).regStage e (s.dev.entryRef q Op.regStage e) } := calc
      exec (.regStage q e) s = .next { s with dev := s.dev.fetch q Op.regStage e (fun x r => x.regStage e r) } := rfl
      _ = .next { s with dev := (s.dev.fetched q).regStage e (s.dev.entryRef q Op.regStage e) } := by rw [Dev.fetch_takes s.dev q Op.regStage e _ htakes]
    exact ⟨_, hexec, Dev.regStage_gen (s.dev.fetched q) e (s.dev.entryRef q Op.regStage e)⟩

end Sys2Proof.Machine
end

section
/-! SUPPORT. Which level a TRIP request needs, on both paths (R132): the write of `SYS_TRIP_CTRL.TRIP` and the TRIP descriptor. -/
namespace Sys2Proof.Machine

-- BAR0 ---------------------------------------------------------------------------------------------------------------------

/-- A level above the one a command register asks for is refused, whatever the block and the region rule say (R540). -/
theorem Dev.bar0Refused_of_level (d : Dev) (off maxLvl : Nat) (hup : d.hostUp = true) (hboot : d.bootHidden off = false) (hlvl : maxLvl < d.level none) :
    d.bar0Refused off maxLvl = true := by
  have hdenied : d.writeAdmitted none maxLvl off = false := by simp [Dev.writeAdmitted, hlvl]
  simp [Dev.bar0Refused, hup, hboot, hdenied]

-- Descriptors --------------------------------------------------------------------------------------------------------------

/-- The fetch of an entry moves no register that a level is read from (R539). -/
@[simp] theorem Dev.fetched_level (d : Dev) (q : Nat) (src : Option Nat) : (d.fetched q).level src = d.level src := by
  cases src <;> rfl

@[simp] theorem Dev.fetched_stampNow (d : Dev) (q : Nat) : (d.fetched q).stampNow = d.stampNow := rfl

theorem Dev.admitReq_admitted (d : Dev) (r : CompRef) (maxLvl off : Nat) (run : Dev → Dev) (h : d.level (some r.q) ≤ maxLvl) :
    d.admitReq r maxLvl off run = run d := if_pos h

/-- A refused request answers in its queue and records the fault; the system controller does not see it. -/
theorem Dev.admitReq_refused_sys (d : Dev) (r : CompRef) (maxLvl off : Nat) (run : Dev → Dev) (h : maxLvl < d.level (some r.q)) :
    (d.admitReq r maxLvl off run).sys = d.sys := by
  simp [Dev.admitReq, Nat.not_le.2 h]

/-- An admitted request raises its cause and waits for its completion at the boundary (R128, R130). -/
theorem Dev.tripReq_admitted (d : Dev) (cause : Nat) (r : CompRef) (h : d.level (some r.q) ≤ 2) :
    (d.tripReq cause r).causeUp cause = true ∧ (d.tripReq cause r).sys.tripRefs = d.sys.tripRefs ++ [(d.stampNow, r)] := by
  rw [Dev.tripReq, Dev.admitReq_admitted d r 2 _ _ h]
  exact ⟨Dev.raiseCause_up .., Dev.raiseCause_sys_tripRefs ..⟩

/-- A well-formed TRIP entry with OP TRIP becomes a request with the cause HOST. -/
theorem exec_tripOpTrip (s : State) (q : Nat) (e : SqEntry) (htakes : s.dev.takesEntry q Op.trip e = true) (hop : sqF e 1 3 0 = 1) :
    exec (.tripOpTrip q e) s = .next { s with dev := (s.dev.fetched q).tripReq Cause.host (s.dev.entryRef q Op.trip e) } := by
  have hform : (sqF e 1 3 0 != 2 && sqF e 1 3 0 != 3) = true := by simp [hop]
  calc exec (.tripOpTrip q e) s
    _ = .next { s with dev := s.dev.descForm q e (sqF e 1 3 0 != 2 && sqF e 1 3 0 != 3) Op.trip (fun x r => x.tripReq Cause.host r) } := rfl
    _ = .next { s with dev := (s.dev.fetched q).tripReq Cause.host (s.dev.entryRef q Op.trip e) } := by rw [Dev.descForm_takes s.dev q Op.trip e _ _ hform htakes]

-- The obligation -----------------------------------------------------------------------------------------------------------

/-- Settles O22: on both paths the level decides between the cause HOST and a request that the causes do not see. -/
theorem tripRequestsNeedLevelTwo : Obligations.TripRequestsNeedLevelTwo := by
  refine ⟨?bar0Admitted, ?bar0Refused, ?descAdmitted, ?descRefused⟩
  case bar0Admitted =>
    intro s hopen
    have hrun : s.dev.tripWrite = s.dev.raiseCause Cause.host := Dev.bar0Cmd_open _ _ _ _ hopen
    exact ⟨s.dev.tripWrite, rfl, hrun ▸ Dev.raiseCause_cause .., hrun ▸ Dev.raiseCause_up ..⟩
  case bar0Refused =>
    intro s hup hboot hlvl
    have hfault : s.dev.tripWrite = s.dev.accessFault none 2 R.SYS_TRIP_CTRL true :=
      Dev.bar0Cmd_refused _ _ _ _ (s.dev.bar0Refused_of_level R.SYS_TRIP_CTRL 2 hup hboot hlvl)
    exact ⟨s.dev.tripWrite, rfl, hfault ▸ Dev.accessFault_only ..⟩
  case descAdmitted =>
    intro s q e htakes hop hlvl
    have hlvl' : (s.dev.fetched q).level (some (s.dev.entryRef q Op.trip e).q) ≤ 2 := by rwa [Dev.fetched_level]
    obtain ⟨hup, hrefs⟩ := Dev.tripReq_admitted (s.dev.fetched q) Cause.host (s.dev.entryRef q Op.trip e) hlvl'
    exact ⟨_, exec_tripOpTrip s q e htakes hop, hup, by simpa using hrefs⟩
  case descRefused =>
    intro s q e htakes hop hlvl
    have hlvl' : 2 < (s.dev.fetched q).level (some (s.dev.entryRef q Op.trip e).q) := by rwa [Dev.fetched_level]
    have hsys : ((s.dev.fetched q).tripReq Cause.host (s.dev.entryRef q Op.trip e)).sys = (s.dev.fetched q).sys :=
      Dev.admitReq_refused_sys _ _ 2 R.SYS_TRIP_CTRL _ hlvl'
    exact ⟨_, exec_tripOpTrip s q e htakes hop, by rw [hsys, Dev.fetched_sys]⟩

end Sys2Proof.Machine
end

section
/-! SUPPORT. What the branch selection point does (R237): the device with the selection noted, and beside it at most the events of R204 and R246. -/
namespace Sys2Proof.Machine

-- Events -------------------------------------------------------------------------------------------------------------------

/-- `b` is `a` but for the events raised and the recorder triggers they set off (R68, R499). -/
def Dev.onlyEvents (a b : Dev) : Prop := b = { a with pci := b.pci, recd := b.recd }

theorem Dev.onlyEvents_refl (a : Dev) : a.onlyEvents a := rfl

theorem Dev.onlyEvents_trans {a b c : Dev} (hab : a.onlyEvents b) (hbc : b.onlyEvents c) : a.onlyEvents c := by
  unfold Dev.onlyEvents at *
  rw [hbc, hab]

/-- An operation that raises events keeps to that when it runs on a condition. -/
theorem Dev.onlyEvents_ite {a b c : Dev} (p : Prop) [Decidable p] (hab : a.onlyEvents b) (hbc : b.onlyEvents c) : a.onlyEvents (if p then c else b) := by
  split
  · exact Dev.onlyEvents_trans hab hbc
  · exact hab

theorem Dev.armOcEvent_events (d : Dev) (oc : Nat) : d.onlyEvents (d.armOcEvent oc) := by
  unfold Dev.armOcEvent
  split <;> rfl

-- The selection ------------------------------------------------------------------------------------------------------------

/-- The path taken: that of the branch of highest priority among the enabled ones whose detector fired (R237). -/
def Dev.selection (d : Dev) : Nat := selectOf (d.firedMap &&& d.brEn)

/-- Bit by bit, the branches selected from are those that fired and are enabled. -/
theorem Dev.selection_eq (d : Dev) :
    d.selection = if d.firedMap.testBit 1 && d.brEn.testBit 1 then 2 else if d.firedMap.testBit 0 && d.brEn.testBit 0 then 1
      else if d.firedMap.testBit 3 && d.brEn.testBit 3 then 4 else if d.firedMap.testBit 2 && d.brEn.testBit 2 then 3 else 0 := by
  simp only [Dev.selection, selectOf, Nat.testBit_and]

/-- What the selection point writes beside events: the RAE status of the epoch (R237, R238), and the instant at which a C3 path was taken. -/
def Dev.noteSelection (d : Dev) : Dev :=
  { d with
    rae := { d.rae with
      sel := d.selection, fired := d.firedMap, computed := d.brEn, selected := true
      suppressed := bitmap 4 (fun n => (d.firedMap &&& d.brEn).testBit n && decide (n + 1 ≠ d.selection))
      c3arm := if d.firedMap.testBit 3 then (d.rae.c3.map (·.1)).getD 0 else 0 }
    rdn := { d.rdn with c3At := if d.selection = 4 then some d.tmb.up else d.rdn.c3At } }

/-- With the normal path stepped by both engines and no selection made yet, the selection point notes its choice and raises at most the events of R246 and R204. -/
theorem Dev.branchSelect_notes (d : Dev) (hmode : d.mode ≠ .boot) (hpath : (nth d.rae.paths 0 none).isSome = true) (hfront : d.rae.front = none)
    (hopen : d.rae.selected = false) : d.noteSelection.onlyEvents d.branchSelect := by
  have hruns : (d.mode == .boot || (nth d.rae.paths 0 none).isNone || d.rae.front.isSome || d.rae.selected) = false := by
    simp [hmode, Option.isNone_eq_false_iff.2 hpath, hfront, hopen]
  rw [Dev.branchSelect, hruns, if_neg Bool.false_ne_true]
  refine Dev.onlyEvents_ite _ ?fired ?overcurrent
  case fired => exact Dev.onlyEvents_ite _ (Dev.onlyEvents_refl _) (Dev.raiseT_only ..)
  case overcurrent => exact Dev.armOcEvent_events ..

-- The obligation -----------------------------------------------------------------------------------------------------------

/-- Settles O31: the events of the selection point touch none of the fields named, and what it notes is the choice among the branches that fired and are enabled. -/
theorem selectionFollowsThePriority : Obligations.SelectionFollowsThePriority := by
  intro s hmode hpath hfront hopen
  have hnotes : s.dev.branchSelect = { s.dev.noteSelection with pci := s.dev.branchSelect.pci, recd := s.dev.branchSelect.recd } :=
    s.dev.branchSelect_notes hmode hpath hfront hopen
  refine ⟨s.dev.branchSelect, rfl, ?_⟩
  rw [hnotes]
  exact ⟨rfl, rfl, rfl, s.dev.selection_eq, rfl, rfl, rfl, rfl⟩

end Sys2Proof.Machine
end

section
/-! SUPPORT. What a doorbell write does to its queue (R510, R511): ignored, refused as BAD_DOORBELL, or taken. -/
namespace Sys2Proof.Machine

theorem Dev.powered_on (d : Dev) (f : Dev → Dev) (hpow : d.unpowered = false) : d.powered f = f d := by
  simp [Dev.powered, hpow]

-- SQ_TAIL ------------------------------------------------------------------------------------------------------------------

/-- With power, a write to one of the 32 SQ_TAIL doorbells reaches its queue. -/
theorem exec_sqTail (s : State) (q i : Nat) (bad : List Word) (hq : q < 32) (hpow : s.dev.unpowered = false) :
    exec (.sqTail q i bad) s = .next { s with dev := s.dev.sqTailWrite q i bad } := calc
  exec (.sqTail q i bad) s = .next { s with dev := s.dev.powered (fun x => x.sqTailWrite q i bad) } := if_pos hq
  _ = .next { s with dev := s.dev.sqTailWrite q i bad } := by rw [Dev.powered_on s.dev _ hpow]

theorem Dev.sqTailWrite_notRunning (d : Dev) (q i : Nat) (bad : List Word) (hst : (d.queue q).st ≠ 1) : d.sqTailWrite q i bad = d :=
  if_pos hst

theorem Dev.sqTailWrite_past (d : Dev) (q i : Nat) (bad : List Word) (hrun : (d.queue q).st = 1) (hi : d.sqSize q ≤ i) :
    d.sqTailWrite q i bad = d.queueError q 1 := by
  simp [Dev.sqTailWrite, hrun, hi]

/-- A tail inside the ring is taken, and the entries with an unlisted opcode that it makes visible are fetched. -/
theorem Dev.sqTailWrite_inside (d : Dev) (q i : Nat) (bad : List Word) (hrun : (d.queue q).st = 1) (hi : i < d.sqSize q) :
    d.sqTailWrite q i bad = bad.foldl (fun y w => y.badEntry q w) (d.setQueue q { d.queue q with sqTail := i }) := by
  simp [Dev.sqTailWrite, hrun, Nat.not_le.2 hi]

/-- Counted around the ring, no tail leaves more than SIZE − 1 entries unfetched. -/
theorem Dev.unfetched_le (d : Dev) (q n : Nat) : n % d.sqSize q ≤ d.sqSize q - 1 :=
  Nat.le_sub_one_of_lt (Nat.mod_lt n (Nat.two_pow_pos _))

-- CQ_HEAD ------------------------------------------------------------------------------------------------------------------

/-- With power, a write to one of the 32 CQ_HEAD doorbells reaches its queue. -/
theorem exec_cqHead (s : State) (q i : Nat) (hq : q < 32) (hpow : s.dev.unpowered = false) :
    exec (.cqHead q i) s = .next { s with dev := s.dev.cqHeadWrite q i } := calc
  exec (.cqHead q i) s = .next { s with dev := s.dev.powered (fun x => x.cqHeadWrite q i) } := if_pos hq
  _ = .next { s with dev := s.dev.cqHeadWrite q i } := by rw [Dev.powered_on s.dev _ hpow]

theorem Dev.cqHeadWrite_notRunning (d : Dev) (q i : Nat) (hst : (d.queue q).st ≠ 1) : d.cqHeadWrite q i = d :=
  if_pos hst

theorem Dev.cqHeadWrite_past (d : Dev) (q i : Nat) (hrun : (d.queue q).st = 1) (hi : d.cqSize q ≤ i) : d.cqHeadWrite q i = d.queueError q 1 := by
  simp [Dev.cqHeadWrite, hrun, hi]

/-- The slots that a head inside the ring leaves unconsumed: those from it up to the next one to be written. -/
def Dev.leftAfter (d : Dev) (q i : Nat) : Nat := ((d.queue q).cqTail + d.cqSize q - i) % d.cqSize q

/-- The queue with its oldest slots consumed, so that at most `n` are left. -/
def Queue.keepLast (x : Queue) (n : Nat) : Queue := { x with slots := x.slots.drop (x.slots.length - n) }

theorem Queue.keepLast_length (x : Queue) (n : Nat) (hn : n ≤ x.slots.length) : (x.keepLast n).slots.length = n := by
  simp only [Queue.keepLast, List.length_drop]
  omega

theorem Dev.cqHeadWrite_inside (d : Dev) (q i : Nat) (hrun : (d.queue q).st = 1) (hi : i < d.cqSize q) :
    d.cqHeadWrite q i = d.setQueue q ((d.queue q).keepLast (d.leftAfter q i)) := by
  simp [Dev.cqHeadWrite, hrun, Nat.not_le.2 hi, Queue.keepLast, Dev.leftAfter]

-- The obligation -----------------------------------------------------------------------------------------------------------

/-- Settles O53: each branch of the two doorbell writes; of the two faults of a tail only the index at or above the ring size can arise.
A head below SIZE but past the written slots stays out of ERROR, as R511 reads. -/
theorem doorbellsAreChecked : Obligations.DoorbellsAreChecked := by
  intro s q i bad hq hpow
  rw [exec_sqTail s q i bad hq hpow, exec_sqTail s q i [] hq hpow, exec_cqHead s q i hq hpow]
  refine ⟨fun hst => ?ignored, fun hrun => ⟨fun hbad => ?badTail, fun hi => ?badHead, fun hi => ?tail, fun hi => ?head⟩⟩
  case ignored => rw [Dev.sqTailWrite_notRunning s.dev q i bad hst, Dev.cqHeadWrite_notRunning s.dev q i hst]; exact ⟨rfl, rfl⟩
  case badTail =>
    have hi : s.dev.sqSize q ≤ i := hbad.resolve_right (Nat.not_lt.2 (s.dev.unfetched_le q _))
    rw [Dev.sqTailWrite_past s.dev q i bad hrun hi]; rfl
  case badHead => rw [Dev.cqHeadWrite_past s.dev q i hrun hi]; rfl
  case tail => rw [Dev.sqTailWrite_inside s.dev q i [] hrun hi]; rfl
  case head =>
    rw [Dev.cqHeadWrite_inside s.dev q i hrun hi]
    exact ⟨(s.dev.queue q).keepLast (s.dev.leftAfter q i), rfl, rfl, Queue.keepLast_length (s.dev.queue q) (s.dev.leftAfter q i)⟩

end Sys2Proof.Machine
end

section
/-! SUPPORT. A malformed entry (R520): it is fetched and completed, and of the device only its queue, the messages of vectors and the count of free values move. -/
namespace Sys2Proof.Machine

-- The frame of a queue ---------------------------------------------------------------------------------------------------

/-- `b` is `a` but for queue `q` and the messages of vectors (R536). -/
def Dev.onlyQueue (q : Nat) (a b : Dev) : Prop :=
  b = { a with pci := { a.pci with queues := b.pci.queues, msixPending := b.pci.msixPending, msixSent := b.pci.msixSent } } ∧
    ∀ m, m ≠ q → b.queue m = a.queue m

theorem Dev.onlyQueue_refl (q : Nat) (a : Dev) : a.onlyQueue q a := ⟨rfl, fun _ _ => rfl⟩

theorem Dev.onlyQueue_trans {q : Nat} {a b c : Dev} (hab : a.onlyQueue q b) (hbc : b.onlyQueue q c) : a.onlyQueue q c := by
  obtain ⟨hb, hbq⟩ := hab
  obtain ⟨hc, hcq⟩ := hbc
  exact ⟨by rw [hc, hb], fun m hm => (hcq m hm).trans (hbq m hm)⟩

theorem Dev.setQueue_onlyQueue (d : Dev) (q : Nat) (x : Queue) : d.onlyQueue q (d.setQueue q x) :=
  ⟨rfl, fun m hm => nth_setAt_ne d.pci.queues q m x {} hm.symm⟩

theorem Dev.msix_onlyQueue (d : Dev) (q v : Nat) : d.onlyQueue q (d.msix v) := by
  unfold Dev.msix
  split <;> exact ⟨rfl, fun _ _ => rfl⟩

theorem Dev.signal_onlyQueue (d : Dev) (q : Nat) : d.onlyQueue q (d.signal q) :=
  Dev.onlyQueue_trans (Dev.setQueue_onlyQueue ..) (Dev.msix_onlyQueue ..)

theorem Dev.deliver_onlyQueue (d : Dev) (q type : Nat) (recs : List (List Word)) : d.onlyQueue q (d.deliver q type recs) := by
  unfold Dev.deliver
  dsimp only
  split
  · exact Dev.onlyQueue_trans (Dev.setQueue_onlyQueue ..) (Dev.signal_onlyQueue ..)
  · exact Dev.setQueue_onlyQueue ..

theorem Dev.complete_onlyQueue (d : Dev) (r : CompRef) (status result epoch : Nat) (data : List Word) :
    d.onlyQueue r.q (d.complete r status result epoch data) := by
  unfold Dev.complete
  dsimp only
  split
  · exact Dev.onlyQueue_trans (Dev.setQueue_onlyQueue ..) (Dev.deliver_onlyQueue ..)
  · exact Dev.onlyQueue_refl ..

/-- A completion with an open RESULT takes one free value and keeps to its queue. -/
theorem Dev.completeOpen_onlyQueue (d : Dev) (r : CompRef) (status : Nat) : d.tookFree.onlyQueue r.q (d.completeOpen r status) :=
  Dev.complete_onlyQueue ..

theorem Dev.fetched_onlyQueue (d : Dev) (q : Nat) : d.onlyQueue q (d.fetched q) := Dev.setQueue_onlyQueue ..

-- Listed opcodes ---------------------------------------------------------------------------------------------------------

theorem sqMalformed_of_field (op : Nat) (e : SqEntry) (h : sqReserved op e = true ∨ sqCountBad op e = true ∨ sqAddrBad op e = true) : sqMalformed op e = true := by
  obtain h | h | h := h <;> simp [sqMalformed, h]

theorem Dev.fetch_malformed (d : Dev) (q op : Nat) (e : SqEntry) (run : Dev → CompRef → Dev) (hcan : d.canFetch q (sqFence e) = true) (hmal : sqMalformed op e = true) :
    d.fetch q op e run = (d.fetched q).completeOpen (d.entryRef q op e) 1 := by
  simp [Dev.fetch, hcan, hmal, Dev.entryRef]

/-- A malformed entry is taken by every row of its opcode, whatever form it has. -/
theorem Dev.descForm_malformed (d : Dev) (q op : Nat) (e : SqEntry) (form : Bool) (run : Dev → CompRef → Dev) (hmal : sqMalformed op e = true) :
    d.descForm q e form op run = d.fetch q op e run := by
  simp [Dev.descForm, hmal]

/-- The row `p`, a command with its opcode, completes a malformed entry as MALFORMED in place of its own meaning. -/
def RefusesMalformed (q : Nat) (e : SqEntry) (p : Instr × Nat) : Prop :=
  ∀ s : State, s.dev.canFetch q (sqFence e) = true → sqMalformed p.2 e = true →
    exec p.1 s = .next { s with dev := (s.dev.fetched q).completeOpen (s.dev.entryRef q p.2 e) 1 }

/-- A row that fetches every entry of its opcode. -/
theorem RefusesMalformed.of_fetch {q op : Nat} {e : SqEntry} {c : Instr} {run : State → Dev → CompRef → Dev}
    (hexec : ∀ s, exec c s = .next { s with dev := s.dev.fetch q op e (run s) }) : RefusesMalformed q e (c, op) := by
  intro s hcan hmal
  rw [hexec s, Dev.fetch_malformed s.dev q op e (run s) hcan hmal]

/-- A row that fetches the entries of one form of its opcode. -/
theorem RefusesMalformed.of_form {q op : Nat} {e : SqEntry} {c : Instr} {form : Bool} {run : Dev → CompRef → Dev}
    (hexec : ∀ s, exec c s = .next { s with dev := s.dev.descForm q e form op run }) : RefusesMalformed q e (c, op) := by
  intro s hcan hmal
  rw [hexec s, Dev.descForm_malformed s.dev q op e form run hmal, Dev.fetch_malformed s.dev q op e run hcan hmal]

/-- The rows of the submission entries with their opcodes (R519). -/
def entryRows (q : Nat) (e : SqEntry) : List (Instr × Nat) :=
  [(.nop q e, Op.nop), (.regStage q e, Op.regStage), (.regRead q e, Op.regRead), (.commit q e, Op.commit), (.commitDescriptorAbandon q e, Op.commit), (.mode q e, Op.mode),
    (.schedArm q e, Op.sched), (.schedCancel q e, Op.sched), (.timeAdjIncr q e, Op.timeAdj), (.timeAdjStep q e, Op.timeAdj), (.tripOpTrip q e, Op.trip),
    (.tripOpEmergency q e, Op.trip), (.tripOpClear q e, Op.trip), (.recXfer q e, Op.recXfer), (.recTrigDescriptor q e, Op.recTrig), (.ethTx q e, Op.ethTx),
    (.ethRxbuf q e, Op.ethRxbuf)]

theorem entryRows_refuseMalformed (q : Nat) (e : SqEntry) : ∀ p ∈ entryRows q e, RefusesMalformed q e p := by
  simp only [entryRows, List.forall_mem_cons]
  exact ⟨.of_fetch fun _ => rfl, .of_fetch fun _ => rfl, .of_fetch fun _ => rfl, .of_form fun _ => rfl, .of_form fun _ => rfl, .of_fetch fun _ => rfl,
    .of_form fun _ => rfl, .of_form fun _ => rfl, .of_form fun _ => rfl, .of_form fun _ => rfl, .of_form fun _ => rfl, .of_form fun _ => rfl,
    .of_form fun _ => rfl, .of_fetch fun _ => rfl, .of_fetch fun _ => rfl, .of_fetch fun _ => rfl, .of_fetch fun _ => rfl,
    List.forall_mem_nil _⟩

-- Unlisted opcodes -------------------------------------------------------------------------------------------------------

theorem Dev.badEntry_fetchable (d : Dev) (q : Nat) (w : Word) (hop : 12 ≤ fld w 7 0) (hcan : d.canFetch q (bit w 8) = true) :
    d.badEntry q w = (d.fetched q).completeOpen ⟨q, (d.queue q).gen, fld w 31 16, fld w 7 0⟩ 1 := by
  simp [Dev.badEntry, hop, hcan]

/-- An update of a queue that keeps its running period shows it afterwards too. -/
theorem Dev.setQueue_gen (d : Dev) (q : Nat) (x : Queue) (hgen : x.gen = (d.queue q).gen) : ((d.setQueue q x).queue q).gen = (d.queue q).gen := by
  obtain hin | hout := Nat.lt_or_ge q d.pci.queues.length
  · exact (congrArg Queue.gen (nth_setAt_self d.pci.queues q x {} hin)).trans hgen
  · exact congrArg Queue.gen (nth_setAt_out d.pci.queues q x {} hout)

-- The obligation ---------------------------------------------------------------------------------------------------------

/-- Settles O56: every row of a listed opcode, the doorbell for an unlisted one, and what the completion leaves alone. The model chooses three things here: the
address is the host address alone (log 91), a COUNT of 0 is out of range (log 92), and RESULT of the completion is a free value (log 29). -/
theorem malformedEntriesAreNotApplied : Obligations.MalformedEntriesAreNotApplied := by
  refine ⟨?listed, ?unlisted, ?frame⟩
  case listed =>
    intro s q e p hp hcan hbad
    exact entryRows_refuseMalformed q e p hp s hcan (sqMalformed_of_field p.2 e hbad)
  case unlisted =>
    intro s q i w hq hpow hrun hi hop hcan
    rw [exec_sqTail s q i [w] hq hpow, Dev.sqTailWrite_inside s.dev q i [w] hrun hi, List.foldl_cons, List.foldl_nil,
      Dev.badEntry_fetchable _ q w hop hcan, Dev.setQueue_gen s.dev q { s.dev.queue q with sqTail := i } rfl]
  case frame =>
    rintro d q r rfl
    obtain ⟨honly, hothers⟩ := (d.fetched r.q).completeOpen_onlyQueue r 1
    have hfetched := (d.fetched_onlyQueue r.q).2
    exact ⟨_, rfl, honly, fun m hm => (hothers m hm).trans (hfetched m hm)⟩

end Sys2Proof.Machine
end

section
/-! SUPPORT. Which part of the machine a command can move (R35, R56, R59, R60): most commands act on the device alone. -/
namespace Sys2Proof.Machine

-- Commands of the device -------------------------------------------------------------------------------------------------

/-- The commands at which the snapshot, the hold or the recorder DRAM can move: the removal of power, the boundary and the writes of `SYS_SNAP_CTRL`. -/
def movesMachine : Instr → Bool
  | .powerOn | .porbAssert | .hardCut | .aonBrownout | .powerDown | .periodBoundary _ _ | .holdSet | .holdClear | .holdExpired | .registerWrite _ _ _ => true
  | _ => false

/-- An access outside BAR0 or BAR2 (R8, R510). -/
def outsideBars : Instr → Bool
  | .registerWrite o _ _ | .bar0ReadFault o _ => decide (16777216 ≤ o)
  | .sqTail q _ _ | .cqHead q _ => decide (32 ≤ q)
  | .msixTableWrite i _ => decide (32768 ≤ i)
  | _ => false

/-- The outcome of a window check on the device: its effect inside the window, a fault outside. -/
theorem ite_onDev (p : Prop) [Decidable p] (f : Dev → Dev) (r : Fault) (s : State) (h : p) :
    ∃ d, (if p then onDev f s else .fault r) = .next { s with dev := d } :=
  ⟨f s.dev, if_pos h⟩

/-- Every command inside the windows but those of the whole machine acts on the device alone. -/
theorem exec_onDev (c : Instr) (s : State) (hin : outsideBars c = false) (hm : movesMachine c = false) : ∃ d, exec c s = .next { s with dev := d } := by
  cases c
  case powerOn | porbAssert | hardCut | aonBrownout | powerDown | periodBoundary | holdSet | holdClear | holdExpired | registerWrite => cases hm
  case bar0ReadFault o w => exact ite_onDev _ _ _ s (Nat.not_le.1 (of_decide_eq_false hin))
  case sqTail q i bad => exact ite_onDev _ _ _ s (Nat.not_le.1 (of_decide_eq_false hin))
  case cqHead q i => exact ite_onDev _ _ _ s (Nat.not_le.1 (of_decide_eq_false hin))
  case msixTableWrite i v => exact ite_onDev _ _ _ s (Nat.not_le.1 (of_decide_eq_false hin))
  all_goals exact ⟨_, rfl⟩

/-- A command inside the windows answers a next state. -/
theorem exec_next (c : Instr) (s : State) (hin : outsideBars c = false) : ∃ t, exec c s = .next t := by
  by_cases hm : movesMachine c = true
  case neg =>
    obtain ⟨d, hd⟩ := exec_onDev c s hin (Bool.eq_false_iff.2 hm)
    exact ⟨_, hd⟩
  case pos =>
    cases c
    case registerWrite o v w => exact ⟨s.registerWrite o v w, if_pos (Nat.not_le.1 (of_decide_eq_false hin))⟩
    case powerOn | porbAssert | hardCut | aonBrownout | powerDown | periodBoundary | holdSet | holdClear | holdExpired => exact ⟨_, rfl⟩
    all_goals cases hm

/-- A command outside the windows faults. -/
theorem exec_fault (c : Instr) (s : State) (hout : outsideBars c = true) : ∃ f, exec c s = .fault f := by
  cases c
  case registerWrite o v w => exact ⟨.outsideBar0, if_neg (Nat.not_lt.2 (of_decide_eq_true hout))⟩
  case bar0ReadFault o w => exact ⟨.outsideBar0, if_neg (Nat.not_lt.2 (of_decide_eq_true hout))⟩
  case sqTail q i bad => exact ⟨.outsideBar2, if_neg (Nat.not_lt.2 (of_decide_eq_true hout))⟩
  case cqHead q i => exact ⟨.outsideBar2, if_neg (Nat.not_lt.2 (of_decide_eq_true hout))⟩
  case msixTableWrite i v => exact ⟨.outsideBar2, if_neg (Nat.not_lt.2 (of_decide_eq_true hout))⟩
  all_goals cases hout

theorem outsideBars_iff (c : Instr) :
    outsideBars c = true ↔
      ((∃ o v w, c = .registerWrite o v w ∧ 16777216 ≤ o) ∨ (∃ o w, c = .bar0ReadFault o w ∧ 16777216 ≤ o) ∨ (∃ q i b, c = .sqTail q i b ∧ 32 ≤ q) ∨
       (∃ q i, c = .cqHead q i ∧ 32 ≤ q) ∨ (∃ i v, c = .msixTableWrite i v ∧ 32768 ≤ i)) := by
  constructor
  case mp =>
    intro h
    cases c
    case registerWrite o v w => exact .inl ⟨o, v, w, rfl, of_decide_eq_true h⟩
    case bar0ReadFault o w => exact .inr (.inl ⟨o, w, rfl, of_decide_eq_true h⟩)
    case sqTail q i bad => exact .inr (.inr (.inl ⟨q, i, bad, rfl, of_decide_eq_true h⟩))
    case cqHead q i => exact .inr (.inr (.inr (.inl ⟨q, i, rfl, of_decide_eq_true h⟩)))
    case msixTableWrite i v => exact .inr (.inr (.inr (.inr ⟨i, v, rfl, of_decide_eq_true h⟩)))
    all_goals cases h
  case mpr =>
    rintro (⟨o, v, w, rfl, h⟩ | ⟨o, w, rfl, h⟩ | ⟨q, i, b, rfl, h⟩ | ⟨q, i, rfl, h⟩ | ⟨i, v, rfl, h⟩) <;> exact decide_eq_true h

/-- A command whose operands are in range stays inside the windows. -/
theorem outsideBars_of_wf (c : Instr) (h : c.wf = true) : outsideBars c = false := by
  cases c
  case registerWrite o v w => simpa [Instr.wf, isBelow, outsideBars] using h
  case bar0ReadFault o w => simpa [Instr.wf, isBelow, outsideBars] using h
  case sqTail q i bad => simp [Instr.wf, isBelow] at h; simp [outsideBars, h.1]
  case cqHead q i => simp [Instr.wf, isBelow] at h; simp [outsideBars, h.1]
  case msixTableWrite i v => simp [Instr.wf, isBelow] at h; simp [outsideBars]; omega
  all_goals rfl

-- The whole machine --------------------------------------------------------------------------------------------------------

theorem State.cold_pending (s : State) (causes : Nat) (pwr : Pwr) : (s.cold causes pwr).pending = s.pending := rfl

@[simp] theorem State.holdSet_frame (s : State) : s.holdSet.pending = s.pending ∧ s.holdSet.snap = s.snap ∧ s.holdSet.dram = s.dram := ⟨rfl, rfl, rfl⟩
@[simp] theorem State.holdClear_frame (s : State) : s.holdClear.pending = s.pending ∧ s.holdClear.snap = s.snap ∧ s.holdClear.dram = s.dram := ⟨rfl, rfl, rfl⟩
@[simp] theorem State.holdExpired_frame (s : State) : s.holdExpired.pending = s.pending ∧ s.holdExpired.snap = s.snap ∧ s.holdExpired.dram = s.dram := by
  unfold State.holdExpired
  split
  · split <;> exact ⟨rfl, rfl, rfl⟩
  · exact ⟨rfl, rfl, rfl⟩

@[simp] theorem State.registerWrite_frame (s : State) (off : Nat) (v : Word) (whole : Bool) :
    (s.registerWrite off v whole).pending = s.pending ∧ (s.registerWrite off v whole).snap = s.snap ∧ (s.registerWrite off v whole).dram = s.dram := by
  unfold State.registerWrite
  dsimp only
  split
  · split <;> split <;> simp
  · exact ⟨rfl, rfl, rfl⟩

theorem State.registerWrite_held (s : State) (off : Nat) (v : Word) (whole : Bool) (h : ¬(off = R.SYS_SNAP_CTRL ∧ whole = true)) :
    (s.registerWrite off v whole).held = s.held := by
  simp only [State.registerWrite, h, if_false]

theorem State.bootExit_frame (s : State) : s.bootExit.pending = s.pending ∧ s.bootExit.held = s.held ∧ s.bootExit.dram = s.dram := by
  refine ⟨?_, ?_, ?_⟩ <;> (unfold State.bootExit; rfl)

theorem State.boundary_frame (s : State) (late : Bool) (phase : Int) : (s.boundary late phase).pending = s.pending ∧ (s.boundary late phase).held = s.held := by
  constructor <;> (unfold State.boundary; rfl)

theorem State.periodBoundary_frame (s : State) (late : Bool) (phase : Int) :
    (s.periodBoundary late phase).pending = s.pending ∧ (s.periodBoundary late phase).held = s.held := by
  unfold State.periodBoundary
  split
  · exact ⟨rfl, rfl⟩
  split
  · split
    · exact ⟨s.bootExit_frame.1, s.bootExit_frame.2.1⟩
    · exact ⟨rfl, rfl⟩
  · exact s.boundary_frame late phase

/-- A removal of power leaves the waiting commands. -/
theorem exec_removesPower_pending (c : Instr) (s t : State) (h : exec c s = .next t) (hp : removesPower c = true) : t.pending = s.pending := by
  cases c
  case powerOn => cases h; rfl
  case porbAssert => cases h; unfold State.porbAssert; split <;> rfl
  case hardCut => cases h; unfold State.hardCut; split <;> rfl
  case aonBrownout => cases h; unfold State.brownout; split <;> rfl
  case powerDown => cases h; unfold State.powerDown; split <;> rfl
  all_goals cases hp

/-- A command that answers a next state is inside the windows. -/
theorem outsideBars_of_next (c : Instr) (s t : State) (h : exec c s = .next t) : outsideBars c = false := by
  by_contra hout
  obtain ⟨f, hf⟩ := exec_fault c s (by simpa using hout)
  rw [hf] at h
  cases h

theorem execRegisterWrite_next (s t : State) (off : Nat) (v : Word) (whole : Bool) (h : exec (.registerWrite off v whole) s = .next t) :
    t = s.registerWrite off v whole := by
  have hin := outsideBars_of_next _ s t h
  have hoff : off < 16777216 := Nat.not_le.1 (of_decide_eq_false hin)
  exact (Host.Outcome.next.inj ((if_pos hoff).symm.trans h)).symm

-- The obligations ----------------------------------------------------------------------------------------------------------

/-- Settles O1: a step on a queue that is not empty takes its front command by definition. -/
theorem stepRunsTheFrontCommand : Obligations.StepRunsTheFrontCommand := by
  intro s c rest hpending
  simp only [step, hpending]

/-- Settles O4: the reset DRAM lists no byte. -/
theorem resetDramCanonical : Obligations.ResetDramCanonical := dramWf_nil

/-- Settles O6: commands of the device touch none of the three; the hold, the boundary and the removal of power are looked at one by one. -/
theorem readsMoveAtBoundaries : Obligations.ReadsMoveAtBoundaries := by
  intro c s t h
  have hin := outsideBars_of_next c s t h
  by_cases hm : movesMachine c = true
  case neg =>
    obtain ⟨d, hd⟩ := exec_onDev c s hin (Bool.eq_false_iff.2 hm)
    obtain rfl : { s with dev := d } = t := Host.Outcome.next.inj (hd.symm.trans h)
    exact ⟨rfl, fun _ => ⟨fun _ => ⟨rfl, rfl⟩, fun _ _ _ _ => rfl⟩⟩
  case pos =>
    by_cases hp : removesPower c = true
    case pos => exact ⟨exec_removesPower_pending c s t h hp, fun hno => absurd (hp.symm.trans hno) (by decide)⟩
    case neg =>
      cases c
      case periodBoundary late phase =>
        cases h
        exact ⟨(s.periodBoundary_frame late phase).1, fun _ => ⟨fun hno => absurd rfl (hno late phase), fun _ _ _ _ => (s.periodBoundary_frame late phase).2⟩⟩
      case holdSet => cases h; exact ⟨rfl, fun _ => ⟨fun _ => ⟨rfl, rfl⟩, fun hno => absurd rfl hno⟩⟩
      case holdClear => cases h; exact ⟨rfl, fun _ => ⟨fun _ => ⟨rfl, rfl⟩, fun _ hno => absurd rfl hno⟩⟩
      case holdExpired =>
        cases h
        obtain ⟨hpend, hsnap, hdram⟩ := s.holdExpired_frame
        exact ⟨hpend, fun _ => ⟨fun _ => ⟨hsnap, hdram⟩, fun _ _ hno => absurd rfl hno⟩⟩
      case registerWrite off v whole =>
        rw [execRegisterWrite_next s t off v whole h]
        obtain ⟨hpend, hsnap, hdram⟩ := s.registerWrite_frame off v whole
        refine ⟨hpend, fun _ => ⟨fun _ => ⟨hsnap, hdram⟩, fun _ _ _ hno => State.registerWrite_held s off v whole ?_⟩⟩
        rintro ⟨rfl, rfl⟩
        exact hno v rfl
      case powerOn | porbAssert | hardCut | aonBrownout | powerDown => exact absurd rfl hp
      all_goals cases hm

/-- Settles O7: operands in range lie inside the windows, and inside the windows every command has an effect. -/
theorem wellFormedCommandsComplete : Obligations.WellFormedCommandsComplete := fun c s hwf => exec_next c s (outsideBars_of_wf c hwf)

/-- Settles O8: the windows decide between an effect and a fault. That an MSI-X index at or above 32768 faults and one below it acts is the model's choice (log 41). -/
theorem onlyOutsideAccessesStop : Obligations.OnlyOutsideAccessesStop := by
  intro c s
  rw [← outsideBars_iff c]
  by_cases hout : outsideBars c = true
  case pos =>
    obtain ⟨f, hf⟩ := exec_fault c s hout
    refine ⟨fun r hr => ?_, fun _ => hout, fun _ => ⟨f, hf⟩⟩
    rw [hf] at hr
    cases hr
  case neg =>
    obtain ⟨t, ht⟩ := exec_next c s (Bool.eq_false_iff.2 hout)
    refine ⟨fun r hr => ?_, fun ⟨f, hf⟩ => ?_, fun h => absurd h hout⟩
    · rw [ht] at hr
      cases hr
    · rw [ht] at hf
      cases hf

end Sys2Proof.Machine
end

section
/-! SUPPORT. The recorder DRAM over a step (R488, R497): what the recorder writes at a boundary is written byte by byte, and a powered-down recorder holds nothing. -/
namespace Sys2Proof.Machine

/-- The recorder memory beside the recorder is in its canonical form. -/
def RecSt.memOk (x : RecSt) : Prop := dramWf x.dram = true

theorem RecSt.row_memOk (x : RecSt) (k sync : Nat) (vals : List (Option Word)) (h : x.memOk) : (x.row k sync vals).memOk := by
  unfold RecSt.row
  dsimp only
  split
  · exact h
  split
  · exact h
  split
  · exact dramPutWords_wf _ _ _ h
  · exact h

theorem RecSt.trigger_dram (x : RecSt) (t : Trig) : (x.trigger t).dram = x.dram := by
  unfold RecSt.trigger
  dsimp only
  split
  case h_2 => split <;> rfl
  all_goals rfl

theorem RecSt.triggers_dram (x : RecSt) (b : Nat) : (x.triggers b).dram = x.dram :=
  foldl_same RecSt.dram RecSt.trigger RecSt.trigger_dram _ _

theorem RecSt.close_memOk (x : RecSt) (ended : Bool) (kNext : Nat) (h : x.memOk) : (x.close ended kNext).memOk := by
  simp only [RecSt.memOk, RecSt.close, dramPutWords_wf _ _ _ h]

theorem RecSt.epoch_memOk (x : RecSt) (v : Dev) (ps : List (Option Path)) (k sync b : Nat) (h : x.memOk) : (x.epoch v ps k sync b).memOk := by
  have hrow : (({ x with dev := x.dev.recConditions k sync (v.recSample ps) } : RecSt).row k sync (v.recSample ps)).memOk := RecSt.row_memOk _ k sync _ h
  have htrig := hrow
  unfold RecSt.memOk at htrig
  rw [← RecSt.triggers_dram _ b] at htrig
  unfold RecSt.epoch
  dsimp only
  split
  · exact RecSt.close_memOk _ _ _ htrig
  · exact htrig

theorem RecSt.finish_memOk (x : RecSt) (old : Dev) (kNext : Nat) (h : x.memOk) : (x.finish old kNext).memOk := by
  unfold RecSt.finish RecSt.memOk
  extract_lets d y
  have hy : y.memOk := RecSt.close_memOk _ true kNext h
  split
  · dsimp only
    exact hy
  · split <;> exact h

theorem RecSt.command_memOk (x : RecSt) (kNext : Nat) (c : RecCmd) (h : x.memOk) : (x.command kNext c).memOk := by
  unfold RecSt.command
  dsimp only
  split
  case h_1 => split <;> exact h
  case h_2 => exact RecSt.finish_memOk _ _ _ h
  all_goals exact h

theorem RecSt.commands_memOk (x : RecSt) (b kNext : Nat) (h : x.memOk) : (x.commands b kNext).memOk := by
  unfold RecSt.commands
  dsimp only
  refine foldl_keeps RecSt.memOk _ (fun y c hy => RecSt.command_memOk y kNext c hy) _ _ ?_
  split <;> exact h

theorem RecSt.committed_memOk (x : RecSt) (o : Dev) (stepped : Bool) (kNext : Nat) (h : x.memOk) : (x.committed o stepped kNext).memOk := by
  have hfinish : (if stepped || x.dev.cycles != o.cycles || x.dev.recChanged o then x.finish o kNext else x).memOk := by
    split
    · exact RecSt.finish_memOk _ _ _ h
    · exact h
  unfold RecSt.committed
  dsimp only
  split <;> exact hfinish

theorem State.boundary_memOk (s : State) (late : Bool) (phase : Int) (h : dramWf s.dram = true) : dramWf (s.boundary late phase).dram = true := by
  unfold State.boundary
  extract_lets d k b x e void ok expired wasActive hold ps frtMap f1 f2 f3 v rc f4 g0 g1 c g2 reload kn g3 g4 sp reqs stepped g5 g6 rx ry
  have hrc : rc.memOk := by
    simp only [rc]
    split
    · exact RecSt.epoch_memOk _ _ _ _ _ _ h
    · exact h
  have hrx : rx.memOk := by
    simp only [rx, RecSt.memOk]
    split
    · exact dramWf_nil
    · exact hrc
  have hry : ry.memOk := by
    refine RecSt.commands_memOk _ _ _ ?_
    split
    · exact RecSt.committed_memOk _ _ _ _ hrx
    · exact hrx
  dsimp only
  exact hry

theorem State.periodBoundary_memOk (s : State) (late : Bool) (phase : Int) (h : dramWf s.dram = true) : dramWf (s.periodBoundary late phase).dram = true := by
  unfold State.periodBoundary
  split
  · exact h
  split
  · split
    · rw [s.bootExit_frame.2.2]; exact h
    · exact h
  · exact s.boundary_memOk late phase h

/-- A removal of power empties the recorder DRAM, or is none. -/
theorem exec_removesPower_memOk (c : Instr) (s t : State) (h : exec c s = .next t) (hp : removesPower c = true) (hs : dramWf s.dram = true) :
    dramWf t.dram = true := by
  cases c
  case powerOn => cases h; exact dramWf_nil
  case porbAssert => cases h; unfold State.porbAssert; split; exacts [hs, dramWf_nil]
  case hardCut => cases h; unfold State.hardCut; split; exacts [hs, dramWf_nil]
  case aonBrownout => cases h; unfold State.brownout; split; exacts [hs, dramWf_nil]
  case powerDown => cases h; unfold State.powerDown; split; exacts [dramWf_nil, hs]
  all_goals cases hp

/-- No command brings the recorder DRAM out of its canonical form. -/
theorem exec_memOk (c : Instr) (s t : State) (h : exec c s = .next t) (hs : dramWf s.dram = true) : dramWf t.dram = true := by
  by_cases hp : removesPower c = true
  case pos => exact exec_removesPower_memOk c s t h hp hs
  case neg =>
    obtain ⟨_, hreads⟩ := readsMoveAtBoundaries c s t h
    obtain ⟨hdram, _⟩ := hreads (by simpa using hp)
    by_cases hb : ∃ late phase, c = .periodBoundary late phase
    case pos =>
      obtain ⟨late, phase, rfl⟩ := hb
      obtain rfl : s.periodBoundary late phase = t := Host.Outcome.next.inj h
      exact s.periodBoundary_memOk late phase hs
    case neg =>
      rw [(hdram fun late phase he => hb ⟨late, phase, he⟩).2]
      exact hs

/-- Settles O3: the recorder writes at boundaries alone, and each of its writes keeps the form; an idle tick writes nothing. -/
theorem stepKeepsDramCanonical : Obligations.StepKeepsDramCanonical := by
  intro s t hs hstep
  unfold step at hstep
  split at hstep
  case h_1 =>
    obtain rfl : { s with dev := s.dev.idle } = t := Host.Outcome.next.inj hstep
    exact hs
  case h_2 c rest _ => exact exec_memOk c { s with pending := rest } t hstep hs

end Sys2Proof.Machine
end

section
/-! SUPPORT. Reset, and the command registers of BAR0 that leave a request to the boundary or to an end of a time (R41, R59, R60, R327, R334, R344, R365, R500, R501). -/
namespace Sys2Proof.Machine

-- Command registers --------------------------------------------------------------------------------------------------------

/-- A command of the device that is the write of an open command register runs there. -/
theorem onDev_bar0Cmd_open (s : State) (off maxLvl : Nat) (run : Dev → Dev) (h : s.dev.bar0Open off maxLvl = true) :
    onDev (fun d => d.bar0Cmd off maxLvl run) s = .next { s with dev := run s.dev } := by
  rw [onDev, Dev.bar0Cmd_open s.dev off maxLvl run h]

/-- A refused write of a command register is an access fault at that register. -/
theorem Dev.bar0Cmd_refused_fault (d : Dev) (off maxLvl : Nat) (run : Dev → Dev) (hoff : off < 2 ^ 24) (h : d.bar0Refused off maxLvl = true) :
    d.onlyFault (d.bar0Cmd off maxLvl run) ∧ (d.bar0Cmd off maxLvl run).apu.ofs = off := by
  rw [Dev.bar0Cmd_refused d off maxLvl run h]
  exact ⟨d.accessFault_only .., by rw [Dev.accessFault_ofs, Nat.mod_eq_of_lt hoff]⟩

-- Reset --------------------------------------------------------------------------------------------------------------------

/-- Settles O5: the fields at their defaults. That this state is the device with PORB asserted, every domain off and POR the only cause is the model's choice (log 69). -/
theorem resetLeavesBoot : Obligations.ResetLeavesBoot := by
  refine ⟨rfl, rfl, rfl, rfl, rfl, rfl, rfl, rfl, fun n => ?domains, fun q => ?queues, fun _ => rfl⟩
  case domains => simp only [State.reset, Dev.domOn, nth_replicate]
  case queues =>
    have hdefault : nth (List.replicate 32 ({ } : Queue)) q { } = ({ } : Queue) := nth_replicate 32 q _
    exact congrArg Queue.st hdefault

-- SYS ----------------------------------------------------------------------------------------------------------------------

/-- Settles O17: both writes of `SYS_COMMIT` add to the requests that wait, or are refused by level. -/
theorem commitRequestsWait : Obligations.CommitRequestsWait := by
  refine ⟨fun s hopen => ⟨?go, ?abandon⟩, fun s hrefused => ?refused⟩
  case go => exact onDev_bar0Cmd_open s _ _ _ hopen
  case abandon => exact onDev_bar0Cmd_open s _ _ _ hopen
  case refused =>
    have hcommit (go abandon : Bool) : s.dev.commitWrite go abandon = s.dev.accessFault none 2 R.SYS_COMMIT true := Dev.bar0Cmd_refused _ _ _ _ hrefused
    obtain ⟨hfault, hofs⟩ := s.dev.bar0Cmd_refused_fault R.SYS_COMMIT 2 id (by decide) hrefused
    rw [Dev.bar0Cmd_refused _ _ _ _ hrefused] at hfault hofs
    refine ⟨_, ?_, ?_, hfault, hofs⟩
    · exact congrArg (fun d => Host.Outcome.next { s with dev := d }) (hcommit true false)
    · exact congrArg (fun d => Host.Outcome.next { s with dev := d }) (hcommit false true)

/-- With HOLD clear the write keeps the snapshot of its moment (R59). -/
theorem State.holdSet_free (s : State) (hopen : s.dev.bar0Open R.SYS_SNAP_CTRL 3 = true) (hfree : s.dev.sys.holdStart = none) :
    s.holdSet = { s with dev := { s.dev.setRw R.SYS_SNAP_CTRL 1 with sys := { s.dev.sys with holdStart := some s.dev.tmb.up } }, held := some s.snap } := by
  simp [State.holdSet, Dev.bar0Cmd_open s.dev _ _ _ hopen, hfree]

/-- A second HOLD changes nothing (R59). -/
theorem State.holdSet_held (s : State) (hopen : s.dev.bar0Open R.SYS_SNAP_CTRL 3 = true) (hheld : s.dev.sys.holdStart.isSome = true) : s.holdSet = s := by
  simp [State.holdSet, Dev.bar0Cmd_open s.dev _ _ _ hopen, hheld, Option.isSome_iff_ne_none.1 hheld]

theorem State.holdClear_held (s : State) (hopen : s.dev.bar0Open R.SYS_SNAP_CTRL 3 = true) (hheld : s.dev.sys.holdStart.isSome = true) :
    s.holdClear = { s with dev := s.dev.holdOver, held := none } := by
  have hover : s.dev.holdOver.sys.holdStart = none := rfl
  simp [State.holdClear, Dev.bar0Cmd_open s.dev _ _ _ hopen, hheld, hover]

/-- What is written and differs from the default reads back, in any table. -/
theorem spGet_spPut_of_ne {α : Type} [DecidableEq α] (dflt : Nat → α) (k : Nat) (v : α) (m : List (Nat × α)) (hv : v ≠ dflt k) :
    spGet dflt (spPut dflt k v m) k = v := by
  induction m with
  | nil => simp [spPut, hv, spGet]
  | cons x m ih =>
    obtain ⟨j, w⟩ := x
    simp only [spPut, hv, if_false]
    split
    · simp [spGet]
    split
    · simp [spGet]
    · next hne => simp [spGet, Ne.symm hne, ih]

/-- A sticky bit set reads as set (R62). -/
theorem Dev.setSticky_bit (d : Dev) (off i : Nat) (bits : Word) (h : bits.getLsbD i = true) : ((d.setSticky off bits).stk off).getLsbD i = true := by
  have hbit : (d.stk off ||| bits).getLsbD i = true := by simp [h]
  have hne : d.stk off ||| bits ≠ zeroOf off := by
    intro hzero
    rw [hzero] at hbit
    simp [zeroOf] at hbit
  have hput : (d.setSticky off bits).stk off = d.stk off ||| bits := spGet_spPut_of_ne zeroOf off _ d.sticky hne
  rw [hput, hbit]

theorem State.holdExpired_due (s : State) (t : Nat) (hheld : s.dev.sys.holdStart = some t) (hdue : t + msU ≤ s.dev.tmb.up) :
    s.holdExpired = { s with dev := s.dev.holdOver.setSticky R.SYS_SNAP_CTRL 2, held := none } := by
  simp [State.holdExpired, hheld, hdue]

/-- Settles O20: HOLD set, set again, cleared, and at its limit of 1 ms. -/
theorem holdKeepsTheSnapshot : Obligations.HoldKeepsTheSnapshot := by
  refine ⟨fun s hopen hfree => ?set, fun s hopen hheld => ?again, fun s hopen hheld => ?clear, fun s t hheld => ⟨fun hdue => ?limit, fun hearly => ?early⟩⟩
  case set => exact ⟨_, congrArg Host.Outcome.next (s.holdSet_free hopen hfree), rfl⟩
  case again => exact congrArg Host.Outcome.next (s.holdSet_held hopen hheld)
  case clear => exact ⟨_, congrArg Host.Outcome.next (s.holdClear_held hopen hheld), rfl⟩
  case limit => exact ⟨_, congrArg Host.Outcome.next (s.holdExpired_due t hheld hdue), rfl, Dev.setSticky_bit _ _ 1 2 (by decide)⟩
  case early =>
    have hstays : s.holdExpired = s := by simp [State.holdExpired, hheld, Nat.not_le.2 hearly]
    exact congrArg Host.Outcome.next hstays

-- IKL ----------------------------------------------------------------------------------------------------------------------

/-- An answer of the request's tag, with the response bit, on an enabled lane completes the request it awaits (R327). -/
theorem Dev.mgmtResponse_completes (d : Dev) (lane : Nat) (bs : List Dword) (f : MFrame) (hparse : parseFrame bs = some f) (hon : d.laneOn lane = true)
    (hawaits : d.mgmtAwaits f.tag = true) (hop : 0x80 ≤ f.opcode) :
    d.mgmtResponse lane bs = { d with ikl := { d.ikl with mgmt := { d.ikl.mgmt with
      pending := false, frame := none, sent := none, ended := none, result := 2, rlen := f.data.length, rnode := f.target % 2 ^ 13,
      resp := f.data.flatMap (fun b => [hi32 b.toNat, lo32 b.toNat]) } } } := by
  simp [Dev.mgmtResponse, hparse, hon, hawaits, hop]

/-- Settles O37: the write, the answer, and the end of the wait (R67). -/
theorem managementRequests : Obligations.ManagementRequests := by
  refine ⟨fun s hopen => ?go, fun s lane bs f hparse hon htag hop hwaits => ?response, fun s k hsent hpend hend => ?timeout⟩
  case go =>
    refine ⟨_, onDev_bar0Cmd_open s _ _ _ hopen, ?_⟩
    by_cases hpend : s.dev.ikl.mgmt.pending = true
    · simp [Dev.mgmtGo, hpend]
    · simp [Dev.mgmtGo, hpend]
  case response =>
    have hawaits : s.dev.mgmtAwaits f.tag = true := by
      obtain ⟨hpend, hsent⟩ | ⟨hresult, t, hended, ht⟩ := hwaits
      · simp [Dev.mgmtAwaits, htag, hpend, Option.isSome_iff_ne_none.2 hsent]
      · simp [Dev.mgmtAwaits, htag, hresult, hended, ht]
    exact congrArg (fun d => Host.Outcome.next { s with dev := d }) (s.dev.mgmtResponse_completes lane bs f hparse hon hawaits hop)
  case timeout =>
    have hover : s.dev.noResponse = { s.dev with ikl := { s.dev.ikl with mgmt := s.dev.ikl.mgmt.unanswered (s.dev.tmb.sync + s.dev.tc) } } := by
      simp [Dev.noResponse, hsent, hpend, waitEnds, hend]
    exact congrArg (fun d => Host.Outcome.next { s with dev := d }) hover

/-- An entry changed in the table is found changed. -/
theorem findNode_modNode (d : Dev) (addr : Nat) (f : NodeEnt → NodeEnt) : findNode (d.modNode addr f).ikl.nodes addr = (findNode d.ikl.nodes addr).map f := by
  simp only [Dev.modNode, findNode]
  induction d.ikl.nodes with
  | nil => rfl
  | cons p l ih =>
    by_cases hp : p.1 = addr
    · simp [hp]
    · simpa [hp] using ih

/-- Settles O39: a release, a node asked back, the overflow table. -/
theorem nodeTableCommands : Obligations.NodeTableCommands := by
  refine ⟨fun s addr e hopen hfind hadm hrel => ?release, fun s addr e hopen hfind hback hfree hredo => ?readmit, fun s hopen => onDev_bar0Cmd_open s _ _ _ hopen⟩
  case release =>
    refine ⟨_, onDev_bar0Cmd_open s _ _ _ hopen, ?_⟩
    simp only [Bool.false_eq_true, if_false, Dev.nodeRelease, hfind, hadm, hrel, Option.isSome_none, or_self]
    refine ⟨rfl, ?_, rfl⟩
    have hmod := findNode_modNode s.dev (addr % 8192) (fun x => { x with rel := some (s.dev.tmb.epoch + 4) })
    rwa [hfind] at hmod
  case readmit =>
    have hno : s.dev.ikl.probes.any (fun p => p.own == some (addr % 8192)) = false := by simpa using hfree
    refine (onDev_bar0Cmd_open s _ _ _ hopen).trans ?_
    simp [Dev.nodeReadmit, hfind, hback, hno, hredo]

-- RDN ----------------------------------------------------------------------------------------------------------------------

/-- Settles O44: each time limit of a pair. -/
theorem pairTimersTakeEffect : Obligations.PairTimersTakeEffect := by
  refine ⟨fun s hen hrole hmode hst hst1 hrun => ?stale, fun s hst hrun => ?join, fun s t hat hdue => ?joinMs, fun s hst hdue => ?holdoff, fun s => ?grade⟩
  case stale => simp [exec, execStaleEp, onDev, Dev.staleEp, hen, hrole, hmode, hst, hst1, hrun]
  case join => simp [exec, execJoinEp, onDev, Dev.joinEp, hst, hrun]
  case joinMs =>
    have hraise : s.dev.joinMs = ({ s.dev with rdn := { s.dev.rdn with joinAt := none } }).raiseCause Cause.redundancy := by simp [Dev.joinMs, hat, hdue]
    exact ⟨s.dev.joinMs, rfl, hraise ▸ Dev.raiseCause_cause .., hraise ▸ Dev.raiseCause_up ..⟩
  case holdoff => simp [exec, execRevertMs, onDev, Dev.revertMs, hst, hdue]
  case grade => exact ⟨s.dev.gradeHold, rfl, rfl, fun hend => by simp [Dev.gradeHold, hend], fun hend => by simp [Dev.gradeHold, hend]⟩

-- REC ----------------------------------------------------------------------------------------------------------------------

/-- What a completion leaves of the host interface: everything but the queues and the messages of vectors (R536). -/
theorem Dev.complete_pci (d : Dev) (r : CompRef) (status result epoch : Nat) (data : List Word) :
    (d.complete r status result epoch data).pci = { d.pci with
      queues := (d.complete r status result epoch data).pci.queues, msixPending := (d.complete r status result epoch data).pci.msixPending,
      msixSent := (d.complete r status result epoch data).pci.msixSent } :=
  congrArg Dev.pci (d.complete_onlyQueue r status result epoch data).1

theorem Dev.complete_xfers (d : Dev) (r : CompRef) (status result epoch : Nat) (data : List Word) : (d.complete r status result epoch data).pci.xfers = d.pci.xfers := by
  rw [Dev.complete_pci]

/-- The fetch of an entry moves no region rule (R540). -/
@[simp] theorem Dev.fetched_regionAdmits (d : Dev) (q level off : Nat) (write : Bool) : (d.fetched q).regionAdmits level off write = d.regionAdmits level off write := rfl

@[simp] theorem Dev.fetched_epochAt (d : Dev) (q t : Nat) : (d.fetched q).epochAt t = d.epochAt t := rfl

theorem onDev_fetch_takes (s : State) (q op : Nat) (e : SqEntry) (run : Dev → CompRef → Dev) (h : s.dev.takesEntry q op e = true) :
    onDev (fun d => d.fetch q op e run) s = .next { s with dev := run (s.dev.fetched q) (s.dev.entryRef q op e) } := by
  rw [onDev, Dev.fetch_takes s.dev q op e run h]

theorem onDev_descForm_takes (s : State) (q op : Nat) (e : SqEntry) (form : Bool) (run : Dev → CompRef → Dev) (hform : form = true)
    (h : s.dev.takesEntry q op e = true) :
    onDev (fun d => d.descForm q e form op run) s = .next { s with dev := run (s.dev.fetched q) (s.dev.entryRef q op e) } := by
  rw [onDev, Dev.descForm_takes s.dev q op e form run hform h]

/-- `b` is `a` but for the recorder triggers and the host interface. -/
def Dev.onlyTriggers (a b : Dev) : Prop := b = { a with recd := { a.recd with hostT := b.recd.hostT, trigs := b.recd.trigs }, pci := b.pci }

theorem Dev.onlyTriggers_of_fetched {a b c : Dev} (hab : b = { a with pci := b.pci }) (hbc : b.onlyTriggers c) : a.onlyTriggers c := by
  unfold Dev.onlyTriggers at *
  rw [hbc, hab]

/-- A host trigger is held or taken; one that it displaces is completed (R500). -/
theorem Dev.hostTrigger_frame (d : Dev) (t : Nat) (c : CompRef) : d.onlyTriggers (d.hostTrigger t c) := by
  unfold Dev.onlyTriggers Dev.hostTrigger
  split
  · cases d.recd.hostT with
    | none => rfl
    | some o => simp only [Dev.complete_recd]; rw [Dev.complete_only]
  · rfl

/-- One ahead of its time is held. -/
theorem Dev.hostTrigger_later (d : Dev) (t : Nat) (c : CompRef) (h : d.tmb.now < t) :
    (d.hostTrigger t c).recd.hostT = some (t, c) ∧ (d.hostTrigger t c).recd.trigs = d.recd.trigs := by
  unfold Dev.hostTrigger
  simp only [h, if_true]
  cases d.recd.hostT with
  | none => simp only [and_self]
  | some o => simp only [Dev.complete_recd, and_self]

/-- One whose time has come is taken with the epoch of its time. -/
theorem Dev.hostTrigger_now (d : Dev) (t : Nat) (c : CompRef) (h : t ≤ d.tmb.now) :
    (d.hostTrigger t c).recd.hostT = d.recd.hostT ∧ (d.hostTrigger t c).recd.trigs = d.recd.trigs ++ [⟨26, t, d.epochAt t, some c⟩] := by
  simp [Dev.hostTrigger, Nat.not_lt.2 h]

/-- A REC_XFER that no rule refuses names the segment it reads (R493, R523). -/
theorem Dev.xferReq_waits (d : Dev) (e : SqEntry) (r : CompRef) (y : Nat × Nat) (hread : d.regionAdmits (d.level (some r.q)) 0xC00000 false = true)
    (hon : d.domOn 11 = true) (hseg : d.recd.segs.find? (fun x => x.1 == sqF e 1 12 0) = some y) (hoff : (sqW e 2).toNat % 4 = 0) (hlen : (sqW e 3).toNat % 4 = 0)
    (hsize : (sqW e 2).toNat + (sqW e 3).toNat ≤ d.segSize) :
    d.xferReq e r = { d with pci := { d.pci with xfers := d.pci.xfers ++ [⟨r, sqF e 1 12 0, (sqW e 2).toNat, (sqW e 3).toNat, y.2, false⟩] } } := by
  have hinside : ¬((sqW e 2).toNat % 4 ≠ 0 ∨ (sqW e 3).toNat % 4 ≠ 0 ∨ d.segSize < (sqW e 2).toNat + (sqW e 3).toNat) := by omega
  simp [Dev.xferReq, hread, hon, hseg, hinside]

/-- The end of the oldest transfer of a queue takes it from the list and completes it (R523). -/
theorem Dev.xferDone_frame (d : Dev) (dram : List Host.Cell) (q : Nat) (t : Xfer) (h : d.pci.xfers.find? (fun x => x.ref.q == q) = some t) :
    d.xferDone dram q = { d with pci := (d.xferDone dram q).pci, free := (d.xferDone dram q).free } ∧ (d.xferDone dram q).pci.xfers = d.pci.xfers.erase t := by
  unfold Dev.xferDone
  simp only [h]
  split
  · exact ⟨by rw [Dev.completeOpen_only], Dev.complete_xfers ..⟩
  · exact ⟨by rw [Dev.complete_only], Dev.complete_xfers ..⟩

/-- Settles O52: the writes of `REC_CMD`, a held trigger at its time, the two descriptors, and the end of a transfer. -/
theorem recorderRequestsWait : Obligations.RecorderRequestsWait := by
  refine ⟨fun s hopen => ⟨?arm, ?disarm, ?trig⟩, fun s seg hopen => ⟨?reset, ?free⟩, fun s t c hheld hdue => ?due, fun s q e htakes hlvl hon => ?descriptor,
    fun s q e y htakes hread hon hseg hoff hlen hsize => ?xfer, fun s q t hfind => ?xferDone⟩
  case arm => exact onDev_bar0Cmd_open s _ _ _ hopen
  case disarm => exact onDev_bar0Cmd_open s _ _ _ hopen
  case trig => exact onDev_bar0Cmd_open s _ _ _ hopen
  case reset => exact onDev_bar0Cmd_open s _ _ _ hopen
  case free => exact onDev_bar0Cmd_open s _ _ _ hopen
  case due => simp [exec, execHostTriggerDue, onDev, Dev.hostDue, hheld, hdue]
  case descriptor =>
    have hrun : (s.dev.fetched q).trigReq e (s.dev.entryRef q Op.recTrig e) = (s.dev.fetched q).hostTrigger (sqT e 2) (s.dev.entryRef q Op.recTrig e) := by
      have hlvl' : (s.dev.fetched q).level (some (s.dev.entryRef q Op.recTrig e).q) ≤ 2 := by rwa [Dev.fetched_level]
      have hon' : (s.dev.fetched q).domOn 11 = true := hon
      rw [Dev.trigReq, Dev.admitReq_admitted _ _ _ _ _ hlvl', if_pos hon']
    have hexec : exec (.recTrigDescriptor q e) s = .next { s with dev := (s.dev.fetched q).trigReq e (s.dev.entryRef q Op.recTrig e) } :=
      onDev_fetch_takes s q Op.recTrig e (fun x r => x.trigReq e r) htakes
    rw [hrun] at hexec
    refine ⟨_, hexec, ?frame, fun hlater => ?later, fun hnow => ?now⟩
    case frame => exact Dev.onlyTriggers_of_fetched (s.dev.fetched_only q) (Dev.hostTrigger_frame ..)
    case later => simpa using Dev.hostTrigger_later (s.dev.fetched q) (sqT e 2) (s.dev.entryRef q Op.recTrig e) (by rwa [Dev.fetched_tmb])
    case now => simpa using Dev.hostTrigger_now (s.dev.fetched q) (sqT e 2) (s.dev.entryRef q Op.recTrig e) (by rwa [Dev.fetched_tmb])
  case xfer =>
    have hread' : (s.dev.fetched q).regionAdmits ((s.dev.fetched q).level (some (s.dev.entryRef q Op.recXfer e).q)) 0xC00000 false = true := by
      rwa [Dev.fetched_regionAdmits, Dev.fetched_level]
    have hwaits := Dev.xferReq_waits (s.dev.fetched q) e (s.dev.entryRef q Op.recXfer e) y hread' hon hseg hoff hlen hsize
    exact ⟨_, (onDev_fetch_takes s q _ e _ htakes).trans (by rw [hwaits]), rfl, rfl⟩
  case xferDone =>
    obtain ⟨hframe, hxfers⟩ := s.dev.xferDone_frame s.dram q t hfind
    exact ⟨s.dev.xferDone s.dram q, rfl, hframe, hxfers⟩

end Sys2Proof.Machine
end

section
/-! SUPPORT. Power, BOOT, temperature and the reserve store: what the commands of R576–R602 do, each in the parts of the device that it names. -/
namespace Sys2Proof.Machine

-- An unreached device ------------------------------------------------------------------------------------------------------

theorem Dev.vltWrite_down (d : Dev) (run : Dev → Dev) (h : d.hostUp = false) : d.vltWrite run = d := by
  simp [Dev.vltWrite, h]

theorem Dev.regWrite_down (d : Dev) (off : Nat) (v : Word) (whole : Bool) (h : d.hostUp = false) : d.regWrite off v whole = d := by
  simp [Dev.regWrite, h]

theorem State.holdSet_down (s : State) (h : s.dev.hostUp = false) : s.holdSet = s := by
  simp only [State.holdSet, Dev.bar0Cmd_down s.dev _ _ _ h]
  cases s.dev.sys.holdStart <;> rfl

theorem State.holdClear_down (s : State) (h : s.dev.hostUp = false) : s.holdClear = s := by
  simp only [State.holdClear, Dev.bar0Cmd_down s.dev _ _ _ h]
  cases s.dev.sys.holdStart <;> rfl

theorem State.registerWrite_down (s : State) (off : Nat) (v : Word) (whole : Bool) (h : s.dev.hostUp = false) : s.registerWrite off v whole = s := by
  unfold State.registerWrite
  rw [State.holdSet_down s h, State.holdClear_down s h, Dev.regWrite_down s.dev off v whole h, ite_self]
  dsimp only
  rw [Dev.bar0Cmd_down s.dev _ _ _ h, ite_self, ite_self]

/-- The next state follows the device. -/
theorem next_congr (s : State) {a b : Dev} (h : a = b) : (Host.Outcome.next { s with dev := a } : Host.Outcome State Fault Refusal) = .next { s with dev := b } := by
  rw [h]

/-- A command that leaves the device as it is leaves the state. -/
theorem next_same (s : State) (d : Dev) (h : d = s.dev) : (Host.Outcome.next { s with dev := d } : Host.Outcome State Fault Refusal) = .next s :=
  next_congr s h

/-- Settles O9: every BAR0 row asks first whether the host reaches the device. That accesses need the domains 3 and 5 and have no effect without them is the model's
choice (log 37). -/
theorem unreachedDeviceIgnoresBar0 : Obligations.UnreachedDeviceIgnoresBar0 := by
  intro c s hdown hbar
  have hcmd (off maxLvl : Nat) (run : Dev → Dev) : s.dev.bar0Cmd off maxLvl run = s.dev := s.dev.bar0Cmd_down off maxLvl run hdown
  have helse (off maxLvl : Nat) (denied run : Dev → Dev) : s.dev.bar0CmdElse off maxLvl denied run = s.dev := s.dev.bar0CmdElse_down off maxLvl denied run hdown
  have hvault (run : Dev → Dev) : s.dev.vltWrite run = s.dev := s.dev.vltWrite_down run hdown
  cases c
  case registerWrite o v w =>
    have hin : o < 16777216 := of_decide_eq_true hbar
    exact (if_pos hin).trans (congrArg Host.Outcome.next (s.registerWrite_down o v w hdown))
  case bar0ReadFault o w =>
    have hin : o < 16777216 := of_decide_eq_true hbar
    exact (if_pos hin).trans (next_same s _ (by simp [Dev.readFault, hdown]))
  case holdSet => exact congrArg Host.Outcome.next (s.holdSet_down hdown)
  case holdClear => exact congrArg Host.Outcome.next (s.holdClear_down hdown)
  case sysModeReq t =>
    refine next_same s _ ?_
    unfold Dev.modeWrite
    exact helse ..
  case tmbAdjGoIncr =>
    refine next_same s _ ?_
    unfold Dev.incrWrite
    exact helse ..
  case tmbAdjGoStep =>
    refine next_same s _ ?_
    unfold Dev.stepWrite
    exact helse ..
  case schedCmdArm e =>
    refine next_same s _ ?_
    unfold Dev.armWrite
    exact helse ..
  case schedCmdCancel e =>
    refine next_same s _ ?_
    unfold Dev.cancelWrite
    exact hcmd ..
  case accept x =>
    refine next_same s _ ?_
    exact (ite_congr rfl (fun _ => hcmd ..) (fun _ => rfl)).trans (ite_self _)
  case keep x =>
    refine next_same s _ ?_
    exact (ite_congr rfl (fun _ => hcmd ..) (fun _ => rfl)).trans (ite_self _)
  case adcCorecSoft n =>
    refine next_same s _ ?_
    exact (ite_congr rfl (fun _ => hcmd ..) (fun _ => rfl)).trans (ite_self _)
  case provision | setOwner | storeCert | ctrInc | sealVault | attest | challenge | unlock =>
    refine next_same s _ ?_
    exact hvault _
  case commitGo | commitAbandon | tripCtrlTrip | tripCtrlClear | tmbCap | mgmtGo | rebuild | scan | nodeCmdRelease | nodeCmdReadmit | ovfClear
    | reenable | test | recArm | recDisarm | recTrig | recReset | recFree | rsvErase | rsvCompact | vltBootGo =>
    refine next_same s _ ?_
    exact hcmd ..
  all_goals cases hbar

-- The removal of power -----------------------------------------------------------------------------------------------------

/-- What `PowerRemovalLeavesReset` says of the state left behind, with the causes it shows as a parameter. -/
def LeavesReset (s t : State) (causes : Nat) : Prop :=
  t.pending = s.pending ∧ t.dram = [] ∧ t.held = none ∧ t.snap = t.dev ∧ t.dev.mode = .boot ∧ t.dev.sys = {} ∧
    (∀ n, t.dev.domOn n = false) ∧ (∀ q, (t.dev.queue q).st = 0) ∧ (∀ off, t.dev.act off = resetOf off ∧ t.dev.stg off = resetOf off) ∧
    t.dev.nodes = s.dev.nodes ∧ t.dev.rsv.mram = s.dev.cutMram ∧ t.dev.vlt = s.dev.vlt.kept ∧ t.dev.boot.causeNext = causes

/-- A device with no domain on at all. -/
theorem Dev.domOn_of_off (d : Dev) (h : d.pwr.on = List.replicate 14 none) (n : Nat) : d.domOn n = false := by
  simp only [Dev.domOn, h, nth_replicate]

/-- A queue at its reset value is disabled. -/
theorem Dev.queue_of_reset (d : Dev) (h : d.pci.queues = List.replicate 32 { }) (q : Nat) : (d.queue q).st = 0 := by
  simp only [Dev.queue, h, nth_replicate]

theorem State.cold_leavesReset (s : State) (causes : Nat) (pwr : Pwr) (hpwr : pwr.on = List.replicate 14 none) :
    LeavesReset s (s.cold causes pwr) (s.dev.boot.causeNext ||| causes) :=
  ⟨rfl, rfl, rfl, rfl, rfl, rfl, Dev.domOn_of_off _ hpwr, Dev.queue_of_reset _ rfl, fun _ => ⟨rfl, rfl⟩, rfl, rfl, rfl, rfl⟩

theorem State.powerOn_leavesReset (s : State) : LeavesReset s s.powerOn 1 :=
  ⟨rfl, rfl, rfl, rfl, rfl, rfl, Dev.domOn_of_off _ rfl, Dev.queue_of_reset _ rfl, fun _ => ⟨rfl, rfl⟩, rfl, rfl, rfl, rfl⟩

/-- Settles O11: each of the five commands ends in the cold state with its own cause. That an empty recorder DRAM is what remains is the model's choice (log 7): R497 says
only that its contents are not retained. -/
theorem powerRemovalLeavesReset : Obligations.PowerRemovalLeavesReset := by
  intro c s htakes
  cases c
  case powerOn => exact ⟨_, rfl, s.powerOn_leavesReset⟩
  case porbAssert =>
    have hporb : s.dev.pwr.porb = false := by simpa [takesPower] using htakes
    exact ⟨_, congrArg Host.Outcome.next (by rw [State.porbAssert, hporb, if_neg Bool.false_ne_true]), s.cold_leavesReset 2 _ rfl⟩
  case hardCut =>
    have hpow : s.dev.unpowered = false := by simpa [takesPower] using htakes
    exact ⟨_, congrArg Host.Outcome.next (by rw [State.hardCut, hpow, if_neg Bool.false_ne_true]), s.cold_leavesReset 16 _ rfl⟩
  case aonBrownout =>
    have hheld : s.dev.pwr.brownout = false := by simpa [takesPower] using htakes
    exact ⟨_, congrArg Host.Outcome.next (by rw [State.brownout, hheld, if_neg Bool.false_ne_true]), s.cold_leavesReset 32 _ rfl⟩
  case powerDown => exact ⟨_, congrArg Host.Outcome.next (if_pos htakes), s.cold_leavesReset 0 _ rfl⟩
  all_goals cases htakes

-- The end of a reset -------------------------------------------------------------------------------------------------------

/-- What the start of BOOT writes (R92, R577, R584). -/
theorem Dev.startBoot_frame (d : Dev) : d.startBoot = { d with pwr := { porb := false, rising := [1], seqNext := 2 }, boot := d.startBoot.boot, clk := d.startBoot.clk, vlt := d.startBoot.vlt } :=
  rfl

/-- `b` is `a` but for the banks, the restore code, the reserve store and the events. -/
def Dev.onlyRestored (a b : Dev) : Prop :=
  b = { a with active := b.active, staging := b.staging, boot := { a.boot with restore := b.boot.restore }, rsv := b.rsv, pci := b.pci }

theorem Dev.restore_only (d : Dev) : d.onlyRestored d.restore := by
  unfold Dev.restore
  extract_lets m erased plain
  split
  · rfl
  split
  · rfl
  · dsimp only
    split <;> rfl

/-- Steps 5 and 6 keep the power, the system controller, the nodes and the vault. -/
theorem Dev.bootGood_frame (d : Dev) :
    d.bootGood = { d with active := d.bootGood.active, staging := d.bootGood.staging, boot := { d.boot with restore := d.bootGood.boot.restore, step := 6 }
                          rsv := d.bootGood.rsv, pci := d.bootGood.pci, clk := d.bootGood.clk, tmb := d.bootGood.tmb } := by
  have hrestore := d.restore_only
  unfold Dev.onlyRestored at hrestore
  unfold Dev.bootGood Dev.timebaseStart
  dsimp only
  rw [hrestore]

theorem Dev.bootGood_boot (d : Dev) : d.bootGood.boot.source = d.boot.source ∧ d.bootGood.boot.step = 6 ∧ d.bootGood.vlt = d.vlt := by
  rw [Dev.bootGood_frame]
  exact ⟨rfl, rfl, rfl⟩

/-- An image is an attempt that moves the vault alone, and the subsystem identity when it is good (R549, R551). -/
theorem Dev.imageStep_frame (d : Dev) (fw cfg : List Nat) :
    (d.imageStep fw cfg).1 = { d with vlt := (d.imageStep fw cfg).1.vlt, pci := (d.imageStep fw cfg).1.pci } := by
  unfold Dev.imageStep
  dsimp only
  split <;> rfl

theorem Dev.imageStep_attempts (d : Dev) (fw cfg : List Nat) : (d.imageStep fw cfg).1.vlt.attempts = sat16 d.vlt.attempts 1 := by
  unfold Dev.imageStep
  dsimp only
  split <;> rfl

/-- The result is 1 exactly for a good image. -/
theorem Dev.imageStep_result (d : Dev) (fw cfg : List Nat) : (d.imageStep fw cfg).1.vlt.bootResult = 1 ↔ (d.imageStep fw cfg).2 = true := by
  unfold Dev.imageStep
  dsimp only
  split
  · next hbad => simp [hbad]
  · next hgood => simpa using hgood

/-- What steps 2 to 6 of BOOT leave alone. -/
def Dev.keepsPower (a b : Dev) : Prop := b.pwr = a.pwr ∧ b.sys = a.sys ∧ b.nodes = a.nodes

theorem Dev.keepsPower_trans {a b c : Dev} (hab : a.keepsPower b) (hbc : b.keepsPower c) : a.keepsPower c :=
  ⟨hbc.1.trans hab.1, hbc.2.1.trans hab.2.1, hbc.2.2.trans hab.2.2⟩

theorem Dev.bootGood_keepsPower (d : Dev) : d.keepsPower d.bootGood := by
  rw [Dev.bootGood_frame]
  exact ⟨rfl, rfl, rfl⟩

theorem Dev.imageStep_keepsPower (d : Dev) (fw cfg : List Nat) : d.keepsPower (d.imageStep fw cfg).1 := by
  rw [Dev.imageStep_frame]
  exact ⟨rfl, rfl, rfl⟩

theorem Dev.bootImage_keepsPower (d : Dev) : d.keepsPower d.bootImage := by
  unfold Dev.bootImage
  extract_lets b d0 im b0 r r1 b1
  split
  · have himage : d.keepsPower r.1 := Dev.keepsPower_trans (b := { d0 with boot := { b0 with source := 1, flashTried := true } }) ⟨rfl, rfl, rfl⟩ (Dev.imageStep_keepsPower ..)
    split
    · exact Dev.keepsPower_trans himage (Dev.bootGood_keepsPower _)
    · exact himage
  · exact ⟨rfl, rfl, rfl⟩

theorem Dev.selfTest_keepsPower (d : Dev) : d.keepsPower d.selfTest := by
  unfold Dev.selfTest
  split
  · exact Dev.bootImage_keepsPower { d with boot := { d.boot with selfTestOk := true } }
  · exact ⟨rfl, rfl, rfl⟩

theorem Dev.bootOn_keepsPower (d : Dev) : d.keepsPower d.bootOn := by
  unfold Dev.bootOn
  dsimp only
  split
  · split
    · exact Dev.selfTest_keepsPower { d with boot := { d.boot with step := 2 } }
    · exact ⟨rfl, rfl, rfl⟩
  split
  · exact Dev.selfTest_keepsPower d
  · exact ⟨rfl, rfl, rfl⟩

/-- The power-good of a domain notes when its logic runs (R577), beside the warm-up of the ADC cores for domain 8. -/
theorem Dev.domainUp_frame (d : Dev) (n : Nat) :
    (d.domainUp n).pwr = { d.pwr with on := setAt d.pwr.on (n - 1) (some (d.tmb.up + usU)), rising := d.pwr.rising.filter (· != n) } ∧
      (d.domainUp n).sys = d.sys ∧ (d.domainUp n).nodes = d.nodes ∧ (d.domainUp n).boot = d.boot := by
  have hwarm (x : Dev) (c : Nat) : (if x.abit R.ADC_CTRL c then x.adcWarm c else x) = { x with adc := (if x.abit R.ADC_CTRL c then x.adcWarm c else x).adc } := by
    split <;> rfl
  unfold Dev.domainUp
  dsimp only
  split
  · refine ⟨foldl_same Dev.pwr _ ?_ _ _, foldl_same Dev.sys _ ?_ _ _, foldl_same Dev.nodes _ ?_ _ _, foldl_same Dev.boot _ ?_ _ _⟩
    all_goals intro x c; rw [hwarm]
  · exact ⟨rfl, rfl, rfl, rfl⟩

/-- A domain that is powering up and reports power-good outside BOOT's start-up only counts as on. -/
theorem Dev.powerGood_later (d : Dev) (n : Nat) (hrise : d.pwr.rising.contains n = true) (hpow : d.unpowered = false) (hstep : d.boot.step ≠ 1) :
    d.powerGood n = d.domainUp n := by
  have hboot : (d.domainUp n).boot.step ≠ 1 := by rwa [(d.domainUp_frame n).2.2.2]
  have hgo : (!(d.pwr.rising.contains n) || d.unpowered) = false := by rw [hrise, hpow]; rfl
  rw [Dev.powerGood, hgo, if_neg Bool.false_ne_true]
  exact if_neg hboot

/-- During the start-up the next domain starts, and after the last one BOOT goes on (R577). -/
theorem Dev.powerGood_next (d : Dev) (n : Nat) (hrise : d.pwr.rising.contains n = true) (hpow : d.unpowered = false) (hstep : d.boot.step = 1) :
    ∃ x : Dev, d.powerGood n = x.bootOn ∧ x.sys = d.sys ∧ x.nodes = d.nodes ∧ x.pwr.on = setAt d.pwr.on (n - 1) (some (d.tmb.up + usU)) ∧
      (d.pwr.seqNext ≤ 14 → x.pwr.rising = [d.pwr.seqNext] ∧ x.pwr.seqNext = d.pwr.seqNext + 1) := by
  obtain ⟨hpwr, hsys, hnodes, hboot⟩ := d.domainUp_frame n
  have hone : (d.domainUp n).boot.step = 1 := by rwa [hboot]
  have hgo : (!(d.pwr.rising.contains n) || d.unpowered) = false := by rw [hrise, hpow]; rfl
  rw [Dev.powerGood, hgo, if_neg Bool.false_ne_true]
  refine ⟨_, if_pos hone, ?_⟩
  split
  · simp [hpwr, hsys, hnodes]
  · next hlast =>
    have hnot : ¬d.pwr.seqNext ≤ 14 := by simpa [hpwr] using hlast
    simp [hpwr, hsys, hnodes, hnot]

/-- Settles O12: the two ends of a reset that start BOOT, the hot one that does not, and power-good. That BOOT starts on the fallback clock is the model's choice (log 64). -/
theorem resetReleaseStartsBoot : Obligations.ResetReleaseStartsBoot := by
  refine ⟨fun s st sf fl hporb hbrown => ?release, fun s st sf fl => ?hot, fun s hbrown hporb => ?brownout, fun s n hrise hpow hn => ?powerGood⟩
  case release =>
    have hstart : s.dev.porbRelease false st sf fl = ({ s.dev with boot := { s.dev.boot with selfTestGood := st, flashGood := sf, flash := fl } }).startBoot := by
      simp [Dev.porbRelease, hporb, hbrown]
    exact ⟨_, next_congr s hstart, rfl, rfl, rfl, rfl, rfl, rfl, rfl, rfl, rfl⟩
  case hot => exact next_same s _ (by simp [Dev.porbRelease])
  case brownout =>
    have hstart : s.dev.brownoutRelease = s.dev.startBoot := by simp [Dev.brownoutRelease, hporb, hbrown]
    exact ⟨_, next_congr s hstart, rfl, rfl, rfl, rfl⟩
  case powerGood =>
    have hon (p : List (Option Nat)) (hp : p = setAt s.dev.pwr.on (n - 1) (some (s.dev.tmb.up + usU))) : nth p (n - 1) none = some (s.dev.tmb.up + usU) := by
      rw [hp, nth_setAt_self _ _ _ _ hn]
    by_cases hstep : s.dev.boot.step = 1
    · obtain ⟨x, hx, hsys, hnodes, hset, hnext⟩ := s.dev.powerGood_next n hrise hpow hstep
      obtain ⟨kpwr, ksys, knodes⟩ := x.bootOn_keepsPower
      exact ⟨_, next_congr s hx, hon _ (kpwr ▸ hset), ksys.trans hsys, knodes.trans hnodes, fun _ hseq => kpwr ▸ hnext hseq, fun hno => absurd hstep hno⟩
    · obtain ⟨hpwr, hsys, hnodes, hboot⟩ := s.dev.domainUp_frame n
      exact ⟨_, next_congr s (s.dev.powerGood_later n hrise hpow hstep), hon _ (by rw [hpwr]), hsys, hnodes, fun hone => absurd hone hstep, fun _ => ⟨by rw [hpwr], hboot⟩⟩

-- PWR_FAIL -----------------------------------------------------------------------------------------------------------------

/-- What the start of an orderly stop notes: its instant, its cause and the end of the journal (R592). -/
def Dev.stopNoted (d : Dev) (cause : Nat) : Dev :=
  { d with boot := { d.boot with causeNext := d.boot.causeNext ||| 2 ^ cause }, rsv := { d.rsv with stopped := true }
           pwr := { d.pwr with stopAt := some d.tmb.up, blockDone := d.mode == .boot } }

/-- An orderly stop that starts outside BOOT raises the cause THERMAL beside what it notes (R592). -/
theorem Dev.orderlyStop_starts (d : Dev) (cause : Nat) (hpow : d.unpowered = false) (hstop : d.pwr.stopAt = none) :
    d.orderlyStop cause = if d.mode = .boot then d.stopNoted cause else (d.stopNoted cause).raiseCause Cause.thermal := by
  have hon : (d.pwr.stopAt.isSome || d.pwr.porb || d.pwr.down || d.pwr.brownout) = false := by
    simp only [Dev.unpowered, Bool.or_eq_false_iff] at hpow
    simp [hstop, hpow]
  rw [Dev.orderlyStop, hon, if_neg Bool.false_ne_true]
  rfl

/-- A raised cause leaves power, the store and BOOT. -/
theorem Dev.raiseCause_power (d : Dev) (bit : Nat) :
    (d.raiseCause bit).pwr = d.pwr ∧ (d.raiseCause bit).rsv = d.rsv ∧ (d.raiseCause bit).boot = d.boot ∧ (d.raiseCause bit).thm = d.thm := by
  have honly := d.raiseCause_cause bit
  unfold Dev.onlyCause at honly
  rw [honly]
  exact ⟨rfl, rfl, rfl, rfl⟩

/-- The device with the pin PWR_FAIL asserted (R582). -/
def Dev.failing (d : Dev) : Dev := { d with pwr := { d.pwr with pwrFail := true } }

/-- Settles O13: in BOOT and outside it, and the pin's release. -/
theorem pwrFailStartsAnOrderlyStop : Obligations.PwrFailStartsAnOrderlyStop := by
  refine ⟨fun s hpow hstop => ?start, fun s => rfl⟩
  case start =>
    have hfail : s.dev.powerFail = if s.dev.mode = .boot then s.dev.failing.stopNoted 2 else (s.dev.failing.stopNoted 2).raiseCause Cause.thermal :=
      (if_neg (by simp [hpow])).trans (s.dev.failing.orderlyStop_starts 2 hpow hstop)
    by_cases hboot : s.dev.mode = .boot
    · exact ⟨_, next_congr s (hfail.trans (if_pos hboot)), rfl, rfl, rfl, rfl, fun hno => absurd hboot hno, fun _ => rfl⟩
    · refine ⟨_, next_congr s (hfail.trans (if_neg hboot)), ?_⟩
      obtain ⟨hpwr, hrsv, hbt, _⟩ := (s.dev.failing.stopNoted 2).raiseCause_power Cause.thermal
      rw [hpwr, hrsv, hbt]
      exact ⟨rfl, rfl, rfl, rfl, fun _ => Dev.raiseCause_up .., fun hyes => absurd hyes hboot⟩

-- The sensors --------------------------------------------------------------------------------------------------------------

/-- The sensors after a round: those in it take their reading, those out of it are reset (R587, R589). -/
def Dev.roundSensors (d : Dev) (rs : List Reading) : List Sensor :=
  forN 12 (fun n =>
    if d.sensorOn n && decide (n < rs.length) then
      let x := (nth d.thm.sensors n {}).take (decide (8 ≤ n)) (rs.getD n ⟨0, 0, false, false⟩)
      { x with level := levelOf (d.thresholds n) x.temp }
    else if d.sensorOn n then nth d.thm.sensors n {}
    else { nth d.thm.sensors n {} with level := 0, read := false, equal := 0 })

/-- A sensor that has a reading reaches STOP. -/
def Dev.roundStop (d : Dev) (rs : List Reading) : Bool :=
  (List.range 12).any (fun n => (d.sensorOn n && (nth (d.roundSensors rs) n {}).read) && decide (3 ≤ (nth (d.roundSensors rs) n {}).level))

theorem Dev.roundSensors_die (d : Dev) (rs : List Reading) (n : Nat) (r : Reading) (hn : n < 8) (hr : rs[n]? = some r) :
    nth (d.roundSensors rs) n {} =
      { (nth d.thm.sensors n {}).take false r with level := levelOf (d.thresholds n) ((nth d.thm.sensors n {}).take false r).temp } := by
  have hlen : n < rs.length := (List.getElem?_eq_some_iff.1 hr).1
  have hon : d.sensorOn n = true := by simp [Dev.sensorOn, hn]
  have hdie : decide (8 ≤ n) = false := by simpa using hn
  have hget : rs.getD n ⟨0, 0, false, false⟩ = r := by simp [List.getD, hr]
  rw [Dev.roundSensors, nth_forN _ _ _ _ (by omega)]
  simp only [hon, hlen, hdie, hget, decide_true, Bool.and_self, if_true]

theorem Dev.roundStop_level (d : Dev) (rs : List Reading) (h : d.roundStop rs = true) : ∃ n, n < 12 ∧ 3 ≤ (nth (d.roundSensors rs) n {}).level := by
  obtain ⟨n, hn, hat⟩ := List.any_eq_true.1 h
  simp only [Bool.and_eq_true, decide_eq_true_eq] at hat
  exact ⟨n, List.mem_range.1 hn, hat.2⟩

/-- `b` has the sensors of `a` and its STOP. -/
def Dev.sameSensors (a b : Dev) : Prop := b.thm.sensors = a.thm.sensors ∧ b.thm.stop = a.thm.stop

theorem Dev.sameSensors_trans {a b c : Dev} (hab : a.sameSensors b) (hbc : b.sameSensors c) : a.sameSensors c :=
  ⟨hbc.1.trans hab.1, hbc.2.trans hab.2⟩

theorem Dev.sameSensors_of_thm {a b : Dev} (h : b.thm = a.thm) : a.sameSensors b := by
  unfold Dev.sameSensors
  rw [h]
  exact ⟨rfl, rfl⟩

theorem Dev.thmEvent_thm (d : Dev) (mask : Nat) (p : Nat → Bool) : (d.thmEvent mask p).thm = d.thm := by
  unfold Dev.thmEvent
  split <;> rfl

theorem Dev.trims_sameSensors (d : Dev) : d.sameSensors d.trims := ⟨rfl, rfl⟩

theorem Dev.compactStart_frame (d : Dev) : d.compactStart = { d with rsv := d.compactStart.rsv } := by
  unfold Dev.compactStart
  dsimp only
  split
  · rfl
  split
  · rfl
  · split <;> rfl

theorem Dev.compactResume_thm (d : Dev) : d.compactResume.thm = d.thm := by
  unfold Dev.compactResume
  split
  · rw [Dev.compactStart_frame]
  · rfl

theorem Dev.orderlyStop_thm (d : Dev) (cause : Nat) : (d.orderlyStop cause).thm = d.thm := by
  unfold Dev.orderlyStop
  split
  · rfl
  dsimp only
  split
  · rfl
  · rw [(Dev.raiseCause_power ..).2.2.2]

theorem Dev.tlySettle_thm (d : Dev) : d.tlySettle.thm = d.thm := by
  refine foldl_same Dev.thm _ (fun x j => ?_) _ _
  dsimp only
  split
  · rfl
  split
  · split <;> rfl
  · split <;> rfl

/-- What a round leaves in the sensors and in STOP. -/
theorem Dev.thermalRound_sensors (d : Dev) (rs : List Reading) (hon : d.domOn 1 = true) :
    (d.thermalRound rs).thm.sensors = d.roundSensors rs ∧ (d.thermalRound rs).thm.stop = (d.thm.stop || d.roundStop rs) := by
  have hgo : ¬(!(d.domOn 1)) = true := by simp [hon]
  unfold Dev.thermalRound
  rw [if_neg hgo]
  extract_lets o old on ss cur live any warn thr stop fast top t0 d1 d2 d3 d4 d5
  have h1 : d1.thm.sensors = d.roundSensors rs ∧ d1.thm.stop = (d.thm.stop || d.roundStop rs) := ⟨rfl, rfl⟩
  have h2 : d2.thm = d1.thm := by
    unfold d2
    split <;> rfl
  have h4 : d4.thm = d1.thm := ((Dev.thmEvent_thm ..).trans (Dev.thmEvent_thm ..)).trans h2
  have h5 : d1.sameSensors d5 :=
    Dev.sameSensors_trans (Dev.sameSensors_of_thm h4) (Dev.sameSensors_trans d4.trims_sameSensors (Dev.sameSensors_of_thm (Dev.compactResume_thm _)))
  have hend : d1.sameSensors (if stop then d5.orderlyStop 3 else d5) := by
    split
    · exact Dev.sameSensors_trans h5 (Dev.sameSensors_of_thm (Dev.orderlyStop_thm ..))
    · exact h5
  exact ⟨hend.1.trans h1.1, hend.2.trans h1.2⟩

/-- Settles O14: the readings of the die sensors, and that STOP is set by a level of 3 alone. -/
theorem thermalRoundTakesTheReadings : Obligations.ThermalRoundTakesTheReadings := by
  intro s rs hpow hon
  obtain ⟨hsensors, hstop⟩ := s.dev.thermalRound_sensors rs hon
  refine ⟨(s.dev.thermalRound rs).tlySettle, next_congr s (Dev.powered_on s.dev _ hpow), ?_⟩
  rw [Dev.tlySettle_thm, hsensors, hstop]
  refine ⟨fun n r hn hr => s.dev.roundSensors_die rs n r hn hr, fun hwas => by simp [hwas], fun hset => ?_⟩
  obtain hwas | hnow := Bool.or_eq_true_iff.1 hset
  · exact .inl hwas
  · exact .inr (s.dev.roundStop_level rs hnow)

-- Access faults ------------------------------------------------------------------------------------------------------------

/-- The top field of a word of fields below bit 28. -/
theorem fld_word_top (kind low : Nat) (hkind : kind < 16) (hlow : low < 2 ^ 28) : fld (word (kind * 2 ^ 28 + low)) 31 28 = kind := by
  simp only [fld, word, bitsOf, BitVec.toNat_ofNat]
  omega

/-- The fault reported keeps its kind in bits 31–28 (R543). -/
theorem Dev.accessFault_kind (d : Dev) (src : Option Nat) (kind off : Nat) (w : Bool) (hkind : kind < 16) :
    fld (word (d.accessFault src kind off w).apu.info) 31 28 = kind := by
  rw [Dev.accessFault_info]
  have hinfo : put 31 28 kind + put 27 26 (d.level src) + put 25 25 (b2n w) + put 24 24 (b2n src.isNone) + put 20 16 (src.getD 0)
      = kind * 2 ^ 28 + (put 27 26 (d.level src) + put 25 25 (b2n w) + put 24 24 (b2n src.isNone) + put 20 16 (src.getD 0)) := by
    simp only [put]
    omega
  have hlow : put 27 26 (d.level src) + put 25 25 (b2n w) + put 24 24 (b2n src.isNone) + put 20 16 (src.getD 0) < 2 ^ 28 := by
    simp only [put]
    omega
  rw [hinfo, fld_word_top kind _ hkind hlow]

/-- All that an access fault at an offset of BAR0 shows. -/
theorem Dev.accessFault_shows (d : Dev) (src : Option Nat) (kind off : Nat) (w : Bool) (hkind : kind < 16) (hoff : off < 2 ^ 24) :
    d.onlyFault (d.accessFault src kind off w) ∧ (d.accessFault src kind off w).apu.ofs = off ∧ fld (word (d.accessFault src kind off w).apu.info) 31 28 = kind :=
  ⟨d.accessFault_only .., by rw [Dev.accessFault_ofs, Nat.mod_eq_of_lt hoff], d.accessFault_kind src kind off w hkind⟩

-- The reserve store --------------------------------------------------------------------------------------------------------

/-- With no image to make first, the next record starts without the MRAM changing (R596, R602). -/
theorem Rsv.startNext_journal (r : Rsv) (hfresh : r.fresh = false) :
    r.startNext.mram = r.mram ∧ r.startNext.records = r.records ∧ r.startNext.commitId = r.commitId := by
  unfold Rsv.startNext
  split
  · split
    · exact ⟨rfl, rfl, rfl⟩
    · simp [Rsv.freshImage, hfresh]
  · exact ⟨rfl, rfl, rfl⟩

/-- A start of compaction leaves the MRAM, the records and the commit (R597). -/
theorem Dev.compactStart_journal (d : Dev) :
    d.compactStart.rsv.mram = d.rsv.mram ∧ d.compactStart.rsv.records = d.rsv.records ∧ d.compactStart.rsv.commitId = d.rsv.commitId := by
  unfold Dev.compactStart
  dsimp only
  split
  · exact ⟨rfl, rfl, rfl⟩
  split
  · exact ⟨rfl, rfl, rfl⟩
  · split <;> exact ⟨rfl, rfl, rfl⟩

/-- Compaction that nothing holds back starts, or waits for the end of THROTTLE (R590, R597). -/
theorem Dev.compactStart_free (d : Dev) (hc : d.rsv.compact = none) (he : d.rsv.erasing = false) (hd : d.rsv.erased = false) (hs : d.rsv.stopped = false) :
    (d.thm.throttle = false → d.compactStart.rsv.compact.isSome = true) ∧ (d.thm.throttle = true → d.compactStart.rsv = { d.rsv with compactWait := true }) := by
  simp only [Dev.compactStart, hc, he, hd, hs, Option.isSome_none, Bool.or_self, Bool.false_eq_true, if_false]
  refine ⟨fun hthr => ?_, fun hthr => ?_⟩
  · simp only [hthr, Bool.false_eq_true, if_false]
    split <;> rfl
  · simp only [hthr, if_true]

/-- The store with the record in progress complete (R596). -/
def Rsv.written (r : Rsv) (x : JRec) : Rsv :=
  { r with mram := { r.mram with ring := r.mram.ring ++ [x], pos := (r.mram.pos + x.size) % ringBytes }, writing := none, records := sat32 r.records 1
           commitId := if x.last then x.commit else r.commitId }

/-- The end of a record starts the next one, and above half of the ring a compaction (R596, R597). -/
theorem Dev.recordWritten_cases (d : Dev) (x : JRec) (hw : d.rsv.writing = some x) :
    d.recordWritten = { d with rsv := (d.rsv.written x).startNext } ∨ d.recordWritten = ({ d with rsv := (d.rsv.written x).startNext }).compactStart := by
  unfold Dev.recordWritten
  rw [hw]
  dsimp only
  split
  · exact .inr rfl
  · exact .inl rfl

/-- A record complete in the MRAM stands at the end of the ring (R596). -/
theorem Dev.recordWritten_appends (d : Dev) (x : JRec) (hw : d.rsv.writing = some x) (hfresh : d.rsv.fresh = false) :
    d.recordWritten = { d with rsv := d.recordWritten.rsv } ∧ d.recordWritten.rsv.mram.ring = d.rsv.mram.ring ++ [x] ∧
      d.recordWritten.rsv.records = sat32 d.rsv.records 1 ∧ d.recordWritten.rsv.commitId = if x.last then x.commit else d.rsv.commitId := by
  obtain ⟨hmram, hrecords, hcommit⟩ := (d.rsv.written x).startNext_journal hfresh
  obtain hplain | hcompact := d.recordWritten_cases x hw
  · rw [hplain]
    exact ⟨rfl, congrArg Mram.ring hmram, hrecords, hcommit⟩
  · obtain ⟨kmram, krecords, kcommit⟩ := ({ d with rsv := (d.rsv.written x).startNext } : Dev).compactStart_journal
    rw [hcompact]
    refine ⟨?_, congrArg Mram.ring (kmram.trans hmram), krecords.trans hrecords, kcommit.trans hcommit⟩
    rw [Dev.compactStart_frame]

/-- A store without a valid image holds nothing. -/
theorem Mram.contents_none (m : Mram) (h : ∀ i, (m.imgs.getD i ⟨false, []⟩).ok = false) : m.contents = none := by
  unfold Mram.contents
  split
  · rfl
  split
  · rfl
  · exact if_neg (by rw [h]; exact Bool.false_ne_true)

/-- Settles O15: the end of a record, of a compaction and of an erase, and the three writes of `RSV_CMD`. -/
theorem reserveStoreKeepsItsJournal : Obligations.ReserveStoreKeepsItsJournal := by
  refine ⟨fun s x hw hfresh => ?written, fun s im hc => ?compacted, fun s hopen hc he hd hs => ?compact, fun s hopen hmode he hd => ?erase, fun s hopen hmode => ?mode,
    fun s he => ?erased⟩
  case written => exact ⟨_, rfl, s.dev.recordWritten_appends x hw hfresh⟩
  case compacted =>
    refine ⟨s.dev.compactDone, rfl, ?_⟩
    unfold Dev.compactDone
    rw [hc]
    exact ⟨rfl, rfl, rfl, rfl⟩
  case compact =>
    refine ⟨_, onDev_bar0Cmd_open s _ _ _ hopen, s.dev.compactStart_frame, s.dev.compactStart_journal.1, s.dev.compactStart_free hc he hd hs⟩
  case erase =>
    refine (onDev_bar0Cmd_open s R.RSV_CMD 0 _ hopen).trans (next_congr s ?_)
    simp only [hmode, if_true, Dev.eraseStart, he, hd, Bool.or_self, Bool.false_eq_true, if_false]
  case mode =>
    exact ⟨_, (onDev_bar0Cmd_open s R.RSV_CMD 0 _ hopen).trans (next_congr s (if_neg hmode)), s.dev.accessFault_shows none 5 R.RSV_CMD true (by decide) (by decide)⟩
  case erased =>
    have hnone (i : Nat) : (([⟨false, []⟩, ⟨false, []⟩] : List RsvImg).getD i ⟨false, []⟩).ok = false := by
      match i with
      | 0 | 1 => rfl
      | _ + 2 => rfl
    refine ⟨s.dev.eraseDone, rfl, ?_⟩
    rw [Dev.eraseDone, he, Bool.not_true, if_neg Bool.false_ne_true]
    exact ⟨rfl, rfl, rfl, rfl, rfl, Mram.contents_none _ hnone⟩

-- Images of BOOT -----------------------------------------------------------------------------------------------------------

/-- BOOT after an image: with a good one it goes on to step 6. -/
def Dev.afterImage (r : Dev × Bool) : Dev := if r.2 then r.1.bootGood else r.1

/-- What the outcome of an image does to BOOT: a good one goes on, another leaves the step, the system controller and the active bank. -/
theorem Dev.afterImage_shows (d : Dev) (fw cfg : List Nat) (hstep : d.boot.step = 4) :
    (Dev.afterImage (d.imageStep fw cfg)).boot.source = d.boot.source ∧ (Dev.afterImage (d.imageStep fw cfg)).vlt.attempts = sat16 d.vlt.attempts 1 ∧
      ((Dev.afterImage (d.imageStep fw cfg)).vlt.bootResult = 1 ↔ (Dev.afterImage (d.imageStep fw cfg)).boot.step = 6) ∧
      ((Dev.afterImage (d.imageStep fw cfg)).vlt.bootResult ≠ 1 →
        (Dev.afterImage (d.imageStep fw cfg)).boot.step = 4 ∧ (Dev.afterImage (d.imageStep fw cfg)).sys = d.sys ∧ (Dev.afterImage (d.imageStep fw cfg)).active = d.active) := by
  have hresult := d.imageStep_result fw cfg
  have hattempts := d.imageStep_attempts fw cfg
  have hboot : (d.imageStep fw cfg).1.boot = d.boot := by rw [Dev.imageStep_frame]
  have hsys : (d.imageStep fw cfg).1.sys = d.sys := by rw [Dev.imageStep_frame]
  have hactive : (d.imageStep fw cfg).1.active = d.active := by rw [Dev.imageStep_frame]
  by_cases hgood : (d.imageStep fw cfg).2 = true
  · obtain ⟨hsource, hstep6, hvlt⟩ := (d.imageStep fw cfg).1.bootGood_boot
    rw [Dev.afterImage, if_pos hgood, hsource, hstep6, hvlt, hboot]
    exact ⟨rfl, hattempts, ⟨fun _ => rfl, fun _ => hresult.2 hgood⟩, fun hbad => absurd (hresult.2 hgood) hbad⟩
  · have hbad : (d.imageStep fw cfg).1.vlt.bootResult ≠ 1 := fun h => hgood (hresult.1 h)
    rw [Dev.afterImage, if_neg hgood, hboot]
    exact ⟨rfl, hattempts, ⟨fun h => absurd h hbad, fun h => by omega⟩, fun _ => ⟨hstep, hsys, hactive⟩⟩

/-- An image of the host in step 4 that host memory gives is verified (R549). -/
theorem Dev.hostImage_read (d : Dev) (fw cfg : List Nat) (hstep : d.boot.step = 4) (hwait : d.boot.waitHost = true) :
    ∃ a b, d.hostImage false fw cfg = Dev.afterImage (({ d with boot := { d.boot with source := 0 } }).imageStep a b) := by
  have hgo : ¬(d.boot.step ≠ 4 ∨ (!d.boot.waitHost) = true) := by simp [hstep, hwait]
  exact ⟨_, _, if_neg hgo⟩

/-- Settles O16: the wait for the host, and an image that cannot be read, is good, or is not. -/
theorem bootImagesFromTheHost : Obligations.BootImagesFromTheHost := by
  refine ⟨fun s hstep hdue => ?timeout, fun s fw cfg hopen hstep hwait => ?unread, fun s fw cfg hopen hstep hwait => ?read⟩
  case timeout =>
    refine ⟨s.dev.imageTimeout, rfl, ?_⟩
    simp only [Dev.imageTimeout, hstep, hdue, and_self, if_true]
    split <;> exact ⟨rfl, rfl⟩
  case unread =>
    have hgo : ¬(s.dev.boot.step ≠ 4 ∨ (!s.dev.boot.waitHost) = true) := by simp [hstep, hwait]
    exact ⟨_, (onDev_bar0Cmd_open s R.VLT_BOOT_GO 3 _ hopen).trans (next_congr s (if_neg hgo)), rfl, rfl⟩
  case read =>
    obtain ⟨a, b, hrun⟩ := s.dev.hostImage_read fw cfg hstep hwait
    refine ⟨_, (onDev_bar0Cmd_open s R.VLT_BOOT_GO 3 _ hopen).trans (next_congr s hrun), ?_⟩
    exact Dev.afterImage_shows { s.dev with boot := { s.dev.boot with source := 0 } } a b hstep

end Sys2Proof.Machine
end

section
/-! SUPPORT. What the operations leave alone of the five parts that settle the course of the device: the system controller, station time, the vault, BOOT and the active
bank. An operation that moves none of them is said to be steady. -/
namespace Sys2Proof.Machine

-- The relation -------------------------------------------------------------------------------------------------------------

/-- `b` has the system controller, station time, vault, BOOT and active bank of `a`. -/
@[simp] abbrev Dev.steady (a b : Dev) : Prop := b.sys = a.sys ∧ b.tmb = a.tmb ∧ b.vlt = a.vlt ∧ b.boot = a.boot ∧ b.active = a.active

theorem Dev.steady_refl (d : Dev) : d.steady d := ⟨rfl, rfl, rfl, rfl, rfl⟩

theorem Dev.steady_trans {a b c : Dev} (hab : a.steady b) (hbc : b.steady c) : a.steady c := by
  obtain ⟨bsys, btmb, bvlt, bboot, bactive⟩ := hab
  obtain ⟨csys, ctmb, cvlt, cboot, cactive⟩ := hbc
  exact ⟨csys.trans bsys, ctmb.trans btmb, cvlt.trans bvlt, cboot.trans bboot, cactive.trans bactive⟩

/-- A fold of steady steps is steady. -/
theorem Dev.steady_foldl {α : Type} (f : Dev → α → Dev) (step : ∀ x a, Dev.steady x (f x a)) (l : List α) (d : Dev) : d.steady (l.foldl f d) := by
  induction l generalizing d with
  | nil => exact d.steady_refl
  | cons a l ih => exact Dev.steady_trans (step d a) (ih _)

@[simp] theorem Dev.sys_ite (p : Prop) [Decidable p] (a b : Dev) : (if p then a else b).sys = if p then a.sys else b.sys := apply_ite Dev.sys p a b
@[simp] theorem Dev.sys_foldl {α : Type} (f : Dev → α → Dev) (step : ∀ x a, (f x a).sys = x.sys) (l : List α) (d : Dev) : (l.foldl f d).sys = d.sys :=
  foldl_same Dev.sys f step l d
@[simp] theorem Dev.tmb_ite (p : Prop) [Decidable p] (a b : Dev) : (if p then a else b).tmb = if p then a.tmb else b.tmb := apply_ite Dev.tmb p a b
@[simp] theorem Dev.tmb_foldl {α : Type} (f : Dev → α → Dev) (step : ∀ x a, (f x a).tmb = x.tmb) (l : List α) (d : Dev) : (l.foldl f d).tmb = d.tmb :=
  foldl_same Dev.tmb f step l d
@[simp] theorem Dev.vlt_ite (p : Prop) [Decidable p] (a b : Dev) : (if p then a else b).vlt = if p then a.vlt else b.vlt := apply_ite Dev.vlt p a b
@[simp] theorem Dev.vlt_foldl {α : Type} (f : Dev → α → Dev) (step : ∀ x a, (f x a).vlt = x.vlt) (l : List α) (d : Dev) : (l.foldl f d).vlt = d.vlt :=
  foldl_same Dev.vlt f step l d
@[simp] theorem Dev.boot_ite (p : Prop) [Decidable p] (a b : Dev) : (if p then a else b).boot = if p then a.boot else b.boot := apply_ite Dev.boot p a b
@[simp] theorem Dev.boot_foldl {α : Type} (f : Dev → α → Dev) (step : ∀ x a, (f x a).boot = x.boot) (l : List α) (d : Dev) : (l.foldl f d).boot = d.boot :=
  foldl_same Dev.boot f step l d
@[simp] theorem Dev.active_ite (p : Prop) [Decidable p] (a b : Dev) : (if p then a else b).active = if p then a.active else b.active := apply_ite Dev.active p a b
@[simp] theorem Dev.active_foldl {α : Type} (f : Dev → α → Dev) (step : ∀ x a, (f x a).active = x.active) (l : List α) (d : Dev) : (l.foldl f d).active = d.active :=
  foldl_same Dev.active f step l d

-- Shared operations ----------------------------------------------------------------------------------------------------

@[simp] theorem Dev.flushEvents_steady (d : Dev) : d.steady d.flushEvents := by simp [Dev.flushEvents]

-- Modulation -----------------------------------------------------------------------------------------------------------

@[simp] theorem Dev.completeArm_steady (d : Dev) (n : Nat) : d.steady (d.completeArm n) := by simp [Dev.completeArm]
@[simp] theorem Dev.completeIf_steady (d : Dev) (n : Nat) : d.steady (d.completeIf n) := by simp [Dev.completeIf]
@[simp] theorem Dev.completeReady_steady (d : Dev) : d.steady d.completeReady := by simp [Dev.completeReady]

-- The submodule network ------------------------------------------------------------------------------------------------

@[simp] theorem Dev.modLane_steady (d : Dev) (n : Nat) (f : Lane → Lane) : d.steady (d.modLane n f) := by simp [Dev.modLane]
@[simp] theorem Dev.modNode_steady (d : Dev) (addr : Nat) (f : NodeEnt → NodeEnt) : d.steady (d.modNode addr f) := by simp [Dev.modNode]
@[simp] theorem Dev.modCell_steady (d : Dev) (arm addr : Nat) (f : Cell → Cell) : d.steady (d.modCell arm addr f) := by simp [Dev.modCell]
@[simp] theorem Dev.refuseNode_steady (d : Dev) (i : Ident) (p : Probe) (code : Nat) : d.steady (d.refuseNode i p code) := by simp [Dev.refuseNode]
@[simp] theorem Dev.sendAdmit_steady (d : Dev) (e : NodeEnt) (eff : Nat) : d.steady (d.sendAdmit e eff) := by simp [Dev.sendAdmit]
@[simp] theorem Dev.startDisc_steady (d : Dev) (full : Bool) : d.steady (d.startDisc full) := by simp [Dev.startDisc]
@[simp] theorem Dev.concludeReadmit_steady (d : Dev) (addr : Nat) (p : Probe) : d.steady (d.concludeReadmit addr p) := by
  unfold Dev.concludeReadmit; dsimp only; split <;> simp
@[simp] theorem Dev.discAnswer_steady (d : Dev) (lane depth route rtt : Nat) (blocks : List Dword) : d.steady (d.discAnswer lane depth route rtt blocks) := by
  unfold Dev.discAnswer; dsimp only; (repeat' split) <;> simp
@[simp] theorem Dev.discTimeout_steady (d : Dev) (lane depth route : Nat) : d.steady (d.discTimeout lane depth route) := by
  unfold Dev.discTimeout; dsimp only; split <;> simp
@[simp] theorem Dev.laneError_steady (d : Dev) (lane : Nat) : d.steady (d.laneError lane) := by simp [Dev.laneError]
@[simp] theorem Dev.smReport_steady (d : Dev) (addr : Nat) (e : NodeEnt) (b : Dword) : d.steady (d.smReport addr e b) := by simp [Dev.smReport]
@[simp] theorem Dev.report_steady (d : Dev) (lane slot : Nat) (b : Dword) : d.steady (d.report lane slot b) := by
  unfold Dev.report; dsimp only; (repeat' split) <;> simp
@[simp] theorem Dev.cutoff_steady (d : Dev) (lane : Nat) : d.steady (d.cutoff lane) := by simp [Dev.cutoff]
@[simp] theorem Dev.flash_steady (d : Dev) (lane : Nat) (b : Dword) : d.steady (d.flash lane b) := by simp [Dev.flash]
@[simp] theorem Dev.mgmtGo_steady (d : Dev) (level : Nat) : d.steady (d.mgmtGo level) := by simp [Dev.mgmtGo]
@[simp] theorem Dev.mgmtBoundary_steady (d : Dev) : d.steady d.mgmtBoundary := by
  unfold Dev.mgmtBoundary; dsimp only; (repeat' split) <;> simp
@[simp] theorem Dev.mgmtResponse_steady (d : Dev) (lane : Nat) (blocks : List Dword) : d.steady (d.mgmtResponse lane blocks) := by
  unfold Dev.mgmtResponse; dsimp only; split <;> simp
@[simp] theorem Dev.enterLedger_steady (d : Dev) (addr : Nat) (e : NodeEnt) : d.steady (d.enterLedger addr e) := by simp [Dev.enterLedger]
@[simp] theorem Dev.leaveLedger_steady (d : Dev) (addr : Nat) : d.steady (d.leaveLedger addr) := by simp [Dev.leaveLedger]
@[simp] theorem Dev.flashBoundary_steady (d : Dev) (k : Nat) : d.steady (d.flashBoundary k) := by simp [Dev.flashBoundary]
@[simp] theorem Dev.txOver_steady (d : Dev) : d.steady d.txOver := by simp [Dev.txOver]
@[simp] theorem Dev.iklNewEpoch_steady (d : Dev) : d.steady d.iklNewEpoch := by simp [Dev.iklNewEpoch]

-- Nodes ----------------------------------------------------------------------------------------------------------------

@[simp] theorem Dev.nodeAct_steady (d : Dev) (n : Nat) (f : Node → Nat → Bool → Node) : d.steady (d.nodeAct n f) := by simp [Dev.nodeAct]
@[simp] theorem Dev.atPort_steady (d : Dev) (n p : Nat) (f : Dev → Dev) (hf : ∀ x : Dev, x.steady (f x)) : d.steady (d.atPort n p f) := by simp [Dev.atPort, *]

-- Ethernet -------------------------------------------------------------------------------------------------------------

@[simp] theorem Dev.ethRx_steady (d : Dev) (f : EthFrame) : d.steady (d.ethRx f) := by
  unfold Dev.ethRx; dsimp only; (repeat' split) <;> simp
@[simp] theorem Dev.ethSent_steady (d : Dev) (p : Nat) : d.steady (d.ethSent p) := by
  unfold Dev.ethSent; dsimp only; (repeat' split) <;> simp

-- The ADC subsystem ----------------------------------------------------------------------------------------------------

@[simp] theorem Dev.injectedConversion_steady (d : Dev) (c e : Nat) (v : Rat) : d.steady (d.injectedConversion c e v) := by simp [Dev.injectedConversion]
@[simp] theorem Dev.regularConversion_steady (d : Dev) (c e : Nat) (v : Rat) : d.steady (d.regularConversion c e v) := by simp [Dev.regularConversion]
@[simp] theorem Dev.startInjected_steady (d : Dev) (c : Nat) : d.steady (d.startInjected c) := by simp [Dev.startInjected]
@[simp] theorem Dev.conversion_steady (d : Dev) (c : Nat) (v : Rat) : d.steady (d.conversion c v) := by
  unfold Dev.conversion; dsimp only; (repeat' split) <;> simp
@[simp] theorem Dev.adcCutoff_steady (d : Dev) : d.steady d.adcCutoff := by simp [Dev.adcCutoff]
@[simp] theorem Dev.injTrigger_steady (d : Dev) (c : Nat) : d.steady (d.injTrigger c) := by simp [Dev.injTrigger]
@[simp] theorem Dev.injTriggers_steady (d : Dev) (code : Nat) : d.steady (d.injTriggers code) := by simp [Dev.injTriggers]
@[simp] theorem Dev.softTrigger_steady (d : Dev) (c : Nat) : d.steady (d.softTrigger c) := by simp [Dev.softTrigger]
@[simp] theorem Dev.adcWake_steady (d : Dev) (c : Nat) : d.steady (d.adcWake c) := by simp [Dev.adcWake]
@[simp] theorem Dev.adcWarm_steady (d : Dev) (c : Nat) : d.steady (d.adcWarm c) := by simp [Dev.adcWarm]
@[simp] theorem Dev.adcWarmEnd_steady (d : Dev) (c : Nat) : d.steady (d.adcWarmEnd c) := by
  unfold Dev.adcWarmEnd; dsimp only; split <;> simp
@[simp] theorem Dev.adcSync_steady (d : Dev) (c : Nat) : d.steady (d.adcSync c) := by simp [Dev.adcSync]
@[simp] theorem Dev.adcNewEpoch_steady (d : Dev) : d.steady d.adcNewEpoch := by simp [Dev.adcNewEpoch]
@[simp] theorem Dev.adcTick_steady (d : Dev) : d.steady d.adcTick := by simp [Dev.adcTick]
@[simp] theorem Dev.adcCommitted_steady (d o : Dev) : d.steady (d.adcCommitted o) := by simp [Dev.adcCommitted]

-- The root clock and station time --------------------------------------------------------------------------------------

@[simp] theorem Dev.phaseErr_steady (d : Dev) (e : Int) : d.steady (d.phaseErr e) := by simp [Dev.phaseErr]
@[simp] theorem Dev.setAligned_steady (d : Dev) : d.steady d.setAligned := by simp [Dev.setAligned]
@[simp] theorem Dev.setCko_steady (d : Dev) (n : Nat) (x : Cko) : d.steady (d.setCko n x) := by simp [Dev.setCko]
@[simp] theorem Dev.ckoRestart_steady (d : Dev) : d.steady d.ckoRestart := by simp [Dev.ckoRestart]
@[simp] theorem Dev.ckoCommitted_steady (d o : Dev) : d.steady (d.ckoCommitted o) := by simp [Dev.ckoCommitted]
@[simp] theorem Dev.ckoSync_steady (d : Dev) : d.steady d.ckoSync := by simp [Dev.ckoSync]
@[simp] theorem Dev.gatedChange_steady (d : Dev) : d.steady d.gatedChange := by simp [Dev.gatedChange]
@[simp] theorem Dev.pllLock_steady (d : Dev) : d.steady d.pllLock := by simp [Dev.pllLock]
@[simp] theorem Dev.rootReturn_steady (d : Dev) : d.steady d.rootReturn := by simp [Dev.rootReturn]
@[simp] theorem Dev.refLoss_steady (d : Dev) : d.steady d.refLoss := by simp [Dev.refLoss]
@[simp] theorem Dev.refReturn_steady (d : Dev) : d.steady d.refReturn := by simp [Dev.refReturn]
@[simp] theorem Dev.lockFailed_steady (d : Dev) : d.steady d.lockFailed := by simp [Dev.lockFailed]
@[simp] theorem Dev.ditherTick_steady (d : Dev) : d.steady d.ditherTick := by simp [Dev.ditherTick]
@[simp] theorem Dev.ttEdge_steady (d before : Dev) (n : Nat) : d.steady (d.ttEdge before n) := by simp [Dev.ttEdge]

-- Sampled values -------------------------------------------------------------------------------------------------------

@[simp] theorem Dev.svAsdu_steady (d : Dev) (s rx : Nat) (a : Asdu) : d.steady (d.svAsdu s rx a) := by simp [Dev.svAsdu]
@[simp] theorem Dev.svFrame_steady (d : Dev) (s : Nat) (f : SvFrame) : d.steady (d.svFrame s f) := by simp [Dev.svFrame]
@[simp] theorem Dev.sviNewEpoch_steady (d : Dev) : d.steady d.sviNewEpoch := by simp [Dev.sviNewEpoch]

-- Conditioning ---------------------------------------------------------------------------------------------------------

@[simp] theorem Dev.mcdEvents_steady (d : Dev) (before after : List Bool) : d.steady (d.mcdEvents before after) := by simp [Dev.mcdEvents]
@[simp] theorem Dev.condition_steady (d : Dev) : d.steady d.condition := by simp [Dev.condition]
@[simp] theorem Dev.inputInvalid_steady (d : Dev) (m : Nat) : d.steady (d.inputInvalid m) := by
  unfold Dev.inputInvalid; dsimp only; split <;> simp
@[simp] theorem Dev.mcdTake_steady (d : Dev) : d.steady d.mcdTake := by simp [Dev.mcdTake]

-- Direct drive ---------------------------------------------------------------------------------------------------------

@[simp] theorem Dev.tripEvent_steady (d : Dev) : d.steady d.tripEvent := by simp [Dev.tripEvent]
@[simp] theorem Dev.tripPair_steady (d : Dev) (n : Nat) (c ds : Bool) (hoc : Bool) : d.steady (d.tripPair n c ds hoc) := by simp [Dev.tripPair]
@[simp] theorem Dev.hocActive_steady (d : Dev) (n : Nat) : d.steady (d.hocActive n) := by simp [Dev.hocActive]
@[simp] theorem Dev.hocInactive_steady (d : Dev) (n : Nat) : d.steady (d.hocInactive n) := by simp [Dev.hocInactive]
@[simp] theorem Dev.dsChange_steady (d : Dev) (n : Nat) (level : Bool) : d.steady (d.dsChange n level) := by simp [Dev.dsChange]
@[simp] theorem Dev.blankOver_steady (d : Dev) (n : Nat) : d.steady (d.blankOver n) := by
  unfold Dev.blankOver; dsimp only; split <;> simp
@[simp] theorem Dev.testBegin_steady (d : Dev) (n : Nat) (only : Bool) : d.steady (d.testBegin n only) := by simp [Dev.testBegin]
@[simp] theorem Dev.testFinish_steady (d : Dev) (n : Nat) : d.steady (d.testFinish n) := by simp [Dev.testFinish]
@[simp] theorem Dev.testPhase_steady (d : Dev) (n mv vdd : Nat) : d.steady (d.testPhase n mv vdd) := by
  unfold Dev.testPhase; dsimp only; (repeat' split) <;> simp
@[simp] theorem Dev.uvloOn_steady (d : Dev) : d.steady d.uvloOn := by simp [Dev.uvloOn]
@[simp] theorem Dev.released_steady (d o : Dev) : d.steady (d.released o) := by simp [Dev.released]
@[simp] theorem Dev.uvloOff_steady (d : Dev) : d.steady d.uvloOff := by simp [Dev.uvloOff]
@[simp] theorem Dev.ddpUnforce_steady (d : Dev) : d.steady d.ddpUnforce := by simp [Dev.ddpUnforce]
@[simp] theorem Dev.ddpEnable_steady (d : Dev) : d.steady d.ddpEnable := by simp [Dev.ddpEnable]
@[simp] theorem Dev.ddpBoundary_steady (d : Dev) (b : Nat) : d.steady (d.ddpBoundary b) := by simp [Dev.ddpBoundary]
@[simp] theorem Dev.ddpCommitted_steady (d o : Dev) : d.steady (d.ddpCommitted o) := by simp [Dev.ddpCommitted]
@[simp] theorem Dev.chopBoundary_steady (d : Dev) : d.steady d.chopBoundary := by simp [Dev.chopBoundary]
@[simp] theorem Dev.chopNewEpoch_steady (d : Dev) : d.steady d.chopNewEpoch := by simp [Dev.chopNewEpoch]

-- Precision time -------------------------------------------------------------------------------------------------------

@[simp] theorem Dev.setDom_steady (d : Dev) (x : Nat) (y : Dom) : d.steady (d.setDom x y) := by simp [Dev.setDom]
@[simp] theorem Dev.ptpSwitch_steady (d : Dev) (x : Nat) : d.steady (d.ptpSwitch x) := by simp [Dev.ptpSwitch]
@[simp] theorem Dev.ptpAuto_steady (d : Dev) : d.steady d.ptpAuto := by simp [Dev.ptpAuto]
@[simp] theorem Dev.timeSample_steady (d : Dev) (x seq t2 : Nat) : d.steady (d.timeSample x seq t2) := by simp [Dev.timeSample]
@[simp] theorem Dev.crossCheck_steady (d : Dev) : d.steady d.crossCheck := by simp [Dev.crossCheck]
@[simp] theorem Dev.useSync_steady (d : Dev) (x seq t1 t2 : Nat) (corr : Int) : d.steady (d.useSync x seq t1 t2 corr) := by simp [Dev.useSync]
@[simp] theorem Dev.ptpSync_steady (d : Dev) (m : PtpMsg) : d.steady (d.ptpSync m) := by simp [Dev.ptpSync]
@[simp] theorem Dev.syncTimeout_steady (d : Dev) (x : Nat) : d.steady (d.syncTimeout x) := by simp [Dev.syncTimeout]
@[simp] theorem Dev.measure_steady (d : Dev) (x : Nat) (m : Int) : d.steady (d.measure x m) := by
  unfold Dev.measure; dsimp only; (repeat' split) <;> simp
@[simp] theorem Dev.domCmd_steady (d : Dev) (x : Nat) (accept : Bool) : d.steady (d.domCmd x accept) := by simp [Dev.domCmd]
@[simp] theorem Dev.setPdel_steady (d : Dev) (p : Nat) (x : Pdel) : d.steady (d.setPdel p x) := by simp [Dev.setPdel]
@[simp] theorem Dev.pdelayReq_steady (d : Dev) (m : PtpMsg) : d.steady (d.pdelayReq m) := by simp [Dev.pdelayReq]
@[simp] theorem Dev.pdelaySend_steady (d : Dev) (p : Nat) : d.steady (d.pdelaySend p) := by simp [Dev.pdelaySend]
@[simp] theorem Dev.pdelayResp_steady (d : Dev) (m : PtpMsg) : d.steady (d.pdelayResp m) := by simp [Dev.pdelayResp]
@[simp] theorem Dev.pdelayFollow_steady (d : Dev) (m : PtpMsg) : d.steady (d.pdelayFollow m) := by
  unfold Dev.pdelayFollow; dsimp only; split <;> simp
@[simp] theorem Dev.pdelayTimeout_steady (d : Dev) (p : Nat) : d.steady (d.pdelayTimeout p) := by
  unfold Dev.pdelayTimeout; dsimp only; split <;> simp
@[simp] theorem Dev.ptpCommitted_steady (d o : Dev) : d.steady (d.ptpCommitted o) := by simp [Dev.ptpCommitted]

-- The engines ----------------------------------------------------------------------------------------------------------

@[simp] theorem Dev.gfeStep_steady (d : Dev) : d.steady d.gfeStep := by simp [Dev.gfeStep]
@[simp] theorem Dev.resyncInStep_steady (d : Dev) : d.steady d.resyncInStep := by simp [Dev.resyncInStep]
@[simp] theorem Dev.armOcEvent_steady (d : Dev) (oc : Nat) : d.steady (d.armOcEvent oc) := by simp [Dev.armOcEvent]
@[simp] theorem Dev.clampBlock_steady (d : Dev) : d.steady d.clampBlock := by simp [Dev.clampBlock]
@[simp] theorem Dev.tblkRelease_steady (d : Dev) : d.steady d.tblkRelease := by simp [Dev.tblkRelease]
@[simp] theorem Dev.tblkEnd_steady (d : Dev) : d.steady d.tblkEnd := by simp [Dev.tblkEnd]
@[simp] theorem Dev.branchSelect_steady (d : Dev) : d.steady d.branchSelect := by simp [Dev.branchSelect]
@[simp] theorem Dev.assemble_steady (d : Dev) : d.steady d.assemble := by simp [Dev.assemble]
@[simp] theorem Dev.lpeEval_steady (d : Dev) (n : Nat) : d.steady (d.lpeEval n) := by
  unfold Dev.lpeEval; dsimp only; (repeat' split) <;> simp
@[simp] theorem Dev.lpeTrip_steady (d : Dev) (n t : Nat) : d.steady (d.lpeTrip n t) := by simp [Dev.lpeTrip]
@[simp] theorem Dev.lpeClears_steady (d : Dev) : d.steady d.lpeClears := by simp [Dev.lpeClears]
@[simp] theorem Dev.lpeCommitted_steady (d : Dev) : d.steady d.lpeCommitted := by simp [Dev.lpeCommitted]
@[simp] theorem Dev.pulse_steady (d : Dev) (n : Nat) (level : Bool) : d.steady (d.pulse n level) := by simp [Dev.pulse]
@[simp] theorem Dev.pulseTimeout_steady (d : Dev) (n : Nat) : d.steady (d.pulseTimeout n) := by simp [Dev.pulseTimeout]
@[simp] theorem Dev.lpeNewEpoch_steady (d o : Dev) : d.steady (d.lpeNewEpoch o) := by simp [Dev.lpeNewEpoch]

-- Redundancy -----------------------------------------------------------------------------------------------------------

@[simp] theorem Dev.setRole_steady (d : Dev) (role : Nat) : d.steady (d.setRole role) := by simp [Dev.setRole]
@[simp] theorem Dev.roleBySrc_steady (d : Dev) (own other : Nat) : d.steady (d.roleBySrc own other) := by simp [Dev.roleBySrc]
@[simp] theorem Dev.rdnSettle_steady (d : Dev) : d.steady d.rdnSettle := by simp [Dev.rdnSettle]
@[simp] theorem Dev.rdnLeave_steady (d : Dev) : d.steady d.rdnLeave := by simp [Dev.rdnLeave]
@[simp] theorem Dev.rdnEntry_steady (d : Dev) : d.steady d.rdnEntry := by simp [Dev.rdnEntry]
@[simp] theorem Dev.linkLost_steady (d o : Dev) : d.steady (d.linkLost o) := by simp [Dev.linkLost]
@[simp] theorem Dev.timingFail_steady (d : Dev) : d.steady d.timingFail := by simp [Dev.timingFail]
@[simp] theorem Dev.mirError_steady (d : Dev) (n : Nat) : d.steady (d.mirError n) := by simp [Dev.mirError]
@[simp] theorem Dev.pairBlock_steady (d : Dev) (lane : Nat) (b : Dword) : d.steady (d.pairBlock lane b) := by simp [Dev.pairBlock]
@[simp] theorem Dev.escrowIn_steady (d : Dev) (lane : Nat) (bs : List (Nat × Dword)) : d.steady (d.escrowIn lane bs) := by simp [Dev.escrowIn]
@[simp] theorem Dev.escrowCut_steady (d : Dev) : d.steady d.escrowCut := by simp [Dev.escrowCut]
@[simp] theorem Dev.staleEp_steady (d : Dev) : d.steady d.staleEp := by simp [Dev.staleEp]
@[simp] theorem Dev.joinEp_steady (d : Dev) : d.steady d.joinEp := by simp [Dev.joinEp]
@[simp] theorem Dev.revertMs_steady (d : Dev) : d.steady d.revertMs := by simp [Dev.revertMs]
@[simp] theorem Dev.gradeHold_steady (d : Dev) : d.steady d.gradeHold := by simp [Dev.gradeHold]
@[simp] theorem Dev.roleMissing_steady (d : Dev) : d.steady d.roleMissing := by simp [Dev.roleMissing]
@[simp] theorem Dev.roleBoundary_steady (d : Dev) : d.steady d.roleBoundary := by simp [Dev.roleBoundary]
@[simp] theorem Dev.rdnNewEpoch_steady (d : Dev) (ended : Nat) (wasActive : Bool) : d.steady (d.rdnNewEpoch ended wasActive) := by simp [Dev.rdnNewEpoch]

-- The reserve store ----------------------------------------------------------------------------------------------------

@[simp] theorem Dev.rsvEvent_steady (d : Dev) (ref mask : Nat) (data : List Word) : d.steady (d.rsvEvent ref mask data) := by simp [Dev.rsvEvent]
@[simp] theorem Dev.journal_steady (d : Dev) (es : List (Nat × Word)) (epoch : Nat) : d.steady (d.journal es epoch) := by simp [Dev.journal]
@[simp] theorem Dev.compactStart_steady (d : Dev) : d.steady d.compactStart := by
  unfold Dev.compactStart; dsimp only; (repeat' split) <;> simp
@[simp] theorem Dev.compactResume_steady (d : Dev) : d.steady d.compactResume := by simp [Dev.compactResume]
@[simp] theorem Dev.recordWritten_steady (d : Dev) : d.steady d.recordWritten := by
  unfold Dev.recordWritten; dsimp only; split <;> simp
@[simp] theorem Dev.compactDone_steady (d : Dev) : d.steady d.compactDone := by
  unfold Dev.compactDone; dsimp only; split <;> simp
@[simp] theorem Dev.eraseStart_steady (d : Dev) : d.steady d.eraseStart := by simp [Dev.eraseStart]
@[simp] theorem Dev.eraseDone_steady (d : Dev) : d.steady d.eraseDone := by simp [Dev.eraseDone]

-- Temperature ----------------------------------------------------------------------------------------------------------

@[simp] theorem Dev.trims_steady (d : Dev) : d.steady d.trims := by simp [Dev.trims]

-- The tally unit -------------------------------------------------------------------------------------------------------

@[simp] theorem Dev.tlySettle_steady (d : Dev) : d.steady d.tlySettle := by simp [Dev.tlySettle]
@[simp] theorem Dev.passLate_steady (d : Dev) (j : Nat) : d.steady (d.passLate j) := by simp [Dev.passLate]
@[simp] theorem Dev.passNow_steady (d : Dev) (j : Nat) : d.steady (d.passNow j) := by simp [Dev.passNow]
@[simp] theorem Dev.passDue_steady (d : Dev) (j : Nat) : d.steady (d.passDue j) := by
  unfold Dev.passDue; dsimp only; split <;> simp
@[simp] theorem Dev.tlyRestart_steady (d : Dev) : d.steady d.tlyRestart := by simp [Dev.tlyRestart]
@[simp] theorem Dev.tlyAbandon_steady (d : Dev) (offs : List Nat) : d.steady (d.tlyAbandon offs) := by simp [Dev.tlyAbandon]
@[simp] theorem Dev.tlyCommitted_steady (d o : Dev) : d.steady (d.tlyCommitted o) := by simp [Dev.tlyCommitted]
@[simp] theorem Dev.tlyMoved_steady (d : Dev) : d.steady d.tlyMoved := by simp [Dev.tlyMoved]

-- Modes ----------------------------------------------------------------------------------------------------------------

@[simp] theorem Dev.discStop_steady (d : Dev) : d.steady d.discStop := by simp [Dev.discStop]
@[simp] theorem Dev.deblock_steady (d : Dev) (t : Mode) : d.steady (d.deblock t) := by simp [Dev.deblock]
@[simp] theorem Dev.handOver_steady (d : Dev) (t : Mode) : d.steady (d.handOver t) := by simp [Dev.handOver]
@[simp] theorem Dev.frtExitDue_steady (d : Dev) : d.steady d.frtExitDue := by simp [Dev.frtExitDue]
@[simp] theorem Dev.frtTimeoutDue_steady (d : Dev) : d.steady d.frtTimeoutDue := by simp [Dev.frtTimeoutDue]
@[simp] theorem Dev.prcStep_steady (d : Dev) : d.steady d.prcStep := by
  unfold Dev.prcStep; dsimp only; (repeat' split) <;> simp

-- Power ----------------------------------------------------------------------------------------------------------------

@[simp] theorem Dev.powerFailOver_steady (d : Dev) : d.steady d.powerFailOver := by simp [Dev.powerFailOver]

-- The recorder ---------------------------------------------------------------------------------------------------------

@[simp] theorem Dev.recConditions_steady (d : Dev) (k sync : Nat) (vals : List (Option Word)) : d.steady (d.recConditions k sync vals) := by simp [Dev.recConditions]
@[simp] theorem Dev.recOpen_steady (d : Dev) (kNext : Nat) : d.steady (d.recOpen kNext) := by
  unfold Dev.recOpen; dsimp only; split <;> simp
@[simp] theorem Dev.hostDue_steady (d : Dev) : d.steady d.hostDue := by
  unfold Dev.hostDue; dsimp only; split <;> simp
@[simp] theorem Dev.hostTrigger_steady (d : Dev) (t : Nat) (c : CompRef) : d.steady (d.hostTrigger t c) := by
  unfold Dev.hostTrigger; dsimp only; (repeat' split) <;> simp
@[simp] theorem Dev.recDiscard_steady (d : Dev) : d.steady d.recDiscard := by simp [Dev.recDiscard]
@[simp] theorem Dev.recReload_steady (d : Dev) (k kNext : Nat) : d.steady (d.recReload k kNext) := by simp [Dev.recReload]
@[simp] theorem Dev.recCommand_steady (d : Dev) (op seg : Nat) : d.steady (d.recCommand op seg) := by simp [Dev.recCommand]

-- Applied commits ------------------------------------------------------------------------------------------------------

@[simp] theorem Dev.lanesDark_steady (d o : Dev) : d.steady (d.lanesDark o) := by simp [Dev.lanesDark]
@[simp] theorem Dev.ethEnd_steady (d : Dev) (c : CompRef) : d.steady (d.ethEnd c) := by simp [Dev.ethEnd]
@[simp] theorem Dev.domainDown_steady (d : Dev) (n : Nat) : d.steady (d.domainDown n) := by simp [Dev.domainDown]
@[simp] theorem Dev.queueStop_steady (d : Dev) (q : Nat) : d.steady (d.queueStop q) := by simp [Dev.queueStop]
@[simp] theorem Dev.queuesCommitted_steady (d o : Dev) : d.steady (d.queuesCommitted o) := by simp [Dev.queuesCommitted]
@[simp] theorem Dev.clkCommitted_steady (d o : Dev) : d.steady (d.clkCommitted o) := by simp [Dev.clkCommitted]
@[simp] theorem Dev.rdnCommitted_steady (d o : Dev) : d.steady (d.rdnCommitted o) := by simp [Dev.rdnCommitted]
@[simp] theorem Dev.limitsMoved_steady (d o : Dev) : d.steady (d.limitsMoved o) := by simp [Dev.limitsMoved]

-- The boundary ---------------------------------------------------------------------------------------------------------

@[simp] theorem Dev.flushBefore_steady (d : Dev) (b : Nat) : d.steady (d.flushBefore b) := by simp [Dev.flushBefore]
@[simp] theorem Dev.endOf_steady (d : Dev) (b : Nat) (f : Dev → Dev) (hf : ∀ x : Dev, x.steady (f x)) : d.steady (d.endOf b f) := by simp [Dev.endOf, *]
@[simp] theorem Dev.missedOver_steady (d : Dev) : d.steady d.missedOver := by simp [Dev.missedOver]
@[simp] theorem Dev.epochOver_steady (d : Dev) : d.steady d.epochOver := by simp [Dev.epochOver]
@[simp] theorem Dev.raeCount_steady (d : Dev) (void : Bool) (k : Nat) : d.steady (d.raeCount void k) := by simp [Dev.raeCount]
@[simp] theorem Dev.idcCount_steady (d : Dev) : d.steady d.idcCount := by simp [Dev.idcCount]
@[simp] theorem Dev.idcKept_steady (d : Dev) : d.steady d.idcKept := by simp [Dev.idcKept]
@[simp] theorem Dev.scanStep_steady (d : Dev) : d.steady d.scanStep := by simp [Dev.scanStep]
@[simp] theorem Dev.ovfStep_steady (d : Dev) : d.steady d.ovfStep := by simp [Dev.ovfStep]
@[simp] theorem Dev.completeIdle_steady (d : Dev) : d.steady d.completeIdle := by simp [Dev.completeIdle]
@[simp] theorem Dev.mbeNewEpoch_steady (d : Dev) : d.steady d.mbeNewEpoch := by simp [Dev.mbeNewEpoch]

-- Operands -------------------------------------------------------------------------------------------------------------

@[simp] theorem Dev.fetch_steady (d : Dev) (q op : Nat) (e : SqEntry) (run : Dev → CompRef → Dev) (hrun : ∀ (x : Dev) (r : CompRef), x.steady (run x r)) : d.steady (d.fetch q op e run) := by
  simp [Dev.fetch, *]
@[simp] theorem Dev.descForm_steady (d : Dev) (q : Nat) (e : SqEntry) (form : Bool) (op : Nat) (run : Dev → CompRef → Dev) (hrun : ∀ (x : Dev) (r : CompRef), x.steady (run x r)) : d.steady (d.descForm q e form op run) := by
  simp [Dev.descForm, *]
@[simp] theorem Dev.admitReq_steady (d : Dev) (r : CompRef) (maxLvl off : Nat) (run : Dev → Dev) (hrun : ∀ x : Dev, x.steady (run x)) : d.steady (d.admitReq r maxLvl off run) := by
  simp [Dev.admitReq, *]
@[simp] theorem Dev.bar0Cmd_steady (d : Dev) (off maxLvl : Nat) (run : Dev → Dev) (hrun : ∀ x : Dev, x.steady (run x)) : d.steady (d.bar0Cmd off maxLvl run) := by
  simp [Dev.bar0Cmd, *]
@[simp] theorem Dev.bar0CmdElse_steady (d : Dev) (off maxLvl : Nat) (denied run : Dev → Dev) (hdenied : ∀ x : Dev, x.steady (denied x)) (hrun : ∀ x : Dev, x.steady (run x)) : d.steady (d.bar0CmdElse off maxLvl denied run) := by
  simp [Dev.bar0CmdElse, *]

-- BAR0 -----------------------------------------------------------------------------------------------------------------

@[simp] theorem Dev.domWrite_steady (d : Dev) (x : Nat) (accept : Bool) : d.steady (d.domWrite x accept) := by simp [Dev.domWrite]
@[simp] theorem Dev.softWrite_steady (d : Dev) (c : Nat) : d.steady (d.softWrite c) := by simp [Dev.softWrite]
@[simp] theorem Dev.goWrite_steady (d : Dev) : d.steady d.goWrite := by simp [Dev.goWrite]
@[simp] theorem Dev.rebuildWrite_steady (d : Dev) : d.steady d.rebuildWrite := by simp [Dev.rebuildWrite]
@[simp] theorem Dev.scanWrite_steady (d : Dev) : d.steady d.scanWrite := by simp [Dev.scanWrite]
@[simp] theorem Dev.nodeRelease_steady (d : Dev) (addr : Nat) : d.steady (d.nodeRelease addr) := by
  unfold Dev.nodeRelease; dsimp only; split <;> simp
@[simp] theorem Dev.nodeReadmit_steady (d : Dev) (addr : Nat) : d.steady (d.nodeReadmit addr) := by
  unfold Dev.nodeReadmit; dsimp only; split <;> simp
@[simp] theorem Dev.nodeCmdWrite_steady (d : Dev) (readmit : Bool) (addr : Nat) : d.steady (d.nodeCmdWrite readmit addr) := by simp [Dev.nodeCmdWrite]
@[simp] theorem Dev.ovfWrite_steady (d : Dev) : d.steady d.ovfWrite := by simp [Dev.ovfWrite]
@[simp] theorem Dev.reenableWrite_steady (d : Dev) (pairs : Nat) : d.steady (d.reenableWrite pairs) := by simp [Dev.reenableWrite]
@[simp] theorem Dev.testWrite_steady (d : Dev) (pairs : Nat) : d.steady (d.testWrite pairs) := by simp [Dev.testWrite]
@[simp] theorem Dev.recWrite_steady (d : Dev) (op seg : Nat) : d.steady (d.recWrite op seg) := by simp [Dev.recWrite]
@[simp] theorem Dev.recTrigWrite_steady (d : Dev) : d.steady d.recTrigWrite := by simp [Dev.recTrigWrite]
@[simp] theorem Dev.eraseWrite_steady (d : Dev) : d.steady d.eraseWrite := by simp [Dev.eraseWrite]
@[simp] theorem Dev.compactWrite_steady (d : Dev) : d.steady d.compactWrite := by simp [Dev.compactWrite]
@[simp] theorem Dev.vltWrite_steady (d : Dev) (run : Dev → Dev) (hrun : ∀ x : Dev, x.steady (run x)) : d.steady (d.vltWrite run) := by simp [Dev.vltWrite, *]
@[simp] theorem Dev.readFault_steady (d : Dev) (off : Nat) (whole : Bool) : d.steady (d.readFault off whole) := by simp [Dev.readFault]

-- Queues ---------------------------------------------------------------------------------------------------------------

@[simp] theorem Dev.badEntry_steady (d : Dev) (q : Nat) (w : Word) : d.steady (d.badEntry q w) := by simp [Dev.badEntry]
@[simp] theorem Dev.sqTailWrite_steady (d : Dev) (q index : Nat) (bad : List Word) : d.steady (d.sqTailWrite q index bad) := by simp [Dev.sqTailWrite]
@[simp] theorem Dev.cqHeadWrite_steady (d : Dev) (q index : Nat) : d.steady (d.cqHeadWrite q index) := by simp [Dev.cqHeadWrite]
@[simp] theorem Dev.dmaError_steady (d : Dev) (q : Nat) : d.steady (d.dmaError q) := by simp [Dev.dmaError]
@[simp] theorem Dev.coalesce_steady (d : Dev) (q : Nat) : d.steady (d.coalesce q) := by
  unfold Dev.coalesce; dsimp only; split <;> simp
@[simp] theorem Dev.msixWrite_steady (d : Dev) (i : Nat) (v : Word) : d.steady (d.msixWrite i v) := by simp [Dev.msixWrite]
@[simp] theorem Dev.linkUp_steady (d : Dev) (speed width : Nat) : d.steady (d.linkUp speed width) := by simp [Dev.linkUp]
@[simp] theorem Dev.linkDown_steady (d : Dev) : d.steady d.linkDown := by simp [Dev.linkDown]
@[simp] theorem Dev.regRead_steady (d v : Dev) (dram : List Host.Cell) (e : SqEntry) (r : CompRef) : d.steady (d.regRead v dram e r) := by
  unfold Dev.regRead; dsimp only; split <;> simp
@[simp] theorem Dev.schedFill_steady (d : Dev) (n : Nat) (e : SqEntry) : d.steady (d.schedFill n e) := by simp [Dev.schedFill]
@[simp] theorem Dev.offReq_steady (d : Dev) (r : CompRef) (off : Nat) : d.steady (d.offReq r off) := by simp [Dev.offReq]
@[simp] theorem Dev.xferReq_steady (d : Dev) (e : SqEntry) (r : CompRef) : d.steady (d.xferReq e r) := by
  unfold Dev.xferReq; dsimp only; (repeat' split) <;> simp
@[simp] theorem Dev.xferDone_steady (d : Dev) (dram : List Host.Cell) (q : Nat) : d.steady (d.xferDone dram q) := by
  unfold Dev.xferDone; dsimp only; split <;> simp
@[simp] theorem Dev.trigReq_steady (d : Dev) (e : SqEntry) (r : CompRef) : d.steady (d.trigReq e r) := by simp [Dev.trigReq]
@[simp] theorem Dev.txReq_steady (d : Dev) (e : SqEntry) (r : CompRef) : d.steady (d.txReq e r) := by simp [Dev.txReq]
@[simp] theorem Dev.rxReq_steady (d : Dev) (e : SqEntry) (r : CompRef) : d.steady (d.rxReq e r) := by simp [Dev.rxReq]

-- Events ---------------------------------------------------------------------------------------------------------------

@[simp] theorem Dev.powered_steady (d : Dev) (f : Dev → Dev) (hf : ∀ x : Dev, x.steady (f x)) : d.steady (d.powered f) := by simp [Dev.powered, *]
@[simp] theorem Dev.unit_steady (d : Dev) (n m : Nat) (f : Dev → Dev) (hf : ∀ x : Dev, x.steady (f x)) : d.steady (d.unit n m f) := by simp [Dev.unit, *]
@[simp] theorem Dev.blockLock_steady (d : Dev) (lane : Nat) : d.steady (d.blockLock lane) := by simp [Dev.blockLock]
@[simp] theorem Dev.blockLoss_steady (d : Dev) (lane : Nat) : d.steady (d.blockLoss lane) := by simp [Dev.blockLoss]
@[simp] theorem Dev.codeError_steady (d : Dev) (lane : Nat) (b : Dword) : d.steady (d.codeError lane b) := by simp [Dev.codeError]
@[simp] theorem Dev.noResponse_steady (d : Dev) : d.steady d.noResponse := by
  unfold Dev.noResponse; dsimp only; split <;> simp
@[simp] theorem Dev.scanInterval_steady (d : Dev) : d.steady d.scanInterval := by simp [Dev.scanInterval]
@[simp] theorem Dev.emblkHigh_steady (d : Dev) : d.steady d.emblkHigh := by simp [Dev.emblkHigh]
@[simp] theorem Dev.boundaryScan_steady (d : Dev) (instr : Nat) : d.steady (d.boundaryScan instr) := by simp [Dev.boundaryScan]
@[simp] theorem Dev.servicePort_steady (d : Dev) : d.steady d.servicePort := by simp [Dev.servicePort]
@[simp] theorem Dev.nodeSync_steady (d : Dev) (n p : Nat) (b : Dword) : d.steady (d.nodeSync n p b) := by simp [Dev.nodeSync]

-- Core -----------------------------------------------------------------------------------------------------------------

@[simp] theorem Dev.noteSelection_steady (d : Dev) : d.steady d.noteSelection := by simp [Dev.noteSelection]

-- Operations with a choice inside a loop -------------------------------------------------------------------------------------

@[simp] theorem Dev.concludeDisc_steady (d : Dev) : d.steady d.concludeDisc := by
  unfold Dev.concludeDisc
  extract_lets full eff dec s0 s d1 d2 k
  have hrefused : d.steady d1 := Dev.steady_foldl _ (fun x r => Dev.refuseNode_steady ..) _ _
  have hadmitted : d1.steady d2 := Dev.steady_foldl _ (fun x a => by split <;> simp) _ _
  have hboth := Dev.steady_trans hrefused hadmitted
  split <;> exact hboth

@[simp] theorem Dev.checkDisc_steady (d : Dev) : d.steady d.checkDisc := by simp [Dev.checkDisc]

@[simp] theorem Dev.probeStep_steady (d : Dev) : d.steady d.probeStep := by
  unfold Dev.probeStep
  extract_lets gone dead left k d1
  have hraised : d1.steady (dead.foldl (fun (x : Dev) p => match p.own with | some a => x.raise Sub.ikl a R.IKL_NODE_CMD 0 [word a] | none => x) d1) :=
    Dev.steady_foldl _ (fun x p => by split <;> simp) _ _
  have hstart : d.steady d1 := ⟨rfl, rfl, rfl, rfl, rfl⟩
  exact Dev.steady_trans hstart (Dev.steady_trans hraised (Dev.checkDisc_steady _))

@[simp] theorem Dev.sendFrames_steady (d : Dev) (arms : List Arm) : d.steady (d.sendFrames arms) := by
  unfold Dev.sendFrames
  exact Dev.steady_foldl _ (fun x n => by simp) _ _

@[simp] theorem Dev.sendRepeats_steady (d : Dev) : d.steady d.sendRepeats := Dev.sendFrames_steady ..

@[simp] theorem Dev.sendSync_steady (d : Dev) : d.steady d.sendSync := by
  unfold Dev.sendSync
  exact Dev.steady_foldl _ (fun x n => by simp) _ _

/-- A frame that fits is sent on the device of its part. -/
theorem Part.send_steady (p q : Part) (lane : Nat) (m : MFrame) (h : p.send lane m = some q) : p.dev.steady q.dev := by
  unfold Part.send at h
  dsimp only at h
  split at h
  · cases h
    simp
  · cases h

theorem Part.sendQueue_steady (p : Part) : p.dev.steady p.sendQueue.dev := by
  unfold Part.sendQueue
  refine foldl_keeps (fun (x : Part) => p.dev.steady x.dev) _ (fun x r hx => ?_) _ _ ⟨rfl, rfl, rfl, rfl, rfl⟩
  split
  · next y hy => exact Dev.steady_trans hx (Part.send_steady _ _ _ _ hy)
  · split
    · exact Dev.steady_trans hx (by simp)
    · exact hx

theorem Part.sendProbes_steady (p : Part) : p.dev.steady p.sendProbes.dev := by
  unfold Part.sendProbes
  refine foldl_keeps (fun (x : Part) => p.dev.steady x.dev) _ (fun x q hx => ?_) _ _ p.dev.steady_refl
  dsimp only
  split
  · exact hx
  split
  · next y hy => exact Dev.steady_trans (Dev.steady_trans hx (Part.send_steady _ _ _ _ hy)) ⟨rfl, rfl, rfl, rfl, rfl⟩
  · exact hx

theorem Part.sendMgmt_steady (p : Part) : p.dev.steady p.sendMgmt.dev := by
  unfold Part.sendMgmt
  dsimp only
  split
  · split
    · next y hy => exact Dev.steady_trans (Part.send_steady _ _ _ _ hy) ⟨rfl, rfl, rfl, rfl, rfl⟩
    · exact p.dev.steady_refl
  · exact p.dev.steady_refl

@[simp] theorem Dev.sendPart_steady (d : Dev) (start : Nat) : d.steady (d.sendPart start) := by
  unfold Dev.sendPart
  split
  · exact d.steady_refl
  · extract_lets free x
    have hsent : d.steady x :=
      Dev.steady_trans (Part.sendQueue_steady { dev := d, free := free }) (Dev.steady_trans (Part.sendProbes_steady _) (Part.sendMgmt_steady _))
    exact hsent

@[simp] theorem Dev.phaseStep_steady (d : Dev) : d.steady d.phaseStep := by
  unfold Dev.phaseStep
  extract_lets c since far b lo hi m clampNow d0 d1
  have hstep : d.steady d1 := ⟨rfl, rfl, rfl, rfl, rfl⟩
  split
  · exact d.steady_refl
  split
  · exact Dev.steady_trans hstep (by simp)
  · exact hstep

@[simp] theorem Dev.answer_steady (d : Dev) (o : Origin) (status result epoch : Nat) (data : List Word) : d.steady (d.answer o status result epoch data) := by
  cases o <;> simp [Dev.answer]

@[simp] theorem Dev.chopOver_steady (d : Dev) : d.steady d.chopOver := by
  unfold Dev.chopOver
  split
  · split
    · simp
    · exact d.steady_refl
  · exact d.steady_refl

@[simp] theorem Dev.ptpFollow_steady (d : Dev) (m : PtpMsg) : d.steady (d.ptpFollow m) := by
  unfold Dev.ptpFollow
  refine Dev.steady_trans (Dev.steady_foldl _ (fun x n => ?_) _ _) (Dev.ethRx_steady ..)
  split
  · split <;> simp
  · exact x.steady_refl

@[simp] theorem Dev.modulate_steady (d : Dev) : d.steady d.modulate := by
  unfold Dev.modulate
  dsimp only
  split <;> simp

@[simp] theorem Dev.slotFlags_steady (d : Dev) (e : Escrow) : d.steady (d.slotFlags e) := by
  unfold Dev.slotFlags
  refine Dev.steady_foldl _ (fun x n => ?_) _ _
  dsimp only
  split <;> split <;> simp

@[simp] theorem Dev.thmEvent_steady (d : Dev) (mask : Nat) (p : Nat → Bool) : d.steady (d.thmEvent mask p) := by
  unfold Dev.thmEvent
  split <;> simp

@[simp] theorem Dev.superseded_steady (d : Dev) (r : ModeReq) : d.steady (d.superseded r) := by
  unfold Dev.superseded
  split <;> simp

@[simp] theorem Dev.portCfgAll_steady (d : Dev) (eff : Nat) : d.steady (d.portCfgAll eff) := Dev.steady_foldl _ (fun x p => by simp) _ _

@[simp] theorem Dev.portResetAll_steady (d : Dev) : d.steady d.portResetAll := Dev.steady_foldl _ (fun x n => by simp) _ _

@[simp] theorem Dev.lpeRecord_steady (d : Dev) (void : Bool) : d.steady (d.lpeRecord void) := by
  unfold Dev.lpeRecord
  extract_lets ss kept l
  have hstart : d.steady { d with lpe := { l with slots := kept, next := kept } } := ⟨rfl, rfl, rfl, rfl, rfl⟩
  refine Dev.steady_trans hstart (Dev.steady_foldl _ (fun x n => ?_) _ _)
  split <;> simp

@[simp] theorem Dev.sampledValue_steady (d : Dev) (f : SvFrame) : d.steady (d.sampledValue f) := by
  unfold Dev.sampledValue
  split
  · exact d.steady_refl
  split <;> simp

@[simp] theorem Dev.nodeLost_steady (d : Dev) (addr : Nat) : d.steady (d.nodeLost addr) := by
  unfold Dev.nodeLost
  split
  · exact d.steady_refl
  split
  · simp
  · split <;> simp

@[simp] theorem Dev.nodeEblk_steady (d : Dev) (n p : Nat) (b : Dword) : d.steady (d.nodeEblk n p b) := Dev.atPort_steady _ _ _ _ (fun x => by simp)
@[simp] theorem Dev.nodeFrame_steady (d : Dev) (n p : Nat) (bs : List Dword) : d.steady (d.nodeFrame n p bs) := Dev.atPort_steady _ _ _ _ (fun x => by simp)
@[simp] theorem Dev.nodeReq_steady (d : Dev) (n p op : Nat) (bs : List Dword) (act : Node → MFrame → Node) : d.steady (d.nodeReq n p op bs act) :=
  Dev.atPort_steady _ _ _ _ (fun x => by simp)

@[simp] theorem Dev.nodeBoundary_steady (d : Dev) : d.steady d.nodeBoundary := by
  unfold Dev.nodeBoundary
  extract_lets k x m e0 d1 fresh d2 again d3 gone
  have h1 : d.steady d1 := by
    unfold d1
    split
    · exact ⟨rfl, rfl, rfl, rfl, rfl⟩
    · split <;> exact ⟨rfl, rfl, rfl, rfl, rfl⟩
  have h2 : d1.steady d2 := Dev.steady_foldl _ (fun x p => by simp) _ _
  have h3 : d2.steady d3 := Dev.steady_foldl _ (fun x p => by split <;> simp) _ _
  refine Dev.steady_trans h1 (Dev.steady_trans h2 (Dev.steady_trans h3 (Dev.steady_foldl _ (fun x p => ?_) _ _)))
  exact ⟨rfl, rfl, rfl, rfl, rfl⟩

@[simp] theorem Dev.passDone_steady (d : Dev) (dram : List Host.Cell) (j corrected : Nat) (bad : List Nat) : d.steady (d.passDone dram j corrected bad) := by
  unfold Dev.passDone
  extract_lets x c p width expd scrub
  split
  · exact d.steady_refl
  split
  next d0 res hread =>
    have hstart : d.steady d0 := by
      split at hread <;> cases hread <;> simp
    extract_lets mism stop y d1 d2 d3
    have h1 : d0.steady d1 := ⟨rfl, rfl, rfl, rfl, rfl⟩
    have h2 : d1.steady d2 := by
      unfold d2
      split <;> simp
    have h3 : d2.steady d3 := by
      unfold d3
      split <;> simp
    exact Dev.steady_trans hstart (Dev.steady_trans h1 (Dev.steady_trans h2 (Dev.steady_trans h3 (by simp))))

@[simp] theorem Dev.bootDomains_steady (d : Dev) : d.steady d.bootDomains := Dev.steady_foldl _ (fun x s => by split <;> simp) _ _

@[simp] theorem Dev.domainsCommitted_steady (d o : Dev) : d.steady (d.domainsCommitted o) := by
  unfold Dev.domainsCommitted
  exact Dev.steady_trans (Dev.steady_foldl _ (fun x s => by split <;> simp) _ _) (Dev.steady_foldl _ (fun x s => by split <;> simp) _ _)



end Sys2Proof.Machine
end

section
/-! SUPPORT. What the operations that are not steady leave alone: the mode, the epoch and the counters of the vault, and up to step 5 of a boundary also the requests. -/
namespace Sys2Proof.Machine

-- The relations ------------------------------------------------------------------------------------------------------------

/-- `b` has the mode, the requests for commits and clears, station time, vault, BOOT and active bank of `a`: only the rest of the system controller may have moved. -/
@[simp] abbrev Dev.orderly (a b : Dev) : Prop :=
  b.sys.mode = a.sys.mode ∧ b.sys.commitReqs = a.sys.commitReqs ∧ b.sys.tripClears = a.sys.tripClears ∧ b.tmb = a.tmb ∧ b.vlt = a.vlt ∧ b.boot = a.boot ∧
    b.active = a.active

theorem Dev.orderly_refl (d : Dev) : d.orderly d := ⟨rfl, rfl, rfl, rfl, rfl, rfl, rfl⟩

theorem Dev.orderly_of_steady {a b : Dev} (h : a.steady b) : a.orderly b := by
  obtain ⟨hsys, htmb, hvlt, hboot, hactive⟩ := h
  unfold Dev.orderly
  rw [hsys]
  exact ⟨rfl, rfl, rfl, htmb, hvlt, hboot, hactive⟩

theorem Dev.orderly_trans {a b c : Dev} (hab : a.orderly b) (hbc : b.orderly c) : a.orderly c := by
  obtain ⟨b1, b2, b3, b4, b5, b6, b7⟩ := hab
  obtain ⟨c1, c2, c3, c4, c5, c6, c7⟩ := hbc
  exact ⟨c1.trans b1, c2.trans b2, c3.trans b3, c4.trans b4, c5.trans b5, c6.trans b6, c7.trans b7⟩

/-- `b` has the mode, the requests, the epoch, the vault, BOOT and the active bank of `a`: the rest of the system controller and of station time may have moved. -/
@[simp] abbrev Dev.inEpoch (a b : Dev) : Prop :=
  b.sys.mode = a.sys.mode ∧ b.sys.commitReqs = a.sys.commitReqs ∧ b.sys.tripClears = a.sys.tripClears ∧ b.tmb.epoch = a.tmb.epoch ∧ b.tmb.reqs = a.tmb.reqs ∧
    b.vlt = a.vlt ∧ b.boot = a.boot ∧ b.active = a.active

theorem Dev.inEpoch_of_orderly {a b : Dev} (h : a.orderly b) : a.inEpoch b := by
  obtain ⟨hmode, hcommits, hclears, htmb, hvlt, hboot, hactive⟩ := h
  unfold Dev.inEpoch
  rw [htmb]
  exact ⟨hmode, hcommits, hclears, rfl, rfl, hvlt, hboot, hactive⟩

theorem Dev.inEpoch_trans {a b c : Dev} (hab : a.inEpoch b) (hbc : b.inEpoch c) : a.inEpoch c := by
  obtain ⟨b1, b2, b3, b4, b5, b6, b7, b8⟩ := hab
  obtain ⟨c1, c2, c3, c4, c5, c6, c7, c8⟩ := hbc
  exact ⟨c1.trans b1, c2.trans b2, c3.trans b3, c4.trans b4, c5.trans b5, c6.trans b6, c7.trans b7, c8.trans b8⟩

-- The system controller ------------------------------------------------------------------------------------------------------

@[simp] theorem Sys.mode_ite (p : Prop) [Decidable p] (a b : Sys) : (if p then a else b).mode = if p then a.mode else b.mode := apply_ite Sys.mode p a b
@[simp] theorem Sys.commitReqs_ite (p : Prop) [Decidable p] (a b : Sys) : (if p then a else b).commitReqs = if p then a.commitReqs else b.commitReqs :=
  apply_ite Sys.commitReqs p a b
@[simp] theorem Sys.tripClears_ite (p : Prop) [Decidable p] (a b : Sys) : (if p then a else b).tripClears = if p then a.tripClears else b.tripClears :=
  apply_ite Sys.tripClears p a b

@[simp] theorem Sys.staged_calm (s : Sys) : s.staged.mode = s.mode ∧ s.staged.commitReqs = s.commitReqs ∧ s.staged.tripClears = s.tripClears := ⟨rfl, rfl, rfl⟩

@[simp] theorem Dev.stage_orderly (d : Dev) (off : Nat) (v : Word) : d.orderly (d.stage off v) := by simp [Dev.stage]
@[simp] theorem Dev.armNodes_orderly (d : Dev) : d.orderly d.armNodes := by simp [Dev.armNodes]
@[simp] theorem Dev.overrunBlock_orderly (d : Dev) : d.orderly d.overrunBlock := by simp [Dev.overrunBlock]
@[simp] theorem Dev.overrun_orderly (d : Dev) : d.orderly d.overrun := by simp [Dev.overrun]
@[simp] theorem Dev.overrunNow_orderly (d : Dev) : d.orderly d.overrunNow := by simp [Dev.overrunNow]
@[simp] theorem Dev.prcAbort_orderly (d : Dev) (cause : Nat) : d.orderly (d.prcAbort cause) := by simp [Dev.prcAbort]
@[simp] theorem Dev.prcTimeout_orderly (d : Dev) : d.orderly d.prcTimeout := by simp [Dev.prcTimeout]
@[simp] theorem Dev.prcOver_orderly (d : Dev) : d.orderly d.prcOver := by simp [Dev.prcOver]
@[simp] theorem Dev.lossOfLock_orderly (d : Dev) : d.orderly d.lossOfLock := by simp [Dev.lossOfLock]
@[simp] theorem Dev.lockLost_orderly (d : Dev) : d.orderly d.lockLost := by simp [Dev.lockLost]
@[simp] theorem Dev.refLost_orderly (d : Dev) : d.orderly d.refLost := by simp [Dev.refLost]
@[simp] theorem Dev.emblk_orderly (d : Dev) : d.orderly d.emblk := by simp [Dev.emblk]
@[simp] theorem Dev.emblkLow_orderly (d : Dev) : d.orderly d.emblkLow := by simp [Dev.emblkLow]
@[simp] theorem Dev.watchdog_orderly (d : Dev) : d.orderly d.watchdog := by simp [Dev.watchdog]
@[simp] theorem Dev.cceStep_orderly (d : Dev) : d.orderly d.cceStep := by simp [Dev.cceStep]
@[simp] theorem Dev.conditions_orderly (d : Dev) : d.orderly d.conditions := by simp [Dev.conditions]
@[simp] theorem Dev.modeOutcome_orderly (d : Dev) (code target source : Nat) (late : Option Nat) : d.orderly (d.modeOutcome code target source late) := by
  simp [Dev.modeOutcome]
@[simp] theorem Dev.modeDenied_orderly (d : Dev) (target : Nat) : d.orderly (d.modeDenied target) := by simp [Dev.modeDenied]
@[simp] theorem Dev.sendDigest_orderly (d v : Dev) : d.orderly (d.sendDigest v) := by simp [Dev.sendDigest]
@[simp] theorem Dev.restamp_orderly (d : Dev) (k : Nat) : d.orderly (d.restamp k) := by simp [Dev.restamp]
@[simp] theorem Dev.holdOver_orderly (d : Dev) : d.orderly d.holdOver := by simp [Dev.holdOver]
@[simp] theorem Dev.sealedStage_orderly (d : Dev) (src : Option Nat) (off : Nat) (v : Word) (r : RegDef) : d.orderly (d.sealedStage src off v r) := by
  simp [Dev.sealedStage]
@[simp] theorem Dev.plainWrite_orderly (d : Dev) (src : Option Nat) (off : Nat) (v : Word) (r : RegDef) : d.orderly (d.plainWrite src off v r) := by
  simp [Dev.plainWrite]
@[simp] theorem Dev.tripWrite_orderly (d : Dev) : d.orderly d.tripWrite := by simp [Dev.tripWrite, Dev.bar0Cmd]
@[simp] theorem Dev.tripReq_orderly (d : Dev) (cause : Nat) (r : CompRef) : d.orderly (d.tripReq cause r) := by simp [Dev.tripReq, Dev.admitReq]

@[simp] theorem Dev.bar0Cmd_orderly (d : Dev) (off maxLvl : Nat) (run : Dev → Dev) (hrun : d.orderly (run d)) : d.orderly (d.bar0Cmd off maxLvl run) := by
  unfold Dev.bar0Cmd
  split
  · exact d.orderly_refl
  split
  · simp
  split
  · simp
  · exact hrun

@[simp] theorem Dev.joinMs_orderly (d : Dev) : d.orderly d.joinMs := by
  unfold Dev.joinMs
  split
  · split
    · simp
    · exact d.orderly_refl
  · exact d.orderly_refl

@[simp] theorem Dev.joinOver_orderly (d : Dev) : d.orderly d.joinOver := by
  unfold Dev.joinOver
  split
  · split
    · simp
    · exact d.orderly_refl
  · exact d.orderly_refl

@[simp] theorem Dev.engineRead_orderly (d : Dev) (subsys : Nat) (err : Option ReadErr) : d.orderly (d.engineRead subsys err) := by
  unfold Dev.engineRead
  split
  · exact d.orderly_refl
  · simp

@[simp] theorem Dev.tripAnswers_orderly (d : Dev) (epoch : Nat) : d.orderly (d.tripAnswers epoch) := by
  unfold Dev.tripAnswers
  exact foldl_keeps (fun x => d.orderly x) _ (fun x r hx => Dev.orderly_trans hx (by simp)) _ _ ⟨rfl, rfl, rfl, rfl, rfl, rfl, rfl⟩

@[simp] theorem Dev.modeRequest_orderly (d : Dev) (target : Nat) (o : Origin) : d.orderly (d.modeRequest target o) := by
  unfold Dev.modeRequest
  exact foldl_keeps (fun x => d.orderly x) _ (fun x r hx => Dev.orderly_trans hx (Dev.orderly_of_steady (x.superseded_steady r))) _ _ ⟨rfl, rfl, rfl, rfl, rfl, rfl, rfl⟩

@[simp] theorem Dev.modeWrite_orderly (d : Dev) (target : Nat) : d.orderly (d.modeWrite target) := by simp [Dev.modeWrite, Dev.bar0CmdElse]
@[simp] theorem Dev.modeReqDesc_orderly (d : Dev) (e : SqEntry) (r : CompRef) : d.orderly (d.modeReqDesc e r) := by simp [Dev.modeReqDesc]

@[simp] theorem Dev.stageReq_orderly (d : Dev) (q off : Nat) (v : Word) : d.orderly (d.stageReq q off v).1 := by
  unfold Dev.stageReq
  dsimp only
  split
  · simp
  split
  · simp
  split
  · simp
  split
  · simp
  split
  · simp
  split <;> simp

@[simp] theorem Dev.stageFrom_orderly (e : SqEntry) (q n i : Nat) (d : Dev) : d.orderly (Dev.stageFrom e q n i d).1 := by
  induction n generalizing i d with
  | zero => exact d.orderly_refl
  | succ n ih =>
    unfold Dev.stageFrom
    dsimp only
    split
    · exact Dev.orderly_trans (d.stageReq_orderly ..) (ih ..)
    · exact d.stageReq_orderly ..

@[simp] theorem Dev.regStage_orderly (d : Dev) (e : SqEntry) (r : CompRef) : d.orderly (d.regStage e r) := by simp [Dev.regStage]

@[simp] theorem Dev.applyEscrow_steady (d o : Dev) (e : Escrow) (whole : Bool) : d.steady (d.applyEscrow o e whole) := by simp [Dev.applyEscrow]

@[simp] theorem Dev.escrowStep_steady (d o : Dev) : d.steady (d.escrowStep o).1 := by
  unfold Dev.escrowStep
  split
  · exact d.steady_refl
  · extract_lets cmp bad r0 d0 d1 fit use back r
    have h1 : d.steady d1 := by
      unfold d1
      split <;> simp [d0]
    clear_value use
    cases use with
    | some x => exact Dev.steady_trans h1 (Dev.steady_trans (Dev.applyEscrow_steady ..) ⟨rfl, rfl, rfl, rfl, rfl⟩)
    | none => exact Dev.steady_trans h1 ⟨rfl, rfl, rfl, rfl, rfl⟩

@[simp] theorem Dev.recordStep_orderly (d : Dev) (void : Bool) : d.orderly (d.recordStep void).1 := by
  unfold Dev.recordStep
  extract_lets k ran d1 s1 d2 d3 arms m3 d4 d5 r
  have h2 : d.orderly d2 := by
    unfold d2
    split
    · exact ⟨rfl, rfl, rfl, rfl, rfl, rfl, rfl⟩
    · exact ⟨rfl, rfl, rfl, rfl, rfl, rfl, rfl⟩
  have h4 : d2.orderly d4 := Dev.orderly_of_steady (by simp [d4, d3])
  have h5 : d4.orderly d5 := Dev.orderly_of_steady (by simp [d5])
  have hend : d5.orderly r.1.staleEp.joinEp.revertMs.joinMs.gradeHold.roleBoundary.rdnSettle := by simp [r]
  exact Dev.orderly_trans h2 (Dev.orderly_trans h4 (Dev.orderly_trans h5 hend))

-- Station time -------------------------------------------------------------------------------------------------------------

@[simp] theorem Tmb.epoch_ite (p : Prop) [Decidable p] (a b : Tmb) : (if p then a else b).epoch = if p then a.epoch else b.epoch := apply_ite Tmb.epoch p a b
@[simp] theorem Tmb.reqs_ite (p : Prop) [Decidable p] (a b : Tmb) : (if p then a else b).reqs = if p then a.reqs else b.reqs := apply_ite Tmb.reqs p a b

@[simp] theorem Dev.timeTo_inEpoch (d : Dev) (t : Nat) : d.inEpoch (d.timeTo t) := by simp [Dev.timeTo]

/-- Station time goes forward to the instant, never back (R25). -/
@[simp] theorem Dev.timeTo_now (d : Dev) (t : Nat) : (d.timeTo t).tmb.now = max d.tmb.now t := by
  unfold Dev.timeTo
  split
  · next hpast => exact (Nat.max_eq_left hpast).symm
  · next hahead => exact (Nat.max_eq_right (Nat.le_of_not_le hahead)).symm

/-- Work at the end of an epoch leaves station time where it stood. -/
theorem Dev.endOf_orderly (d : Dev) (b : Nat) (f : Dev → Dev) (hf : ∀ x : Dev, x.orderly (f x)) : d.orderly (d.endOf b f) := by
  unfold Dev.endOf
  split
  · exact hf d
  · extract_lets t y
    obtain ⟨hmode, hcommits, hclears, htmb, hvlt, hboot, hactive⟩ := hf { d with tmb := { t with now := d.stampNow - d.advance1.toNat, age := 0 } }
    refine ⟨hmode, hcommits, hclears, ?_, hvlt, hboot, hactive⟩
    exact congrArg (fun x : Tmb => { x with now := t.now, age := t.age }) htmb

-- The end of the epoch -----------------------------------------------------------------------------------------------------

theorem Dev.overrunStep_inEpoch (d : Dev) (late : Bool) (b : Nat) : d.inEpoch (d.overrunStep late b) := by
  unfold Dev.overrunStep
  split
  · exact Dev.inEpoch_trans (d.timeTo_inEpoch _) (Dev.inEpoch_of_orderly (Dev.endOf_orderly _ _ _ Dev.overrunNow_orderly))
  · exact ⟨rfl, rfl, rfl, rfl, rfl, rfl, rfl, rfl⟩

/-- The dispatch deadline lies in the epoch. -/
theorem Dev.overrunStep_now (d : Dev) (late : Bool) (b : Nat) (h : d.tmb.now ≤ b) : (d.overrunStep late b).tmb.now ≤ b := by
  unfold Dev.overrunStep
  split
  · have htime := congrArg Tmb.now (Dev.endOf_orderly (d.timeTo (d.deadlineAt b)) b _ Dev.overrunNow_orderly).2.2.2.1
    rw [htime, Dev.timeTo_now]
    exact Nat.max_le.2 ⟨h, Nat.sub_le _ _⟩
  · exact h

/-- At the end of the epoch that ends at `b` station time is `b` (R33, R65). -/
theorem Dev.endEpoch_inEpoch (d : Dev) (late : Bool) (b : Nat) (h : d.tmb.now ≤ b) : d.inEpoch (d.endEpoch late b).1 ∧ (d.endEpoch late b).1.tmb.now = b := by
  unfold Dev.endEpoch
  extract_lets e0 e1 e2 e3
  have h0 : d.orderly e0 := Dev.orderly_trans (Dev.orderly_of_steady (by simp [Dev.txOver])) (Dev.endOf_orderly _ _ _ (fun x => Dev.orderly_of_steady x.epochOver_steady))
  have hpart : e0.orderly (if e0.isOverrun late then e0 else e0.sendPart (e0.tmb.syncUp + 2 * blockU)) := by split <;> simp
  have hstart := Dev.orderly_trans h0 hpart
  have h1 : d.inEpoch e1 := Dev.inEpoch_trans (Dev.inEpoch_of_orderly hstart) (Dev.overrunStep_inEpoch ..)
  have hnow1 : e1.tmb.now ≤ b := Dev.overrunStep_now _ _ _ (by rw [hstart.2.2.2.1]; exact h)
  have hnodes : e1.orderly (if e1.lanesRun then e1.endOf b Dev.armNodes else e1) := by
    split
    · exact Dev.endOf_orderly _ _ _ Dev.armNodes_orderly
    · exact e1.orderly_refl
  have h2 : e1.inEpoch e2 := Dev.inEpoch_trans (Dev.inEpoch_of_orderly hnodes) (Dev.timeTo_inEpoch _ b)
  have hnow2 : e2.tmb.now = b := by
    unfold e2
    rw [Dev.timeTo_now, hnodes.2.2.2.1]
    exact Nat.max_eq_right hnow1
  have h3 : e2.orderly e3 := Dev.orderly_trans (Dev.endOf_orderly e2 b _ Dev.joinOver_orderly) (Dev.orderly_of_steady (Dev.phaseErr_steady _ _))
  have hend : e3.orderly (if e3.frtExpired e3.frtOk then e3.endOf b (fun x => x.raiseCause Cause.frtTimeout) else e3) := by
    split
    · exact Dev.endOf_orderly _ _ _ (fun x => by simp)
    · exact e3.orderly_refl
  have hlast := Dev.orderly_trans h3 hend
  exact ⟨Dev.inEpoch_trans h1 (Dev.inEpoch_trans h2 (Dev.inEpoch_of_orderly hlast)), (congrArg Tmb.now hlast.2.2.2.1).trans hnow2⟩

end Sys2Proof.Machine
end

section
/-! SUPPORT. The operations that keep the mode, the epoch and the monotonic counters of the vault (R35, R71, R555); those that move one of the three. -/
namespace Sys2Proof.Machine

-- The relation -------------------------------------------------------------------------------------------------------------

/-- `b` has the mode, the epoch and the monotonic counters of `a`. -/
@[simp] abbrev Dev.calm (a b : Dev) : Prop := b.sys.mode = a.sys.mode ∧ b.tmb.epoch = a.tmb.epoch ∧ b.vlt.ctrs = a.vlt.ctrs

theorem Dev.calm_refl (d : Dev) : d.calm d := ⟨rfl, rfl, rfl⟩

theorem Dev.calm_trans {a b c : Dev} (hab : a.calm b) (hbc : b.calm c) : a.calm c := by
  obtain ⟨bmode, bepoch, bctrs⟩ := hab
  obtain ⟨cmode, cepoch, cctrs⟩ := hbc
  exact ⟨cmode.trans bmode, cepoch.trans bepoch, cctrs.trans bctrs⟩

/-- A fold of calm steps that starts calm stays calm. -/
theorem Dev.calm_foldl {α : Type} {d : Dev} (f : Dev → α → Dev) (step : ∀ (x : Dev) (a : α), x.calm (f x a)) (l : List α) (x : Dev) (hx : d.calm x) :
    d.calm (l.foldl f x) :=
  foldl_keeps (fun y => d.calm y) f (fun y a hy => Dev.calm_trans hy (step y a)) l x hx

@[simp] theorem Vlt.ctrs_ite (p : Prop) [Decidable p] (a b : Vlt) : (if p then a else b).ctrs = if p then a.ctrs else b.ctrs := apply_ite Vlt.ctrs p a b

theorem Dev.bar0CmdElse_calm (d : Dev) (off maxLvl : Nat) (denied run : Dev → Dev) (hdenied : ∀ x : Dev, x.calm (denied x)) (hrun : d.calm (run d)) :
    d.calm (d.bar0CmdElse off maxLvl denied run) := by
  unfold Dev.bar0CmdElse
  split
  · exact d.calm_refl
  split
  · exact Dev.calm_trans (by simp) (hdenied _)
  · exact hrun

theorem Dev.bar0Cmd_calm (d : Dev) (off maxLvl : Nat) (run : Dev → Dev) (hrun : d.calm (run d)) : d.calm (d.bar0Cmd off maxLvl run) := by
  unfold Dev.bar0Cmd
  split
  · exact d.calm_refl
  split
  · simp
  split
  · simp
  · exact hrun

theorem Dev.admitReq_calm (d : Dev) (r : CompRef) (maxLvl off : Nat) (run : Dev → Dev) (hrun : d.calm (run d)) : d.calm (d.admitReq r maxLvl off run) := by
  unfold Dev.admitReq
  split
  · exact hrun
  · simp

-- The root clock and station time --------------------------------------------------------------------------------------

@[simp] theorem Dev.tick_calm (d : Dev) : d.calm (d.tick) := by simp [Dev.tick]
@[simp] theorem Dev.slewDone_calm (d : Dev) : d.calm (d.slewDone) := by simp [Dev.slewDone]
@[simp] theorem Dev.adjResult_calm (d : Dev) (o : Machine.Origin) (result epoch : Nat) : d.calm (d.adjResult o result epoch) := by
  unfold Dev.adjResult; dsimp only; split <;> simp

@[simp] theorem Dev.adjIncr_calm (d : Dev) (o : Origin) (trim : Int) (joint : Bool) : d.calm (d.adjIncr o trim joint) := by
  unfold Dev.adjIncr
  split
  · simp
  · exact Dev.calm_foldl _ (fun x r => by simp) _ _ ⟨rfl, rfl, rfl⟩

@[simp] theorem Dev.adjStep_calm (d : Dev) (o : Machine.Origin) (ns : Int) : d.calm (d.adjStep o ns) := by simp [Dev.adjStep]
@[simp] theorem Dev.capture_calm (d : Dev) : d.calm (d.capture) := by simp [Dev.capture]
@[simp] theorem Dev.setTt_calm (d : Dev) (n : Nat) (x : Tt) : d.calm (d.setTt n x) := by simp [Dev.setTt]
@[simp] theorem Dev.ttFirst_calm (d : Dev) (n b : Nat) : d.calm (d.ttFirst n b) := by simp [Dev.ttFirst]
@[simp] theorem Dev.ttBegin_calm (d : Dev) (n t ns : Nat) : d.calm (d.ttBegin n t ns) := by simp [Dev.ttBegin]
@[simp] theorem Dev.ttEnd_calm (d : Dev) (n : Nat) : d.calm (d.ttEnd n) := by simp [Dev.ttEnd]
@[simp] theorem Dev.setSched_calm (d : Dev) (e : Nat) (x : Sched) : d.calm (d.setSched e x) := by simp [Dev.setSched]
@[simp] theorem Dev.schedFinal_calm (d : Dev) (e st result late epoch : Nat) : d.calm (d.schedFinal e st result late epoch) := by
  unfold Dev.schedFinal; dsimp only; split <;> simp

@[simp] theorem Dev.ttMissed_calm (d : Dev) (e : Nat) : d.calm (d.ttMissed e) := by simp [Dev.ttMissed]
@[simp] theorem Dev.armEntry_calm (d : Dev) (e : Nat) (ref : Option CompRef) : d.calm (d.arm e ref) := by simp [Dev.arm]
@[simp] theorem Dev.schedCancel_calm (d : Dev) (e : Nat) : d.calm (d.schedCancel e) := by simp [Dev.schedCancel]
@[simp] theorem Dev.ttStart_calm (d : Dev) (n : Nat) : d.calm (d.ttStart n) := by
  unfold Dev.ttStart; dsimp only; (repeat' split) <;> simp

@[simp] theorem Dev.steppedActions_calm (d : Dev) (t0 : Nat) : d.calm (d.steppedActions t0) := by
  unfold Dev.steppedActions
  refine Dev.calm_foldl _ (fun x n => ?_) _ _ (Dev.calm_foldl _ (fun x e => ?_) _ _ d.calm_refl)
  · split <;> simp
  · dsimp only
    (repeat' split) <;> simp


-- Protective causes ----------------------------------------------------------------------------------------------------

@[simp] theorem Dev.protectStep_calm (d : Dev) (b : Nat) : d.calm (d.protectStep b) := by simp [Dev.protectStep]
@[simp] theorem Dev.clearTrip_calm (d : Dev) (r : Option CompRef) : d.calm (d.clearTrip r) := by simp [Dev.clearTrip]

-- Commits --------------------------------------------------------------------------------------------------------------

@[simp] theorem Dev.commitAnswer_calm (d : Dev) (b : Nat) (r : CommitReq) (code fault : Nat) (gen : Word) (effect : Bool) (kNext : Nat) (x : Dev) :
    x.calm (d.commitAnswer b r code fault gen effect kNext x) := by
  unfold Dev.commitAnswer
  extract_lets ep
  split
  · simp
  · split
    · split <;> simp
    · simp
  · exact x.calm_refl

@[simp] theorem Dev.commitStep_calm (d : Dev) (b : Nat) : d.calm (d.commitStep b).dev := by
  unfold Dev.commitStep; dsimp only; (repeat' split) <;> simp

@[simp] theorem Dev.commitRequest_calm (d : Dev) (abandon : Bool) (gen : Option Word) (o : Machine.Origin) : d.calm (d.commitRequest abandon gen o) := by simp [Dev.commitRequest]

-- Temperature ----------------------------------------------------------------------------------------------------------

@[simp] theorem Dev.orderlyStop_calm (d : Dev) (cause : Nat) : d.calm (d.orderlyStop cause) := by simp [Dev.orderlyStop]
@[simp] theorem Dev.thermalRound_calm (d : Dev) (rs : List Reading) : d.calm (d.thermalRound rs) := by
  unfold Dev.thermalRound; dsimp only; (repeat' split) <;> simp


-- The vault ------------------------------------------------------------------------------------------------------------

@[simp] theorem Dev.vltResult_calm (d : Dev) (op res : Nat) : d.calm (d.vltResult op res) := by simp [Dev.vltResult]
@[simp] theorem Dev.vltCmd_calm (d : Dev) (op maxLvl : Nat) (modeOk stateOk : Bool) (run : Dev → Dev) (hrun : ∀ x : Dev, x.calm (run x)) : d.calm (d.vltCmd op maxLvl modeOk stateOk run) := by simp [Dev.vltCmd, *]
@[simp] theorem Dev.vltRun_calm (d : Dev) (op res : Nat) : d.calm (d.vltRun op res) := by simp [Dev.vltRun]
@[simp] theorem Dev.provision_calm (d : Dev) : d.calm d.provision := by
  unfold Dev.provision
  exact d.vltCmd_calm _ _ _ _ _ (fun x => by simp [Dev.vltRun, Dev.freeBytes])

@[simp] theorem Dev.setOwner_calm (d : Dev) : d.calm (d.setOwner) := by simp [Dev.setOwner]
@[simp] theorem Dev.storeCert_calm (d : Dev) (len : Nat) : d.calm (d.storeCert len) := by simp [Dev.storeCert]
@[simp] theorem Dev.sealVault_calm (d : Dev) : d.calm (d.sealVault) := by simp [Dev.sealVault]
@[simp] theorem Dev.sealStep_calm (d : Dev) : d.calm (d.sealStep) := by simp [Dev.sealStep]
@[simp] theorem Dev.attest_calm (d : Dev) : d.calm (d.attest) := by simp [Dev.attest]
@[simp] theorem Dev.attestLatch_calm (d : Dev) : d.calm (d.attestLatch) := by simp [Dev.attestLatch]
@[simp] theorem Dev.attestReport_calm (d : Dev) : d.calm (d.attestReport) := by simp [Dev.attestReport]
@[simp] theorem Dev.challenge_calm (d : Dev) : d.calm d.challenge := by
  unfold Dev.challenge
  exact d.vltCmd_calm _ _ _ _ _ (fun x => by simp [Dev.vltRun, Dev.freeBytes])

@[simp] theorem Dev.challengeExpiry_calm (d : Dev) : d.calm (d.challengeExpiry) := by simp [Dev.challengeExpiry]
@[simp] theorem Dev.unlock_calm (d : Dev) : d.calm d.unlock := by
  unfold Dev.unlock
  refine d.vltCmd_calm _ _ _ _ _ (fun x => ?_)
  dsimp only
  (repeat' split) <;> simp [Dev.vltRun, Vlt.zeroize]

@[simp] theorem Dev.vltComplete_calm (d : Dev) : d.calm d.vltComplete := by
  unfold Dev.vltComplete
  split
  · exact d.calm_refl
  split
  · exact d.calm_refl
  · dsimp only
    (repeat' split) <;> simp [Vlt.zeroized]

@[simp] theorem Dev.closePort_calm (d : Dev) : d.calm (d.closePort) := by simp [Dev.closePort]

-- Power ----------------------------------------------------------------------------------------------------------------

@[simp] theorem Dev.domainUp_calm (d : Dev) (n : Nat) : d.calm (d.domainUp n) := by simp [Dev.domainUp]
@[simp] theorem Dev.imageTimeout_calm (d : Dev) : d.calm (d.imageTimeout) := by simp [Dev.imageTimeout]
@[simp] theorem Dev.powerFail_calm (d : Dev) : d.calm (d.powerFail) := by simp [Dev.powerFail]

-- Applied commits ------------------------------------------------------------------------------------------------------

@[simp] theorem Dev.ttCommitted_calm (d o : Dev) (b : Nat) : d.calm (d.ttCommitted o b) := by
  unfold Dev.ttCommitted
  exact Dev.calm_foldl _ (fun x n => by split <;> simp) _ _ d.calm_refl

@[simp] theorem Dev.applied_calm (d o : Dev) (b k : Nat) : d.calm (d.applied o b k) := by simp [Dev.applied]
@[simp] theorem Dev.setpoint_calm (d : Dev) (e b k : Nat) : d.calm (d.setpoint e b k).1 := by
  unfold Dev.setpoint; dsimp only; split <;> simp

theorem Dev.setpoints_calm (d : Dev) (b k : Nat) : d.calm (d.setpoints b k).1 := by
  unfold Dev.setpoints
  exact foldl_keeps (fun x : Dev × List (Dev → Dev) => d.calm x.1) _ (fun x e hx => Dev.calm_trans hx (by simp)) _ _ d.calm_refl

@[simp] theorem Dev.adjust_calm (d : Dev) (b : Nat) : d.calm (d.adjust b) := by simp [Dev.adjust]
@[simp] theorem Dev.adjAnswers_calm (d : Dev) (rs : List AdjReq) (k : Nat) : d.calm (d.adjAnswers rs k) := by
  unfold Dev.adjAnswers
  exact Dev.calm_foldl _ (fun x r => by simp) _ _ d.calm_refl


-- The boundary ---------------------------------------------------------------------------------------------------------

@[simp] theorem Dev.linkResetStep_calm (d : Dev) : d.calm (d.linkResetStep) := by simp [Dev.linkResetStep]
@[simp] theorem Dev.bootApplied_calm (d o : Dev) (b : Nat) : d.calm (d.bootApplied o b) := by simp [Dev.bootApplied]

-- BAR0 -----------------------------------------------------------------------------------------------------------------

@[simp] theorem Dev.commitWrite_calm (d : Dev) (go abandon : Bool) : d.calm (d.commitWrite go abandon) := by
  unfold Dev.commitWrite
  exact d.bar0Cmd_calm _ _ _ (by dsimp only; (repeat' split) <;> simp)

@[simp] theorem Dev.tripClearWrite_calm (d : Dev) : d.calm d.tripClearWrite := by
  unfold Dev.tripClearWrite
  exact d.bar0Cmd_calm _ _ _ (by simp)

@[simp] theorem Dev.incrWrite_calm (d : Dev) : d.calm d.incrWrite := by
  unfold Dev.incrWrite
  have hall : ∀ trim, d.calm (d.bar0CmdElse R.TMB_ADJ_GO 1 (fun x => x.adjResult .bar0 5 0) (fun x => x.adjIncr .bar0 trim)) := fun trim =>
    d.bar0CmdElse_calm _ _ _ _ (fun x => x.adjResult_calm .bar0 5 0) (d.adjIncr_calm .bar0 trim false)
  exact hall _

@[simp] theorem Dev.stepWrite_calm (d : Dev) : d.calm d.stepWrite := by
  unfold Dev.stepWrite
  extract_lets ns
  clear_value ns
  exact d.bar0CmdElse_calm _ _ _ _ (fun x => by simp) (by simp)

@[simp] theorem Dev.capWrite_calm (d : Dev) : d.calm d.capWrite := by
  unfold Dev.capWrite
  exact d.bar0Cmd_calm _ _ _ (by simp)

@[simp] theorem Dev.armDenied_calm (d : Dev) (e : Nat) : d.calm (d.armDenied e) := by simp [Dev.armDenied]
@[simp] theorem Dev.armWrite_calm (d : Dev) (e : Nat) : d.calm (d.armWrite e) := by
  unfold Dev.armWrite
  exact d.bar0CmdElse_calm _ _ _ _ (fun x => by simp) (by split <;> simp)

@[simp] theorem Dev.cancelWrite_calm (d : Dev) (e : Nat) : d.calm (d.cancelWrite e) := by
  unfold Dev.cancelWrite
  exact d.bar0Cmd_calm _ _ _ (by simp)


-- Queues ---------------------------------------------------------------------------------------------------------------

@[simp] theorem Dev.commitReq_calm (d : Dev) (e : SqEntry) (r : CompRef) : d.calm (d.commitReq e r) := by
  unfold Dev.commitReq
  exact d.admitReq_calm _ _ _ _ (by simp)

@[simp] theorem Dev.armReq_calm (d : Dev) (e : SqEntry) (r : CompRef) : d.calm (d.armReq e r) := by simp [Dev.armReq]
@[simp] theorem Dev.cancelReq_calm (d : Dev) (e : SqEntry) (r : CompRef) : d.calm (d.cancelReq e r) := by
  unfold Dev.cancelReq
  exact d.admitReq_calm _ _ _ _ (by simp)

@[simp] theorem Dev.incrReq_calm (d : Dev) (e : SqEntry) (r : CompRef) : d.calm (d.incrReq e r) := by simp [Dev.incrReq]
@[simp] theorem Dev.stepReq_calm (d : Dev) (e : SqEntry) (r : CompRef) : d.calm (d.stepReq e r) := by simp [Dev.stepReq]
@[simp] theorem Dev.clearReqDesc_calm (d : Dev) (r : CompRef) : d.calm (d.clearReqDesc r) := by
  unfold Dev.clearReqDesc
  exact d.admitReq_calm _ _ _ _ (by simp)


-- Events ---------------------------------------------------------------------------------------------------------------

@[simp] theorem Dev.instant_calm (d : Dev) (t : Nat) (f : Dev → Dev) (hf : ∀ x : Dev, x.calm (f x)) : d.calm (d.instant t f) := by simp [Dev.instant, *]
@[simp] theorem Dev.cutoffAdc_calm (d : Dev) : d.calm (d.cutoffAdc) := by simp [Dev.cutoffAdc]
@[simp] theorem Dev.cutoffLane_calm (d : Dev) (lane : Nat) : d.calm (d.cutoffLane lane) := by simp [Dev.cutoffLane]
@[simp] theorem Dev.cutoffEscrow_calm (d : Dev) : d.calm (d.cutoffEscrow) := by simp [Dev.cutoffEscrow]

-- The recorder with its DRAM -----------------------------------------------------------------------------------------------

theorem RecSt.row_steady (x : RecSt) (k sync : Nat) (vals : List (Option Word)) : x.dev.steady (x.row k sync vals).dev := by
  unfold RecSt.row; dsimp only; (repeat' split) <;> simp

theorem RecSt.trigger_steady (x : RecSt) (t : Trig) : x.dev.steady (x.trigger t).dev := by
  unfold RecSt.trigger; dsimp only; (repeat' split) <;> simp

theorem RecSt.triggers_steady (x : RecSt) (b : Nat) : x.dev.steady (x.triggers b).dev :=
  foldl_keeps (fun y : RecSt => x.dev.steady y.dev) _ (fun y t hy => Dev.steady_trans hy (y.trigger_steady t)) _ _ ⟨rfl, rfl, rfl, rfl, rfl⟩

theorem RecSt.close_steady (x : RecSt) (ended : Bool) (kNext : Nat) : x.dev.steady (x.close ended kNext).dev := by
  simp [RecSt.close]

/-- A segment that ends early is closed under the settings it was recorded with; the active bank is then the one of before. -/
theorem RecSt.finish_steady (x : RecSt) (old : Dev) (kNext : Nat) : x.dev.steady (x.finish old kNext).dev := by
  unfold RecSt.finish
  extract_lets d y z
  split
  · obtain ⟨hsys, htmb, hvlt, hboot, _⟩ := RecSt.close_steady { x with dev := { d with active := old.active } } true kNext
    have hclose : x.dev.steady { z with active := d.active } := ⟨hsys, htmb, hvlt, hboot, rfl⟩
    exact Dev.steady_trans hclose (Dev.recOpen_steady { z with active := d.active } kNext)
  split
  · exact d.recOpen_steady kNext
  · exact x.dev.steady_refl

theorem RecSt.command_steady (x : RecSt) (kNext : Nat) (c : RecCmd) : x.dev.steady (x.command kNext c).dev := by
  unfold RecSt.command
  extract_lets d y
  split
  · split
    · exact d.recOpen_steady kNext
    · exact d.steady_refl
  · exact Dev.steady_trans (x.finish_steady d kNext) ⟨rfl, rfl, rfl, rfl, rfl⟩
  · exact d.recDiscard_steady
  · exact ⟨rfl, rfl, rfl, rfl, rfl⟩
  · exact d.steady_refl

theorem RecSt.epoch_steady (x : RecSt) (v : Dev) (ps : List (Option Path)) (k sync b : Nat) : x.dev.steady (x.epoch v ps k sync b).dev := by
  unfold RecSt.epoch
  extract_lets vals x1 x2
  have h2 : x.dev.steady x2.dev :=
    Dev.steady_trans (x.dev.recConditions_steady k sync vals)
      (Dev.steady_trans (RecSt.row_steady { x with dev := x.dev.recConditions k sync vals } k sync vals) (x1.triggers_steady b))
  split
  · exact Dev.steady_trans h2 (x2.close_steady _ _)
  · exact h2

theorem RecSt.committed_steady (x : RecSt) (o : Dev) (stepped : Bool) (kNext : Nat) : x.dev.steady (x.committed o stepped kNext).dev := by
  unfold RecSt.committed
  extract_lets d x1
  have h1 : x.dev.steady x1.dev := by
    unfold x1
    split
    · exact x.finish_steady o kNext
    · exact x.dev.steady_refl
  split
  · exact Dev.steady_trans h1 x1.dev.recDiscard_steady
  · exact h1

theorem RecSt.commands_steady (x : RecSt) (b kNext : Nat) : x.dev.steady (x.commands b kNext).dev := by
  unfold RecSt.commands
  extract_lets x0 due
  have h0 : x.dev.steady x0.dev := by
    unfold x0
    split
    · exact x.dev.recOpen_steady kNext
    · exact x.dev.steady_refl
  refine Dev.steady_trans h0 ?_
  exact foldl_keeps (fun y : RecSt => x0.dev.steady y.dev) _ (fun y c hy => Dev.steady_trans hy (y.command_steady kNext c)) _ _ ⟨rfl, rfl, rfl, rfl, rfl⟩

-- What moves the mode ------------------------------------------------------------------------------------------------------

/-- `b` has the epoch and the monotonic counters of `a`; the mode may have moved. -/
@[simp] abbrev Dev.counted (a b : Dev) : Prop := b.tmb.epoch = a.tmb.epoch ∧ b.vlt.ctrs = a.vlt.ctrs

theorem Dev.counted_refl (d : Dev) : d.counted d := ⟨rfl, rfl⟩

theorem Dev.counted_of_calm {a b : Dev} (h : a.calm b) : a.counted b := h.2

theorem Dev.counted_trans {a b c : Dev} (hab : a.counted b) (hbc : b.counted c) : a.counted c := ⟨hbc.1.trans hab.1, hbc.2.trans hab.2⟩

/-- Entering a mode sets it, whatever else it starts and stops (R71, R99, R105). -/
theorem Dev.setMode_shows (d : Dev) (m : Mode) (k : Nat) : (d.setMode m k).sys.mode = m ∧ d.counted (d.setMode m k) := by
  simp [Dev.setMode]

@[simp] theorem Dev.setMode_counted (d : Dev) (m : Mode) (k : Nat) : d.counted (d.setMode m k) := (d.setMode_shows m k).2
@[simp] theorem Dev.enter_counted (d : Dev) (t : Mode) (k : Nat) : d.counted (d.enter t k) := by simp [Dev.enter]

@[simp] theorem Dev.frtStep_counted (d : Dev) (ok : Bool) (k : Nat) : d.counted (d.frtStep ok k).1 := by
  unfold Dev.frtStep; dsimp only; (repeat' split) <;> simp

@[simp] theorem Dev.imposeMode_counted (d : Dev) (e : Escrow) (k : Nat) : d.counted (d.imposeMode e k) := by simp [Dev.imposeMode]
@[simp] theorem Dev.bsAuto_counted (d : Dev) (quiet : Bool) (k : Nat) : d.counted (d.bsAuto quiet k) := by simp [Dev.bsAuto]
@[simp] theorem Dev.join_counted (d : Dev) (x : ModeCtx) (e : Escrow) : d.counted (d.join x e) := by simp [Dev.join]

@[simp] theorem Dev.evalMode_counted (d : Dev) (x : ModeCtx) (target : Nat) : d.counted (d.evalMode x target).1 := by
  have same : ∀ n : Nat, d.counted (d, n).1 := fun _ => d.counted_refl
  have hite : ∀ (p : Prop) {_ : Decidable p} (a b : Dev × Nat), d.counted a.1 → d.counted b.1 → d.counted (if p then a else b).1 := by
    intro p _ a b ha hb
    split
    · exact ha
    · exact hb
  unfold Dev.evalMode
  refine hite _ _ _ (same _) (hite _ _ _ (same _) (hite _ _ _ (same _) ?_))
  cases Mode.ofCode target with
  | none => exact same _
  | some t =>
    dsimp only
    refine hite _ _ _ (same _) (hite _ _ _ (same _) (hite _ _ _ (same _) (hite _ _ _ (same _) (hite _ _ _ ?_ (hite _ _ _ (same _) (hite _ _ _ ?_ ?_))))))
    · cases d.escFresh with
      | some e => exact hite _ _ _ (d.join_counted x e) (same _)
      | none => exact same _
    · exact hite _ _ _ ⟨rfl, rfl⟩ (Dev.counted_trans (Dev.enter_counted { d with sys := { d.sys with hoAngle := rnd d.handOverAngle } } t x.k) ⟨rfl, rfl⟩)
    · exact d.enter_counted t x.k

theorem Dev.modeRequests_counted (d : Dev) (x : ModeCtx) : d.counted (d.modeRequests x).1 := by
  unfold Dev.modeRequests; dsimp only; (repeat' split) <;> simp

theorem Dev.modeStep_counted (d : Dev) (x : ModeCtx) (hold ok : Bool) (re : Option Escrow) : d.counted (d.modeStep x hold ok re).1 := by
  unfold Dev.modeStep
  extract_lets d0 f quiet d1 r
  have h0 : d.counted d0 := by
    unfold d0
    split
    · split <;> simp
    · split <;> simp
  have hf : d0.counted f.1 := by
    unfold f
    split <;> simp
  have h1 : f.1.counted d1 := by simp [d1]
  have hr : d1.counted r.1 := d1.modeRequests_counted _
  exact Dev.counted_trans h0 (Dev.counted_trans hf (Dev.counted_trans h1 (Dev.counted_trans hr (by simp))))

-- Answers ------------------------------------------------------------------------------------------------------------------

theorem giveAll_calm (fs : List (Dev → Dev)) (h : ∀ f ∈ fs, ∀ x : Dev, x.calm (f x)) (d : Dev) : d.calm (giveAll fs d) := by
  induction fs generalizing d with
  | nil => exact d.calm_refl
  | cons f fs ih => exact Dev.calm_trans (h f List.mem_cons_self d) (ih (fun g hg => h g (List.mem_cons_of_mem _ hg)) (f d))

theorem answerAll_calm (fs : List (Nat → Dev → Dev)) (k : Nat) (h : ∀ f ∈ fs, ∀ x : Dev, x.calm (f k x)) (d : Dev) : d.calm (answerAll fs k d) := by
  induction fs generalizing d with
  | nil => exact d.calm_refl
  | cons f fs ih => exact Dev.calm_trans (h f List.mem_cons_self d) (ih (fun g hg => h g (List.mem_cons_of_mem _ hg)) (f k d))

theorem Dev.setpoint_answer_calm (d : Dev) (e b k : Nat) (x : Dev) : x.calm ((d.setpoint e b k).2 x) := by
  unfold Dev.setpoint; dsimp only; split <;> simp

theorem Dev.setpoints_answers_calm (d : Dev) (b k : Nat) : ∀ f ∈ (d.setpoints b k).2, ∀ x : Dev, x.calm (f x) := by
  unfold Dev.setpoints
  refine foldl_keeps (fun y : Dev × List (Dev → Dev) => ∀ f ∈ y.2, ∀ x : Dev, x.calm (f x)) _ (fun y e hy f hf x => ?_) _ _ (fun f hf => nomatch hf)
  rcases List.mem_append.1 hf with h | h
  · exact hy f h x
  · rw [List.mem_singleton.1 h]
    exact y.1.setpoint_answer_calm e b k x

theorem Dev.modeRequests_answers_calm (d : Dev) (x : ModeCtx) : ∀ f ∈ (d.modeRequests x).2, ∀ v : Dev, v.calm (f v) := by
  unfold Dev.modeRequests
  dsimp only
  split
  · intro f hf v
    rcases List.mem_append.1 hf with hf | hf
    · rcases List.mem_append.1 hf with hf | hf
      · obtain ⟨r, -, rfl⟩ := List.mem_map.1 hf
        simp
      · split at hf
        · rw [List.mem_singleton.1 hf]
          simp
        · cases hf
    · split at hf
      · rw [List.mem_singleton.1 hf]
        simp
      · cases hf
  · split
    · intro f hf
      cases hf
    · intro f hf v
      rw [List.mem_singleton.1 hf]
      simp

theorem Dev.modeStep_answers_calm (d : Dev) (x : ModeCtx) (hold ok : Bool) (re : Option Escrow) : ∀ f ∈ (d.modeStep x hold ok re).2, ∀ v : Dev, v.calm (f v) :=
  Dev.modeRequests_answers_calm _ _

theorem Dev.commitStep_answers_calm (d : Dev) (b k : Nat) (x : Dev) : x.calm ((d.commitStep b).answers k x) := by
  have hmap : ∀ (rs : List CommitReq) (g : CommitReq → Nat → Dev → Dev), (∀ r (y : Dev), y.calm (g r k y)) → ∀ f ∈ rs.map g, ∀ y : Dev, y.calm (f k y) := by
    intro rs g hg f hf y
    obtain ⟨r, -, rfl⟩ := List.mem_map.1 hf
    exact hg r y
  have hanswer : ∀ r code fault gen effect (y : Dev), y.calm (d.commitAnswer b r code fault gen effect k y) := fun r code fault gen effect y =>
    d.commitAnswer_calm b r code fault gen effect k y
  unfold Dev.commitStep
  dsimp only
  split
  · exact x.calm_refl
  split
  · exact answerAll_calm _ k (hmap _ _ (fun r y => by split <;> exact hanswer ..)) x
  split
  · refine answerAll_calm _ k (fun f hf => ?_) x
    rcases List.mem_append.1 hf with hf | hf
    · exact hmap _ _ (fun r y => hanswer ..) f hf
    · exact hmap _ _ (fun r y => hanswer ..) f hf
  · exact answerAll_calm _ k (hmap _ _ (fun r y => by split <;> exact hanswer ..)) x

-- The epoch that begins ------------------------------------------------------------------------------------------------------

/-- Step 7 begins the epoch it is given and keeps the mode and the counters (R35). -/
theorem Dev.beginEpoch_shows (d o : Dev) (k : Nat) (reload wasActive : Bool) :
    (d.beginEpoch o k reload wasActive).tmb.epoch = k ∧ (d.beginEpoch o k reload wasActive).sys.mode = d.sys.mode ∧
      (d.beginEpoch o k reload wasActive).vlt.ctrs = d.vlt.ctrs := by
  simp [Dev.beginEpoch]

end Sys2Proof.Machine
end

section
/-! SUPPORT. Every command but the boundary and the removal of power keeps the mode, and no command takes a monotonic counter of the vault back; what the boundary does to
the snapshot and the epoch (R35, R71, R555). -/
namespace Sys2Proof.Machine

-- Counters that do not go back -----------------------------------------------------------------------------------------------

/-- `b` has the mode of `a`, and no monotonic counter of `b` is below that of `a`. -/
def Dev.rising (a b : Dev) : Prop := b.sys.mode = a.sys.mode ∧ ∀ i, nth a.vlt.ctrs i 0 ≤ nth b.vlt.ctrs i 0

theorem Dev.rising_of_eq {a b : Dev} (hmode : b.sys.mode = a.sys.mode) (hctrs : b.vlt.ctrs = a.vlt.ctrs) : a.rising b :=
  ⟨hmode, fun i => Nat.le_of_eq (by rw [hctrs])⟩

theorem Dev.rising_refl (d : Dev) : d.rising d := Dev.rising_of_eq rfl rfl

theorem Dev.rising_of_calm {a b : Dev} (h : a.calm b) : a.rising b := Dev.rising_of_eq h.1 h.2.2

theorem Dev.rising_trans {a b c : Dev} (hab : a.rising b) (hbc : b.rising c) : a.rising c := ⟨hbc.1.trans hab.1, fun i => (hab.2 i).trans (hbc.2 i)⟩

/-- A list in which one element is replaced by one that is no smaller. -/
theorem nth_le_modAt (l : List Nat) (i j : Nat) (f : Nat → Nat) (hf : ∀ x, x ≤ f x) : nth l j 0 ≤ nth (modAt l i f) j 0 := by
  by_cases hij : i = j
  · subst hij
    by_cases hi : i < l.length
    · rw [nth_modAt_self l i f 0 hi]
      exact hf _
    · simp [nth, List.getD_eq_getElem?_getD, List.getElem?_eq_none (Nat.le_of_not_lt hi)]
  · rw [nth_modAt_ne l i j f 0 hij]

theorem nth_le_raiseCtr (i svn : Nat) (cs : List Nat) (j : Nat) : nth cs j 0 ≤ nth (raiseCtr i svn cs) j 0 := nth_le_modAt cs i j _ (fun x => Nat.le_max_left x svn)

-- The vault ------------------------------------------------------------------------------------------------------------------

theorem Dev.vltCmd_rising (d : Dev) (op maxLvl : Nat) (modeOk stateOk : Bool) (run : Dev → Dev) (hrun : d.rising (run d)) :
    d.rising (d.vltCmd op maxLvl modeOk stateOk run) := by
  unfold Dev.vltCmd
  split
  · exact Dev.rising_of_calm (by simp)
  split
  · exact Dev.rising_of_calm (by simp)
  split
  · exact Dev.rising_of_calm (by simp)
  split
  · exact Dev.rising_of_calm (by simp)
  · exact hrun

/-- CTR_INC takes its counter on by one and no other (R555). -/
theorem Dev.ctrInc_rising (d : Dev) (i : Nat) : d.rising (d.ctrInc i) := by
  unfold Dev.ctrInc
  refine d.vltCmd_rising _ _ _ _ _ ?_
  split
  · exact Dev.rising_of_calm (by simp)
  · exact ⟨rfl, fun j => nth_le_modAt _ i j _ (fun x => Nat.le_succ x)⟩

/-- An image raises the two counters of image versions at most (R549, R555). -/
theorem Dev.imageStep_rising (d : Dev) (fw cfg : List Nat) : d.rising (d.imageStep fw cfg).1 := by
  unfold Dev.imageStep
  dsimp only
  split
  · exact d.rising_refl
  · refine ⟨rfl, fun j => ?_⟩
    have hfw : nth d.vlt.ctrs j 0 ≤ nth (if imageAdvance fw then raiseCtr 0 (imageSvn fw) d.vlt.ctrs else d.vlt.ctrs) j 0 := by
      split
      · exact nth_le_raiseCtr ..
      · exact Nat.le_refl _
    refine hfw.trans ?_
    dsimp only
    generalize (if imageAdvance fw then raiseCtr 0 (imageSvn fw) d.vlt.ctrs else d.vlt.ctrs) = c0
    split
    · exact nth_le_raiseCtr ..
    · exact Nat.le_refl _

-- BOOT -----------------------------------------------------------------------------------------------------------------------

theorem Dev.bootGood_rising (d : Dev) : d.rising d.bootGood := by
  rw [Dev.bootGood_frame]
  exact Dev.rising_of_eq rfl rfl

/-- The step of BOOT that follows an image, good or bad. -/
theorem Dev.afterImage_rising (d : Dev) (fw cfg : List Nat) : d.rising (Dev.afterImage (d.imageStep fw cfg)) := by
  unfold Dev.afterImage
  split
  · exact Dev.rising_trans (d.imageStep_rising fw cfg) (Dev.bootGood_rising _)
  · exact d.imageStep_rising fw cfg

theorem Dev.bootImage_rising (d : Dev) : d.rising d.bootImage := by
  unfold Dev.bootImage
  extract_lets b d0 im b0 r r1 b1
  have hr : d.rising r.1 := Dev.rising_trans (Dev.rising_of_eq rfl rfl) (Dev.imageStep_rising _ im.1 im.2)
  split
  · split
    · exact Dev.rising_trans hr (Dev.bootGood_rising _)
    · exact Dev.rising_trans hr (Dev.rising_of_eq rfl rfl)
  · exact Dev.rising_of_eq rfl rfl

theorem Dev.selfTest_rising (d : Dev) : d.rising d.selfTest := by
  unfold Dev.selfTest
  split
  · exact Dev.rising_trans (Dev.rising_of_eq rfl rfl) (Dev.bootImage_rising _)
  · exact Dev.rising_of_eq rfl rfl

theorem Dev.bootOn_rising (d : Dev) : d.rising d.bootOn := by
  unfold Dev.bootOn
  split
  · dsimp only
    split
    · exact Dev.rising_trans (Dev.rising_of_eq rfl rfl) (Dev.selfTest_rising _)
    · exact Dev.rising_of_eq rfl rfl
  split
  · exact d.selfTest_rising
  · exact d.rising_refl

theorem Dev.startBoot_rising (d : Dev) : d.rising d.startBoot := by
  refine Dev.rising_of_eq rfl ?_
  unfold Dev.startBoot
  dsimp only
  split
  · rfl
  · rfl

theorem Dev.porbRelease_rising (d : Dev) (hot selfTest sfdp : Bool) (flash : List Nat) : d.rising (d.porbRelease hot selfTest sfdp flash) := by
  unfold Dev.porbRelease
  split
  · exact d.rising_refl
  · dsimp only
    split
    · exact Dev.rising_of_eq rfl rfl
    · exact Dev.rising_trans (Dev.rising_of_eq rfl rfl) (Dev.startBoot_rising _)

theorem Dev.brownoutRelease_rising (d : Dev) : d.rising d.brownoutRelease := by
  unfold Dev.brownoutRelease
  split
  · exact d.rising_refl
  split
  · exact Dev.rising_of_eq rfl rfl
  · exact d.startBoot_rising

theorem Dev.powerGood_rising (d : Dev) (n : Nat) : d.rising (d.powerGood n) := by
  have hup : d.rising (d.domainUp n) := Dev.rising_of_calm (by simp)
  unfold Dev.powerGood
  split
  · exact d.rising_refl
  · extract_lets d1 p d2
    split
    · refine Dev.rising_trans hup (Dev.rising_trans (b := d2) ?_ d2.bootOn_rising)
      unfold d2
      split
      · exact Dev.rising_of_eq rfl rfl
      · exact Dev.rising_of_eq rfl rfl
    · exact hup

theorem Dev.locked_rising (d : Dev) : d.rising d.locked := by
  have hlock : d.calm d.pllLock := by simp
  unfold Dev.locked
  split
  · exact d.rising_refl
  · exact Dev.rising_trans (Dev.rising_of_calm hlock) (Dev.bootOn_rising _)

theorem Dev.hostImage_rising (d : Dev) (dma : Bool) (fw cfg : List Nat) : d.rising (d.hostImage dma fw cfg) := by
  unfold Dev.hostImage
  split
  · exact d.rising_refl
  · dsimp only
    split
    · exact Dev.rising_of_eq rfl rfl
    · exact Dev.rising_trans (Dev.rising_of_eq rfl rfl) (Dev.afterImage_rising { d with boot := { d.boot with source := 0 } } _ _)

-- BAR0 -----------------------------------------------------------------------------------------------------------------------

theorem Dev.bootGoWrite_rising (d : Dev) (dma : Bool) (fw cfg : List Nat) : d.rising (d.bootGoWrite dma fw cfg) := by
  unfold Dev.bootGoWrite Dev.bar0Cmd
  split
  · exact d.rising_refl
  split
  · exact Dev.rising_of_calm (by simp)
  split
  · exact Dev.rising_of_calm (by simp)
  · exact d.hostImage_rising dma fw cfg

theorem Dev.vltWrite_rising (d : Dev) (run : Dev → Dev) (hrun : d.rising (run d)) : d.rising (d.vltWrite run) := by
  unfold Dev.vltWrite
  split
  · exact d.rising_refl
  · exact hrun

theorem Dev.vltCmdWrite_rising (d : Dev) (v : Word) : d.rising (d.vltCmdWrite v) := by
  unfold Dev.vltCmdWrite
  refine d.vltWrite_rising _ ?_
  split
  case h_4 => exact d.ctrInc_rising _
  all_goals exact Dev.rising_of_calm (by simp)

/-- One branch of the command registers. -/
theorem Dev.rising_some {d a : Dev} {p : Prop} {_ : Decidable p} {r : Option Dev} (ha : d.rising a) (hr : ∀ x ∈ r, d.rising x) :
    ∀ x ∈ if p then some a else r, d.rising x := by
  intro x hx
  split at hx
  · rw [← Option.some.inj hx]
    exact ha
  · exact hr x hx

theorem Dev.cmdWrite_rising (d : Dev) (off : Nat) (v : Word) : ∀ x ∈ d.cmdWrite off v, d.rising x := by
  unfold Dev.cmdWrite
  extract_lets op when1 fw cfg
  have hwhen : ∀ (b : Bool) (f : Dev → Dev) (x : Dev), x.calm (f x) → x.calm (when1 b f x) := by
    intro b f x hf
    cases b with
    | true => exact hf
    | false => exact x.calm_refl
  have hdom : ∀ (i : Nat) (accept : Bool) (x : Dev), x.calm (x.domWrite i accept) := fun i accept x => by simp
  refine Dev.rising_some (Dev.rising_of_calm (by simp)) ?_
  refine Dev.rising_some (Dev.rising_of_calm (by simp)) ?_
  refine Dev.rising_some (Dev.rising_of_calm (Dev.calm_trans (hwhen _ _ _ (by simp)) (hwhen _ _ _ (by simp)))) ?_
  refine Dev.rising_some (Dev.rising_of_calm (Dev.calm_trans (hwhen _ _ _ (by simp)) (hwhen _ _ _ (by simp)))) ?_
  refine Dev.rising_some (Dev.rising_of_calm (hwhen _ _ _ (by simp))) ?_
  refine Dev.rising_some (Dev.rising_of_calm (by simp)) ?_
  refine Dev.rising_some (Dev.rising_of_calm (Dev.calm_trans (hwhen _ (fun x => x.domWrite 0 true) _ (hdom ..)) (hwhen _ (fun x => x.domWrite 0 false) _ (hdom ..)))) ?_
  refine Dev.rising_some (Dev.rising_of_calm (Dev.calm_trans (hwhen _ (fun x => x.domWrite 1 true) _ (hdom ..)) (hwhen _ (fun x => x.domWrite 1 false) _ (hdom ..)))) ?_
  refine Dev.rising_some (Dev.rising_of_calm (hwhen _ _ _ (by simp))) ?_
  refine Dev.rising_some (Dev.rising_of_calm (Dev.calm_trans (hwhen _ _ _ (by simp)) (hwhen _ _ _ (by simp)))) ?_
  refine Dev.rising_some (Dev.rising_of_calm (by simp)) ?_
  refine Dev.rising_some (Dev.rising_of_calm (hwhen _ _ _ (by simp))) ?_
  refine Dev.rising_some (Dev.rising_of_calm (by simp)) ?_
  refine Dev.rising_some (Dev.rising_of_calm (by simp)) ?_
  refine Dev.rising_some (Dev.rising_of_calm (by simp)) ?_
  refine Dev.rising_some (d.vltCmdWrite_rising v) ?_
  refine Dev.rising_some ?_ ?_
  · split
    · exact Dev.rising_trans (Dev.rising_of_eq rfl rfl) (Dev.bootGoWrite_rising cfg.2 _ _ _)
    · exact d.rising_refl
  · intro x hx
    cases hfirst : firstN 4 (fun c => off == R.ADC_COREc_SOFT c) with
    | none => simp [hfirst] at hx
    | some c =>
      simp only [hfirst] at hx
      rw [← Option.some.inj hx]
      exact Dev.rising_of_calm (hwhen _ _ _ (by simp))

theorem Dev.regWrite_rising (d : Dev) (off : Nat) (v : Word) (whole : Bool) : d.rising (d.regWrite off v whole) := by
  unfold Dev.regWrite
  split
  · exact d.rising_refl
  split
  · exact Dev.rising_of_calm (by simp)
  split
  · exact Dev.rising_of_calm (by simp)
  split
  · exact Dev.rising_of_calm (by simp)
  · split
    next x hx => exact d.cmdWrite_rising off v x hx
    next => split <;> exact Dev.rising_of_calm (by simp)

-- Commands -------------------------------------------------------------------------------------------------------------------

theorem Dev.unit_calm (d : Dev) (n m : Nat) (f : Dev → Dev) (hf : d.calm (f d)) : d.calm (d.unit n m f) := by
  unfold Dev.unit
  split
  · exact hf
  · exact d.calm_refl

theorem Dev.powered_calm (d : Dev) (f : Dev → Dev) (hf : d.calm (f d)) : d.calm (d.powered f) := by
  unfold Dev.powered
  split
  · exact d.calm_refl
  · exact hf

theorem Dev.fetch_calm (d : Dev) (q op : Nat) (e : SqEntry) (run : Dev → CompRef → Dev) (hrun : ∀ (x : Dev) (r : CompRef), x.calm (run x r)) :
    d.calm (d.fetch q op e run) := by
  unfold Dev.fetch
  split
  · dsimp only
    split
    · simp
    · exact Dev.calm_trans (by simp) (hrun ..)
  · exact d.calm_refl

theorem Dev.descForm_calm (d : Dev) (q : Nat) (e : SqEntry) (form : Bool) (op : Nat) (run : Dev → CompRef → Dev) (hrun : ∀ (x : Dev) (r : CompRef), x.calm (run x r)) :
    d.calm (d.descForm q e form op run) := by
  unfold Dev.descForm
  split
  · exact d.fetch_calm q op e run hrun
  · exact d.calm_refl

theorem Dev.idle_calm (d : Dev) : d.calm d.idle := by simp [Dev.idle]

theorem State.holdSet_calm (s : State) : s.dev.calm s.holdSet.dev := Dev.bar0Cmd_calm _ _ _ _ (by simp)
theorem State.holdClear_calm (s : State) : s.dev.calm s.holdClear.dev := Dev.bar0Cmd_calm _ _ _ _ (by simp)

theorem State.holdExpired_calm (s : State) : s.dev.calm s.holdExpired.dev := by
  unfold State.holdExpired
  split
  · split
    · simp
    · exact s.dev.calm_refl
  · exact s.dev.calm_refl

theorem State.registerWrite_rising (s : State) (off : Nat) (v : Word) (whole : Bool) : s.dev.rising (s.registerWrite off v whole).dev := by
  unfold State.registerWrite
  split
  · extract_lets s1
    have h1 : s.dev.calm s1.dev := by
      unfold s1
      split
      · exact s.holdSet_calm
      · exact s.holdClear_calm
    split
    · exact Dev.rising_of_calm (Dev.calm_trans h1 (Dev.bar0Cmd_calm _ _ _ _ (by simp)))
    · exact Dev.rising_of_calm h1
  · exact s.dev.regWrite_rising off v whole

/-- A command that answers on the device alone answers with its operation's outcome. -/
theorem onDev_rising (f : Dev → Dev) {s t : State} (h : onDev f s = .next t) (hf : s.dev.rising (f s.dev)) : s.dev.rising t.dev := by
  rw [← Host.Outcome.next.inj h]
  exact hf

theorem onDev_calm (f : Dev → Dev) {s t : State} (h : onDev f s = .next t) (hf : s.dev.calm (f s.dev)) : s.dev.calm t.dev := by
  rw [← Host.Outcome.next.inj h]
  exact hf

/-- A command that the device takes inside a window alone. -/
theorem ite_onDev_calm {p : Prop} {_ : Decidable p} (f : Dev → Dev) (r : Fault) {s t : State} (h : (if p then onDev f s else .fault r) = .next t)
    (hf : s.dev.calm (f s.dev)) : s.dev.calm t.dev := by
  split at h
  · exact onDev_calm f h hf
  · cases h

/-- The commands that move the whole machine, BOOT or the counters. -/
def movesCourse : Instr → Bool
  | .powerOn | .porbAssert | .hardCut | .aonBrownout | .powerDown | .periodBoundary _ _ | .porbRelease _ _ _ _ | .aonBrownoutRelease | .domainPowerGood _ | .lock
  | .vltBootGo _ _ _ | .ctrInc _ | .registerWrite _ _ _ => true
  | _ => false

/-- The commands that run an operation under a further condition: a domain, a window, a queue, the vault. -/
def underCondition : Instr → Bool
  | .thermalRound _ | .refInLoss | .reportCutoff _ | .ttPulseStart _ | .ttPulseEnd _ | .uvloRelease => true
  | .sqTail _ _ _ | .cqHead _ _ | .msixTableWrite _ _ | .bar0ReadFault _ _ => true
  | .regStage _ _ | .commit _ _ | .commitDescriptorAbandon _ _ | .mode _ _ | .schedArm _ _ | .schedCancel _ _ | .timeAdjIncr _ _ | .timeAdjStep _ _
  | .tripOpTrip _ _ | .tripOpEmergency _ _ | .tripOpClear _ _ => true
  | .provision | .setOwner | .storeCert _ | .sealVault | .attest | .challenge | .unlock => true
  | .holdSet | .holdClear | .holdExpired => true
  | _ => false

theorem Dev.vltWrite_calm (d : Dev) (run : Dev → Dev) (hrun : d.calm (run d)) : d.calm (d.vltWrite run) := by
  unfold Dev.vltWrite
  split
  · exact d.calm_refl
  · exact hrun

theorem exec_calm_underCondition (c : Instr) (s t : State) (h : exec c s = .next t) (hc : underCondition c = true) : s.dev.calm t.dev := by
  cases c
  case thermalRound rs => exact onDev_calm (fun d => d.powered (fun x => (x.thermalRound rs).tlySettle)) h (Dev.powered_calm _ _ (Dev.calm_trans (Dev.thermalRound_calm _ rs) (by simp)))
  case refInLoss => exact onDev_calm (fun d => d.powered Dev.refLost) h (Dev.powered_calm _ _ (by simp))
  case reportCutoff lane => exact onDev_calm (fun d => d.unit lane 12 (fun x => x.cutoffLane lane)) h (Dev.unit_calm _ _ _ _ (by simp))
  case ttPulseStart n => exact onDev_calm (fun d => d.unit n 8 (fun x => x.ttStart n)) h (Dev.unit_calm _ _ _ _ (by simp))
  case ttPulseEnd n => exact onDev_calm (fun d => d.unit n 8 (fun x => x.ttEnd n)) h (Dev.unit_calm _ _ _ _ (by simp))
  case uvloRelease => exact onDev_calm Dev.uvloOff h (by simp)
  case sqTail q i bad => exact ite_onDev_calm (fun d => d.powered (fun x => x.sqTailWrite q i bad)) _ h (Dev.powered_calm _ _ (by simp))
  case cqHead q i => exact ite_onDev_calm (fun d => d.powered (fun x => x.cqHeadWrite q i)) _ h (Dev.powered_calm _ _ (by simp))
  case msixTableWrite i v => exact ite_onDev_calm (fun d => d.powered (fun x => x.msixWrite i v)) _ h (Dev.powered_calm _ _ (by simp))
  case bar0ReadFault o w => exact ite_onDev_calm (fun d => d.readFault o w) _ h (by simp)
  case holdSet => cases h; exact s.holdSet_calm
  case holdClear => cases h; exact s.holdClear_calm
  case holdExpired => cases h; exact s.holdExpired_calm
  case regStage q e => exact onDev_calm (fun d => d.fetch q Op.regStage e (fun x r => x.regStage e r)) h (Dev.fetch_calm _ _ _ _ _ (fun x r => by simp))
  case mode q e => exact onDev_calm (fun d => d.fetch q Op.mode e (fun x r => x.modeReqDesc e r)) h (Dev.fetch_calm _ _ _ _ _ (fun x r => by simp))
  case commit q e => exact onDev_calm (fun d => d.descForm q e (!(bit (sqW e 1) 1)) Op.commit (fun x r => x.commitReq e r)) h (Dev.descForm_calm _ _ _ _ _ _ (fun x r => by simp))
  case commitDescriptorAbandon q e => exact onDev_calm (fun d => d.descForm q e (bit (sqW e 1) 1) Op.commit (fun x r => x.commitReq e r)) h (Dev.descForm_calm _ _ _ _ _ _ (fun x r => by simp))
  case schedArm q e => exact onDev_calm (fun d => d.descForm q e (sqF e 1 31 28 != 2) Op.sched (fun x r => x.armReq e r)) h (Dev.descForm_calm _ _ _ _ _ _ (fun x r => by simp))
  case schedCancel q e => exact onDev_calm (fun d => d.descForm q e (sqF e 1 31 28 == 2) Op.sched (fun x r => x.cancelReq e r)) h (Dev.descForm_calm _ _ _ _ _ _ (fun x r => by simp))
  case timeAdjIncr q e => exact onDev_calm (fun d => d.descForm q e (bit (sqW e 1) 0 || !(bit (sqW e 1) 1)) Op.timeAdj (fun x r => x.incrReq e r)) h (Dev.descForm_calm _ _ _ _ _ _ (fun x r => by simp))
  case timeAdjStep q e => exact onDev_calm (fun d => d.descForm q e (!(bit (sqW e 1) 0) && bit (sqW e 1) 1) Op.timeAdj (fun x r => x.stepReq e r)) h (Dev.descForm_calm _ _ _ _ _ _ (fun x r => by simp))
  case tripOpTrip q e => exact onDev_calm (fun d => d.descForm q e (sqF e 1 3 0 != 2 && sqF e 1 3 0 != 3) Op.trip (fun x r => x.tripReq Cause.host r)) h (Dev.descForm_calm _ _ _ _ _ _ (fun x r => by simp))
  case tripOpEmergency q e => exact onDev_calm (fun d => d.descForm q e (sqF e 1 3 0 == 2) Op.trip (fun x r => x.tripReq Cause.emergency r)) h (Dev.descForm_calm _ _ _ _ _ _ (fun x r => by simp))
  case tripOpClear q e => exact onDev_calm (fun d => d.descForm q e (sqF e 1 3 0 == 3) Op.trip (fun x r => x.clearReqDesc r)) h (Dev.descForm_calm _ _ _ _ _ _ (fun x r => by simp))
  case provision => exact onDev_calm (fun d => d.vltWrite Dev.provision) h (Dev.vltWrite_calm _ _ (by simp))
  case setOwner => exact onDev_calm (fun d => d.vltWrite Dev.setOwner) h (Dev.vltWrite_calm _ _ (by simp))
  case storeCert len => exact onDev_calm (fun d => d.vltWrite (fun x => x.storeCert len)) h (Dev.vltWrite_calm _ _ (by simp))
  case sealVault => exact onDev_calm (fun d => d.vltWrite Dev.sealVault) h (Dev.vltWrite_calm _ _ (by simp))
  case attest => exact onDev_calm (fun d => d.vltWrite Dev.attest) h (Dev.vltWrite_calm _ _ (by simp))
  case challenge => exact onDev_calm (fun d => d.vltWrite Dev.challenge) h (Dev.vltWrite_calm _ _ (by simp))
  case unlock => exact onDev_calm (fun d => d.vltWrite Dev.unlock) h (Dev.vltWrite_calm _ _ (by simp))
  all_goals cases hc

/-- The operation of every other command is calm. -/
theorem exec_calm (c : Instr) (s t : State) (h : exec c s = .next t) (hcourse : movesCourse c = false) (hcond : underCondition c = false) : s.dev.calm t.dev := by
  cases c
  case powerOn | porbAssert | hardCut | aonBrownout | powerDown | periodBoundary | porbRelease | aonBrownoutRelease | domainPowerGood | lock | vltBootGo | ctrInc |
      registerWrite => cases hcourse
  case thermalRound | refInLoss | reportCutoff | ttPulseStart | ttPulseEnd | uvloRelease | sqTail | cqHead | msixTableWrite | bar0ReadFault | regStage | commit |
      commitDescriptorAbandon | mode | schedArm | schedCancel | timeAdjIncr | timeAdjStep | tripOpTrip | tripOpEmergency | tripOpClear | provision | setOwner |
      storeCert | sealVault | attest | challenge | unlock | holdSet | holdClear | holdExpired => cases hcond
  all_goals
    cases h
    simp

/-- Every command but the boundary and the removal of power keeps the mode and takes no counter back. -/
theorem exec_rising (c : Instr) (s t : State) (h : exec c s = .next t) (hp : removesPower c = false) (hb : ∀ late phase, c ≠ .periodBoundary late phase) :
    s.dev.rising t.dev := by
  by_cases hcourse : movesCourse c = true
  case neg =>
    by_cases hcond : underCondition c = true
    · exact Dev.rising_of_calm (exec_calm_underCondition c s t h hcond)
    · exact Dev.rising_of_calm (exec_calm c s t h (Bool.eq_false_iff.2 hcourse) (Bool.eq_false_iff.2 hcond))
  case pos =>
    cases c
    case powerOn | porbAssert | hardCut | aonBrownout | powerDown => cases hp
    case periodBoundary late phase => exact absurd rfl (hb late phase)
    case registerWrite off v whole =>
      rw [execRegisterWrite_next s t off v whole h]
      exact s.registerWrite_rising off v whole
    case porbRelease hot selfTest sfdp flash =>
      exact onDev_rising (fun d => d.porbRelease hot selfTest sfdp flash) h (Dev.porbRelease_rising _ hot selfTest sfdp flash)
    case aonBrownoutRelease => exact onDev_rising Dev.brownoutRelease h (Dev.brownoutRelease_rising _)
    case domainPowerGood n => exact onDev_rising (fun d => d.powerGood n) h (Dev.powerGood_rising _ n)
    case lock => exact onDev_rising Dev.locked h (Dev.locked_rising _)
    case vltBootGo dma fw cfg => exact onDev_rising (fun d => d.bootGoWrite dma fw cfg) h (Dev.bootGoWrite_rising _ dma fw cfg)
    case ctrInc i => exact onDev_rising (fun d => d.vltWrite (fun x => x.ctrInc i)) h (Dev.vltWrite_rising _ _ (Dev.ctrInc_rising _ i))
    all_goals cases hcourse

/-- Settles O10: the mode is moved by `Dev.setMode` alone, which runs at step 6 of a boundary and at the end of BOOT; the removal of power sets it. -/
theorem modeMovesAtBoundaries : Obligations.ModeMovesAtBoundaries := by
  unfold Obligations.ModeMovesAtBoundaries
  intro c s t h hp hb
  exact (exec_rising c s t h hp hb).1

-- The removal of power -------------------------------------------------------------------------------------------------------

/-- The storage of the vault outlives the removal of power (R555, R591). -/
theorem exec_removesPower_ctrs (c : Instr) (s t : State) (h : exec c s = .next t) (hp : removesPower c = true) : t.dev.vlt.ctrs = s.dev.vlt.ctrs := by
  cases c
  case powerOn => cases h; rfl
  case porbAssert => cases h; unfold State.porbAssert; split <;> rfl
  case hardCut => cases h; unfold State.hardCut; split <;> rfl
  case aonBrownout => cases h; unfold State.brownout; split <;> rfl
  case powerDown => cases h; unfold State.powerDown; split <;> rfl
  all_goals cases hp

-- The boundary ---------------------------------------------------------------------------------------------------------------

/-- Station time never runs ahead of what stamps show within a tick (R65). -/
theorem Dev.now_le_stampNow (d : Dev) : d.tmb.now ≤ d.stampNow := by
  unfold Dev.stampNow
  split
  · exact Nat.le_refl _
  · exact Nat.le_add_right _ _

/-- A SYNC does not lie before station time. -/
theorem Dev.now_le_syncAt (d : Dev) (k : Nat) (phase : Int) : d.tmb.now ≤ d.syncAt k phase := by
  unfold Dev.syncAt
  split
  · dsimp only
    split
    · exact d.now_le_stampNow
    · exact d.now_le_stampNow.trans (Nat.le_add_right _ _)
  · exact Nat.le_max_left _ _

/-- Step 1 takes the clears of the epoch that ends and leaves the requests for commits and station time. -/
theorem Dev.protectStep_shows (d : Dev) (b : Nat) :
    (d.protectStep b).sys.commitReqs = d.sys.commitReqs ∧ (d.protectStep b).sys.tripClears = d.sys.tripClears.filter (fun c => !decide (c.1 < b)) ∧
      (d.protectStep b).tmb = d.tmb ∧ (d.protectStep b).vlt = d.vlt := by
  simp [Dev.protectStep]

@[simp] theorem Dev.attestLatch_shows (d : Dev) : d.attestLatch.sys = d.sys ∧ d.attestLatch.tmb = d.tmb ∧ d.attestLatch.active = d.active := by
  simp [Dev.attestLatch]

@[simp] theorem Dev.linkResetStep_shows (d : Dev) : d.linkResetStep.sys = d.sys ∧ d.linkResetStep.tmb = d.tmb := by
  simp [Dev.linkResetStep]

/-- Without a request waiting step 5 applies no commit (R41). -/
theorem Dev.commitStep_idle (d : Dev) (b : Nat) (h : d.sys.commitReqs = []) :
    (d.commitStep b).applied = false ∧ (d.commitStep b).dev.active = d.active ∧ (d.commitStep b).dev.tmb = d.tmb := by
  simp [Dev.commitStep, h]

/-- With the timebase settings as they were and no adjustment waiting the epochs are counted on (R26). -/
theorem Dev.reloads_idle (d o : Dev) (b : Nat) (hactive : d.active = o.active) (hreqs : o.tmb.reqs = []) : d.reloads o b = false := by
  simp [Dev.reloads, Dev.stepDue, Dev.adjDue, hreqs, Dev.cycles, Dev.origin, Dev.afld, Dev.act, hactive]
end Sys2Proof.Machine
end

section
/-! SUPPORT. The boundary as a whole: the snapshot it latches, the epoch it begins, and the counters it keeps (R26, R35, R55, R92, R555). -/
namespace Sys2Proof.Machine

/-- The end of the epoch and step 1 leave what steps 2 and 3 latch: the epoch, its SYNC, no clear of before, and the waiting requests. -/
theorem Dev.latch_shows (d : Dev) (late void : Bool) (b : Nat) (h : d.tmb.now ≤ b) (v : Dev)
    (hv : v = ((((d.endEpoch late b).1.protectStep b).chopBoundary.recordStep void).1.flashBoundary d.tmb.epoch).conditions.attestLatch) :
    v.tmb.epoch = d.tmb.epoch ∧ v.tmb.now = b ∧ v.tmb.reqs = d.tmb.reqs ∧ v.sys.commitReqs = d.sys.commitReqs ∧ (∀ c ∈ v.sys.tripClears, b ≤ c.1) ∧
      v.vlt.ctrs = d.vlt.ctrs := by
  obtain ⟨⟨-, hcommits, -, hepoch, hreqs, hvlt, -, -⟩, hnow⟩ := d.endEpoch_inEpoch late b h
  obtain ⟨hcommits1, hclears1, htmb1, hvlt1⟩ := (d.endEpoch late b).1.protectStep_shows b
  generalize (d.endEpoch late b).1.protectStep b = f1 at hv hcommits1 hclears1 htmb1 hvlt1
  obtain ⟨-, hcommits2, hclears2, htmb2, hvlt2, -, -⟩ : f1.orderly (f1.chopBoundary.recordStep void).1 :=
    Dev.orderly_trans (Dev.orderly_of_steady f1.chopBoundary_steady) (f1.chopBoundary.recordStep_orderly void)
  generalize (f1.chopBoundary.recordStep void).1 = f2 at hv hcommits2 hclears2 htmb2 hvlt2
  obtain ⟨-, hcommits3, hclears3, htmb3, hvlt3, -, -⟩ : f2.orderly (f2.flashBoundary d.tmb.epoch).conditions :=
    Dev.orderly_trans (Dev.orderly_of_steady (f2.flashBoundary_steady _)) (Dev.conditions_orderly _)
  generalize (f2.flashBoundary d.tmb.epoch).conditions = f3 at hv hcommits3 hclears3 htmb3 hvlt3
  obtain ⟨hsys4, htmb4, -⟩ := f3.attestLatch_shows
  have hctrs4 : f3.attestLatch.vlt.ctrs = f3.vlt.ctrs := f3.attestLatch_calm.2.2
  rw [hv, hsys4, htmb4, hctrs4, htmb3, htmb2, htmb1, hcommits3, hcommits2, hcommits1, hclears3, hclears2, hclears1, hvlt3, hvlt2, hvlt1, hvlt]
  refine ⟨hepoch, hnow, hreqs, hcommits, fun c hc => ?_, rfl⟩
  simpa using (List.mem_filter.1 hc).2

theorem State.boundary_shows (s : State) (late : Bool) (phase : Int) :
    (s.boundary late phase).snap.tmb.epoch = s.dev.tmb.epoch ∧ (s.boundary late phase).snap.tmb.now = s.dev.syncAt (s.dev.tmb.epoch + 1) phase ∧
      (∀ c ∈ (s.boundary late phase).snap.sys.tripClears, (s.boundary late phase).snap.tmb.now ≤ c.1) ∧
      (s.dev.sys.commitReqs = [] → s.dev.tmb.reqs = [] → (s.boundary late phase).dev.tmb.epoch = s.dev.tmb.epoch + 1) ∧
      (s.boundary late phase).dev.vlt.ctrs = s.dev.vlt.ctrs := by
  unfold State.boundary
  extract_lets d k b x e void ok expired wasActive hold ps frtMap f1 f2 f3 v rc f4 g0 g1 c g2 reload kn g3 g4 sp reqs stepped g5 g6 rx ry g7 ra m h1 h2 h3 h4 h5
  obtain ⟨hepoch, hnow, hreqs, hcommits, hclears, hctrs⟩ := d.latch_shows late void b (d.now_le_syncAt (k + 1) phase) v rfl
  clear_value f3 f2
  -- up to step 5 the requests stand as the snapshot has them
  have hrc : v.steady rc.dev := by
    unfold rc
    split
    · exact RecSt.epoch_steady _ v ps k _ b
    · exact v.steady_refl
  have hg0 : v.orderly g0 := Dev.orderly_trans (Dev.orderly_of_steady (Dev.steady_trans hrc (Dev.flushBefore_steady _ b)))
    (Dev.orderly_trans (Dev.sendDigest_orderly _ v) (Dev.orderly_of_steady (by simp [g0, f4])))
  clear_value rc g0
  have hg1 : v.calm g1 := Dev.calm_trans ⟨hg0.1, congrArg Tmb.epoch hg0.2.2.2.1, congrArg Vlt.ctrs hg0.2.2.2.2.1⟩ g0.linkResetStep_calm
  have hkn : d.sys.commitReqs = [] → d.tmb.reqs = [] → kn = k + 1 := by
    intro hno hnone
    obtain ⟨hsys, htmb⟩ := g0.linkResetStep_shows
    have hcommits1 : g1.sys.commitReqs = [] := by rw [hsys, hg0.2.1, hcommits, hno]
    have hreqs1 : g1.tmb.reqs = [] := by rw [htmb, hg0.2.2.2.1, hreqs, hnone]
    have hreload : reload = false := g2.reloads_idle g1 b (g1.commitStep_idle b hcommits1).2.1 hreqs1
    unfold kn
    rw [hreload]
    exact if_neg Bool.false_ne_true
  clear_value kn reload
  -- steps 5 and 6 keep the counters
  have hg3 : g1.calm g3 := by
    unfold g3
    split
    · exact Dev.calm_trans (g1.commitStep_calm b) (g2.applied_calm g1 b kn)
    · exact g1.commitStep_calm b
  clear_value g3
  have hg5 : g3.calm g5 := Dev.calm_trans g3.sealStep_calm (Dev.calm_trans (g4.setpoints_calm b kn) (sp.1.adjust_calm b))
  have hg6 : g5.calm g6 := by simp [g6]
  clear_value g6
  have hry : g6.steady ry.dev := by
    refine Dev.steady_trans ?_ (RecSt.commands_steady _ b kn)
    split
    · exact rx.committed_steady g1 stepped kn
    · exact g6.steady_refl
  have hg7 : ry.dev.steady g7 := Dev.recReload_steady _ k kn
  clear_value g7
  have hry7 : g6.calm g7 := by
    obtain ⟨hsys, htmb, hvlt, -, -⟩ := Dev.steady_trans hry hg7
    exact ⟨congrArg Sys.mode hsys, congrArg Tmb.epoch htmb, congrArg Vlt.ctrs hvlt⟩
  obtain ⟨g8, x8, hm8, hg8⟩ : ∃ (g8 : Dev) (x8 : ModeCtx), m = g8.modeStep x8 hold ok f2.2 ∧ g7.counted g8 := by
    refine ⟨_, _, rfl, ?_⟩
    exact ⟨rfl, rfl⟩
  have hm : g7.counted m.1 := by
    rw [hm8]
    exact Dev.counted_trans hg8 (g8.modeStep_counted x8 hold ok f2.2)
  -- step 7 and the answers
  have hmAnswers : ∀ f ∈ m.2, ∀ y : Dev, y.calm (f y) := by
    rw [hm8]
    exact g8.modeStep_answers_calm x8 hold ok f2.2
  clear_value m
  obtain ⟨hbegin, -, hkeep⟩ := m.1.beginEpoch_shows g1 kn reload wasActive
  have hh3 : h1.calm h3 := by simp [h3, h2]
  have hh4 : h3.calm h4 := Dev.calm_foldl _ (fun y r => by simp) _ _ h3.calm_refl
  have hanswers : h4.calm ((c.answers kn (h4.tripAnswers kn)).adjAnswers reqs kn) :=
    Dev.calm_trans (by simp) (Dev.calm_trans (g1.commitStep_answers_calm b kn _) (Dev.adjAnswers_calm _ reqs kn))
  have hgive : ∀ f ∈ sp.2 ++ m.2, ∀ y : Dev, y.calm (f y) := by
    intro f hf
    rcases List.mem_append.1 hf with hf | hf
    · exact g4.setpoints_answers_calm b kn f hf
    · exact hmAnswers f hf
  have hlast : h1.calm h5 := Dev.calm_trans hh3 (Dev.calm_trans hh4 (Dev.calm_trans hanswers (giveAll_calm _ hgive _)))
  refine ⟨hepoch, hnow, fun t ht => ?_, fun hno hnone => hlast.2.1.trans (hbegin.trans (hkn hno hnone)), ?_⟩
  · exact Nat.le_trans (Nat.le_of_eq hnow) (hclears t ht)
  · calc h5.vlt.ctrs = h1.vlt.ctrs := hlast.2.2
      _ = m.1.vlt.ctrs := hkeep
      _ = g7.vlt.ctrs := hm.2
      _ = g1.vlt.ctrs := (Dev.calm_trans hg3 (Dev.calm_trans hg5 (Dev.calm_trans hg6 hry7))).2.2
      _ = s.dev.vlt.ctrs := hg1.2.2.trans hctrs

@[simp] theorem Dev.setMode_boot (d : Dev) (m : Mode) (k : Nat) : (d.setMode m k).boot = d.boot := by simp [Dev.setMode]
@[simp] theorem Dev.ttFirst_boot (d : Dev) (n b : Nat) : (d.ttFirst n b).boot = d.boot := by simp [Dev.ttFirst, Dev.setTt]

@[simp] theorem Dev.ttCommitted_boot (d o : Dev) (b : Nat) : (d.ttCommitted o b).boot = d.boot := by
  unfold Dev.ttCommitted
  exact foldl_same Dev.boot _ (fun x n => by split <;> simp) _ _

@[simp] theorem Dev.bootApplied_boot (d o : Dev) (b : Nat) : (d.bootApplied o b).boot = d.boot := by simp [Dev.bootApplied]

/-- The boundary that ends BOOT sets the mode BOOT ends in and keeps the epoch that was loaded (R92, R96). -/
theorem State.bootExit_shows (s : State) :
    s.bootExit.dev.sys.mode = s.dev.bootEndMode ∧ s.bootExit.dev.boot.step = 7 ∧ s.bootExit.dev.tmb.epoch = s.dev.tmb.epoch ∧
      s.bootExit.dev.vlt.ctrs = s.dev.vlt.ctrs := by
  unfold State.bootExit
  extract_lets d k b d0 boot d1 tmb d2 d3 d4 d5 d6
  have htime : d.inEpoch d0 := d.timeTo_inEpoch b
  clear_value d0
  have h2 : d.counted d2 ∧ d2.boot.step = 7 := by simp [d2, tmb, d1, boot, htime.2.2.2.1, htime.2.2.2.2.2.1]
  clear_value d2
  have h3 : d3.sys.mode = d.bootEndMode ∧ d2.counted d3 ∧ d3.boot = d2.boot :=
    ⟨(d2.setMode_shows d.bootEndMode k).1, (d2.setMode_shows d.bootEndMode k).2, d2.setMode_boot d.bootEndMode k⟩
  clear_value d3
  have h4 : d3.calm d4 ∧ d4.boot = d3.boot := by simp [d4]
  have h5 : d4.calm d5 ∧ d5.boot = d4.boot := by simp [d5]
  clear_value d4 d5
  have h6 : d5.calm d6 ∧ d6.boot = d5.boot := by simp [d6]
  clear_value d6
  have hlast : d3.calm d6 := Dev.calm_trans h4.1 (Dev.calm_trans h5.1 h6.1)
  have hcount : d.counted d6 := Dev.counted_trans h2.1 (Dev.counted_trans h3.2.1 hlast.2)
  have hboot : d6.boot = d2.boot := h6.2.trans (h5.2.trans (h4.2.trans h3.2.2))
  exact ⟨hlast.1.trans h3.1, (congrArg Boot.step hboot).trans h2.2, hcount⟩

theorem State.periodBoundary_ctrs (s : State) (late : Bool) (phase : Int) : (s.periodBoundary late phase).dev.vlt.ctrs = s.dev.vlt.ctrs := by
  unfold State.periodBoundary
  split
  · rfl
  split
  · split
    · exact s.bootExit_shows.2.2.2
    · rfl
  · exact (s.boundary_shows late phase).2.2.2.2

-- The obligations ------------------------------------------------------------------------------------------------------------

/-- Settles O60: CTR_INC and an image raise counters, the boundary and the removal of power keep them, and so does every other command. -/
theorem vaultCountersNeverDecrease : Obligations.VaultCountersNeverDecrease := by
  unfold Obligations.VaultCountersNeverDecrease
  intro c s t h i
  by_cases hp : removesPower c = true
  · rw [exec_removesPower_ctrs c s t h hp]
  by_cases hb : ∃ late phase, c = .periodBoundary late phase
  · obtain ⟨late, phase, rfl⟩ := hb
    cases h
    rw [s.periodBoundary_ctrs late phase]
  · exact (exec_rising c s t h (Bool.eq_false_iff.2 hp) (fun late phase hc => hb ⟨late, phase, hc⟩)).2 i

/-- Settles O25: the snapshot is the device behind step 3 of the boundary, at its SYNC (log 12), and without a request waiting step 5 counts the epoch on by one; the
boundary that ends BOOT keeps the epoch that was loaded (log 13). -/
theorem boundaryEndsTheEpoch : Obligations.BoundaryEndsTheEpoch := by
  unfold Obligations.BoundaryEndsTheEpoch
  refine ⟨?_, ?_, ?_⟩
  case refine_1 =>
    intro s late phase hpow hrun hmode
    obtain ⟨hepoch, hnow, hclears, hcount, -⟩ := s.boundary_shows late phase
    have hexec : s.periodBoundary late phase = s.boundary late phase := by
      unfold State.periodBoundary
      rw [hpow, hrun, if_neg (by decide), if_neg hmode]
    refine ⟨s.boundary late phase, congrArg Host.Outcome.next hexec, ?_, ?_, hepoch, hnow, hclears, hcount⟩
    · exact (s.boundary_frame late phase).1
    · exact (s.boundary_frame late phase).2
  case refine_2 =>
    intro s late phase hrun
    refine congrArg Host.Outcome.next ?_
    unfold State.periodBoundary
    rw [hrun]
    exact if_pos (Bool.or_true _)
  case refine_3 =>
    intro s late phase hpow hrun hmode hstep
    obtain ⟨hend, hseven, hepoch, -⟩ := s.bootExit_shows
    refine ⟨s.bootExit, congrArg Host.Outcome.next ?_, hend, hseven, hepoch⟩
    unfold State.periodBoundary
    rw [hpow, hrun, if_neg (by decide), if_pos hmode, if_pos hstep]

-- The tick ---------------------------------------------------------------------------------------------------------------------

/-- A tick has a length (R425). -/
theorem Dev.tickU_pos (d : Dev) : 0 < d.tickU := by
  unfold Dev.tickU
  dsimp only
  split
  · decide
  split
  · decide
  · exact Nat.lt_of_lt_of_le (by decide) (Nat.le_add_right _ _)

/-- A tick moves the root clock, station time and the count of free values alone. -/
theorem Dev.tick_only (d : Dev) : d.tick = { d with clk := d.tick.clk, tmb := d.tick.tmb, ptp := d.tick.ptp, free := d.tick.free } := by
  unfold Dev.tick Dev.ditherTick
  dsimp only
  split <;> split <;> split <;> rfl

/-- A tick takes elapsed time on and keeps the epoch (R425). -/
theorem Dev.tick_up (d : Dev) : d.tmb.up < d.tick.tmb.up ∧ d.tick.tmb.epoch = d.tmb.epoch := by
  have hpos := d.tickU_pos
  unfold Dev.tick
  extract_lets len left d0 d1 tmb s
  have h0 : d1.tmb = d.tmb := by
    unfold d1 d0 Dev.ditherTick
    split <;> split <;> rfl
  have hleft : 0 < left := by
    unfold left
    split
    · next h => exact Nat.sub_pos_of_lt h
    · exact hpos
  split
  · exact ⟨Nat.lt_add_of_pos_right hleft, show d1.tmb.epoch = d.tmb.epoch by rw [h0]⟩
  · exact ⟨Nat.lt_add_of_pos_right hleft, show d1.tmb.epoch = d.tmb.epoch by rw [h0]⟩

/-- `b` is `a` but for the drive pairs, the ADC cores and what a trip reports. -/
def Dev.onlyDrive (a b : Dev) : Prop := b = { a with sticky := b.sticky, clears := b.clears, ddp := b.ddp, recd := b.recd, pci := b.pci, adc := b.adc }

theorem Dev.onlyDrive_trans {a b c : Dev} (hab : a.onlyDrive b) (hbc : b.onlyDrive c) : a.onlyDrive c := by
  unfold Dev.onlyDrive at *
  rw [hbc, hab]

theorem Dev.onlyDrive_foldl {α : Type} (f : Dev → α → Dev) (step : ∀ (x : Dev) (a : α), x.onlyDrive (f x a)) (l : List α) (d : Dev) : d.onlyDrive (l.foldl f d) :=
  foldl_keeps (fun y => d.onlyDrive y) f (fun y a hy => Dev.onlyDrive_trans hy (step y a)) l d rfl

theorem Dev.trigger_drive (d : Dev) (b c s e : Nat) : d.onlyDrive (d.trigger b c s e) := by
  unfold Dev.trigger
  split <;> rfl

theorem Dev.tripEvent_drive (d : Dev) : d.onlyDrive d.tripEvent := by
  unfold Dev.tripEvent
  dsimp only
  split
  · rfl
  · refine Dev.onlyDrive_trans ?_ (Dev.trigger_drive ..)
    rfl

theorem Dev.tripPair_drive (d : Dev) (n : Nat) (conf ds hoc : Bool) : d.onlyDrive (d.tripPair n conf ds hoc) := by
  unfold Dev.tripPair
  refine Dev.onlyDrive_trans ?_ (Dev.tripEvent_drive _)
  rfl

theorem Dev.pairTick_drive (d : Dev) (n : Nat) : d.onlyDrive (d.pairTick n) := by
  unfold Dev.pairTick
  dsimp only
  split
  · rfl
  split
  · exact d.tripPair_drive ..
  split
  · rfl
  · rfl

theorem Dev.startInjected_drive (d : Dev) (c : Nat) : d.onlyDrive (d.startInjected c) := by
  unfold Dev.startInjected
  dsimp only
  split
  · rfl
  · rfl

/-- A tick of the drive pairs and the ADC cores moves nothing else. -/
theorem Dev.unitsTick_drive (d : Dev) : d.onlyDrive d.ddpTick.adcTick :=
  Dev.onlyDrive_trans (Dev.onlyDrive_foldl _ Dev.pairTick_drive _ d) (Dev.onlyDrive_foldl _ Dev.startInjected_drive _ _)

/-- `b` has the register banks, the ledgers and station time of `a`, and its system controller but for the causes raised. -/
def Dev.keepsBanks (a b : Dev) : Prop :=
  b.tmb = a.tmb ∧ b.active = a.active ∧ b.staging = a.staging ∧ b.rw = a.rw ∧ b.mbe = a.mbe ∧ b.sys = { a.sys with raised := b.sys.raised }

theorem Dev.keepsBanks_trans {a b c : Dev} (hab : a.keepsBanks b) (hbc : b.keepsBanks c) : a.keepsBanks c := by
  obtain ⟨btmb, bactive, bstaging, brw, bmbe, bsys⟩ := hab
  obtain ⟨ctmb, cactive, cstaging, crw, cmbe, csys⟩ := hbc
  exact ⟨ctmb.trans btmb, cactive.trans bactive, cstaging.trans bstaging, crw.trans brw, cmbe.trans bmbe, by rw [csys, bsys]⟩

theorem Dev.unitsTick_keeps (d : Dev) : d.keepsBanks d.ddpTick.adcTick ∧ d.ddpTick.adcTick.sys = d.sys ∧ d.ddpTick.adcTick.ikl = d.ikl := by
  have h := d.unitsTick_drive
  unfold Dev.onlyDrive at h
  unfold Dev.keepsBanks
  rw [h]
  exact ⟨⟨rfl, rfl, rfl, rfl, rfl, rfl⟩, rfl, rfl⟩

theorem Dev.raiseCause_keepsBanks (d : Dev) (bit : Nat) : d.keepsBanks (d.raiseCause bit) := by
  have h := d.raiseCause_cause bit
  unfold Dev.onlyCause at h
  unfold Dev.keepsBanks
  rw [h]
  exact ⟨rfl, rfl, rfl, rfl, rfl, rfl⟩

/-- The watchdog keeps the banks, and at an instant at which it does not expire everything. -/
theorem Dev.watchdog_keeps (d : Dev) : d.keepsBanks d.watchdog ∧ (Config.watchdogExpires d.tmb.up = false → d.watchdog = d) := by
  unfold Dev.watchdog
  split
  · next h => exact ⟨d.raiseCause_keepsBanks _, fun hno => by simp [hno] at h⟩
  · exact ⟨⟨rfl, rfl, rfl, rfl, rfl, rfl⟩, fun _ => rfl⟩

/-- What a tick leaves: all but the root clock, station time, the pairs, the cores and, at an expiry of the watchdog, what a cause moves. -/
theorem Dev.idle_shows (d : Dev) :
    d.tmb.up < d.idle.tmb.up ∧ d.idle.tmb.epoch = d.tmb.epoch ∧ d.idle.active = d.active ∧ d.idle.staging = d.staging ∧ d.idle.rw = d.rw ∧
      d.idle.mbe = d.mbe ∧ d.idle.sys = { d.sys with raised := d.idle.sys.raised } ∧
      (Config.watchdogExpires d.idle.tmb.up = false → d.idle.sys = d.sys ∧ d.idle.ikl = d.ikl) := by
  obtain ⟨hup, hepoch⟩ := d.tick_up
  obtain ⟨htactive, htstaging, htrw, htmbe, htsys, htikl⟩ :
      d.tick.active = d.active ∧ d.tick.staging = d.staging ∧ d.tick.rw = d.rw ∧ d.tick.mbe = d.mbe ∧ d.tick.sys = d.sys ∧ d.tick.ikl = d.ikl := by
    rw [d.tick_only]
    exact ⟨rfl, rfl, rfl, rfl, rfl, rfl⟩
  have hunits : d.tick.keepsBanks (if d.tick.unpowered then d.tick else d.tick.ddpTick.adcTick.watchdog) ∧
      (Config.watchdogExpires d.tick.tmb.up = false → (if d.tick.unpowered then d.tick else d.tick.ddpTick.adcTick.watchdog).sys = d.tick.sys ∧
        (if d.tick.unpowered then d.tick else d.tick.ddpTick.adcTick.watchdog).ikl = d.tick.ikl) := by
    obtain ⟨hkeep, hsys, hikl⟩ := d.tick.unitsTick_keeps
    obtain ⟨hdog, hquiet⟩ := d.tick.ddpTick.adcTick.watchdog_keeps
    split
    · exact ⟨⟨rfl, rfl, rfl, rfl, rfl, rfl⟩, fun _ => ⟨rfl, rfl⟩⟩
    · refine ⟨Dev.keepsBanks_trans hkeep hdog, fun hno => ?_⟩
      rw [hquiet (by rw [hkeep.1]; exact hno)]
      exact ⟨hsys, hikl⟩
  unfold Dev.idle
  extract_lets d1 d2
  obtain ⟨⟨htmb, hactive, hstaging, hrw, hmbe, hsys⟩, hquiet⟩ := hunits
  have hup2 : d.tmb.up < d2.tmb.up := by rw [show d2.tmb = d.tick.tmb from htmb]; exact hup
  have hepoch2 : d2.tmb.epoch = d.tmb.epoch := by rw [show d2.tmb = d.tick.tmb from htmb]; exact hepoch
  have hsys2 : d2.sys = { d.sys with raised := d2.sys.raised } := by rw [← htsys]; exact hsys
  have hquiet2 : Config.watchdogExpires d2.tmb.up = false → d2.sys = d.sys ∧ d2.ikl = d.ikl := by
    intro hno
    obtain ⟨h1, h2⟩ := hquiet (by rw [← htmb]; exact hno)
    exact ⟨h1.trans htsys, h2.trans htikl⟩
  exact ⟨hup2, hepoch2, hactive.trans htactive, hstaging.trans htstaging, hrw.trans htrw, hmbe.trans htmbe, hsys2, hquiet2⟩

/-- Settles O2: the tick moves station time, the root clock, the pairs and cores that act by themselves and the nodes; the watchdog, whose instant is free (log 94), is what
can raise a cause. -/
theorem emptyQueueTicks : Obligations.EmptyQueueTicks := by
  unfold Obligations.EmptyQueueTicks
  intro s hs
  have hstep : step s = .next { s with dev := s.dev.idle } := by
    unfold step
    split
    · rfl
    · next c rest hcons => exact absurd (hcons.symm.trans hs) (List.cons_ne_nil _ _)
  exact ⟨s.dev.idle, hstep, s.dev.idle_shows⟩

end Sys2Proof.Machine
end

section
/-! SUPPORT. Registers and ports, mode requests, time adjustments, the link and the lanes: the obligations that one operation settles. -/
namespace Sys2Proof.Machine

-- Registers and ports --------------------------------------------------------------------------------------------------------

/-- A write of a register other than `SYS_SNAP_CTRL` is the device's alone. -/
theorem exec_registerWrite (s : State) (off : Nat) (v : Word) (whole : Bool) (hoff : off < 16777216) (h : ¬(off = R.SYS_SNAP_CTRL ∧ whole = true)) :
    exec (.registerWrite off v whole) s = .next { s with dev := s.dev.regWrite off v whole } := by
  have hwrite : s.registerWrite off v whole = { s with dev := s.dev.regWrite off v whole } := if_neg h
  exact (if_pos hoff).trans (congrArg Host.Outcome.next hwrite)

theorem exec_bar0ReadFault (s : State) (off : Nat) (whole : Bool) (hoff : off < 16777216) :
    exec (.bar0ReadFault off whole) s = .next { s with dev := s.dev.readFault off whole } := if_pos hoff

theorem narrow_iff (off : Nat) (whole : Bool) : (!whole || off % 4 != 0) = true ↔ whole = false ∨ off % 4 ≠ 0 := by
  simp

/-- A narrow or unaligned write is an access fault of kind 0 (R10, R543). -/
theorem Dev.regWrite_narrow (d : Dev) (off : Nat) (v : Word) (whole : Bool) (hup : d.hostUp = true) (hshown : d.bootHidden off = false)
    (h : whole = false ∨ off % 4 ≠ 0) : d.regWrite off v whole = d.accessFault none 0 off true := by
  unfold Dev.regWrite
  rw [hup, hshown, if_neg (by decide), if_pos ((narrow_iff off whole).2 h)]

theorem Dev.regWrite_readOnly (d : Dev) (off : Nat) (v : Word) (hup : d.hostUp = true) (hshown : d.bootHidden off = false) (halign : off % 4 = 0)
    (h : readOnly off = true) : d.regWrite off v true = d.accessFault none 4 off true := by
  simp [Dev.regWrite, hup, hshown, halign, h]

theorem Dev.regWrite_absent (d : Dev) (off : Nat) (v : Word) (hup : d.hostUp = true) (hshown : d.bootHidden off = false) (halign : off % 4 = 0)
    (hro : readOnly off = false) (h : findReg off = none) : d.regWrite off v true = d.accessFault none 1 off true := by
  simp [Dev.regWrite, hup, hshown, halign, hro, h]

theorem Dev.readFault_narrow (d : Dev) (off : Nat) (whole : Bool) (hup : d.hostUp = true) (hshown : d.bootHidden off = false)
    (h : whole = false ∨ off % 4 ≠ 0) : d.readFault off whole = d.accessFault none 0 off false := by
  unfold Dev.readFault
  rw [hup, hshown, if_neg (by decide), if_pos ((narrow_iff off whole).2 h)]

/-- No field of a register of readable and writable fields alone has another kind. -/
theorem flds_none (r : RegDef) (p : Acc → Bool) (hrw : p .rw = false) (hro : p .ro = false) (h : ∀ f ∈ r.flds, f.acc = .rw ∨ f.acc = .ro) :
    r.flds.any (fun f => p f.acc) = false := by
  refine List.any_eq_false.2 (fun f hf => ?_)
  rcases h f hf with hacc | hacc
  · rw [hacc, hrw]
    decide
  · rw [hacc, hro]
    decide

/-- A register of readable and writable fields takes the value at once (R52). -/
theorem Dev.plainWrite_rw (d : Dev) (off : Nat) (v : Word) (r : RegDef) (hfree : ((schedReg off).map (fun e => (d.sched e).st == 1)).getD false = false)
    (h : ∀ f ∈ r.flds, f.acc = .rw ∨ f.acc = .ro) (hrw : r.flds.any (fun f => f.acc == .rw) = true) : d.plainWrite none off v r = d.setRw off v := by
  have hstaged := flds_none r isStaged rfl rfl h
  have hlock := flds_none r (· == .rwl) rfl rfl h
  have hclear := flds_none r (· == .w1c) rfl rfl h
  unfold Dev.plainWrite Dev.sealedReg
  simp only [hfree, hlock, hstaged, hrw, hclear, Bool.and_false, Bool.false_eq_true, if_false, if_true]

/-- Settles O59: each branch of the register access; which fault an access with several faults reports is log 35, the codes of the boundary-scan port are log 68. -/
theorem registerAndPortAccesses : Obligations.RegisterAndPortAccesses := by
  refine ⟨fun s off v whole hoff hup hshown => ⟨?narrow, ?readOnly, ?absent, ?readNarrow, ?readDenied, ?readOk⟩, ?plain, fun s i => ?scan, fun s => ⟨?portOpen, ?portShut⟩⟩
  case narrow =>
    intro h
    have hsnap : ¬(off = R.SYS_SNAP_CTRL ∧ whole = true) := by
      rintro ⟨hoff, hwhole⟩
      rcases h with hnarrow | ⟨-, hne⟩
      · rw [hwhole] at hnarrow
        cases hnarrow
      · exact hne hoff
    refine ⟨_, exec_registerWrite s off v whole hoff hsnap, ?_⟩
    rw [Dev.regWrite_narrow s.dev off v whole hup hshown (h.imp_right And.left)]
    exact s.dev.accessFault_shows none 0 off true (by decide) hoff
  case readOnly =>
    intro halign hro hne
    refine ⟨_, exec_registerWrite s off v true hoff (fun hsnap => hne hsnap.1), ?_⟩
    rw [Dev.regWrite_readOnly s.dev off v hup hshown halign hro]
    exact s.dev.accessFault_shows none 4 off true (by decide) hoff
  case absent =>
    intro halign hro hnone hne
    refine ⟨_, exec_registerWrite s off v true hoff (fun hsnap => hne hsnap.1), ?_⟩
    rw [Dev.regWrite_absent s.dev off v hup hshown halign hro hnone]
    exact s.dev.accessFault_shows none 1 off true (by decide) hoff
  case readNarrow =>
    intro h
    refine ⟨_, exec_bar0ReadFault s off whole hoff, ?_⟩
    rw [Dev.readFault_narrow s.dev off whole hup hshown h]
    exact s.dev.accessFault_shows none 0 off false (by decide) hoff
  case readDenied =>
    intro halign hdenied
    refine ⟨_, exec_bar0ReadFault s off true hoff, ?_⟩
    have hread : s.dev.readFault off true = s.dev.accessFault none 2 off false := by simp [Dev.readFault, hup, hshown, halign, hdenied]
    rw [hread]
    exact s.dev.accessFault_shows none 2 off false (by decide) hoff
  case readOk =>
    intro halign hok
    have hread : s.dev.readFault off true = s.dev := by simp [Dev.readFault, hup, hshown, halign, hok]
    rw [exec_bar0ReadFault s off true hoff, hread]
  case plain =>
    intro s off v r hoff hup hshown halign hne hro hreg hcmd hadm hfree hflds hrw
    rw [exec_registerWrite s off v true hoff (fun hsnap => hne hsnap.1), Dev.regWrite_plain s.dev off v r hreg halign hro hcmd hup hshown hadm,
      Dev.plainWrite_rw s.dev off v r hfree hflds hrw]
  case scan =>
    refine next_congr s ?_
    unfold Dev.boundaryScan
    simp only [Bool.and_eq_true, decide_eq_true_eq]
  case portOpen =>
    intro hopen
    exact next_congr s (if_pos hopen)
  case portShut =>
    intro hshut
    refine next_same s _ ?_
    unfold Dev.servicePort
    rw [hshut]
    rfl

-- The lanes ------------------------------------------------------------------------------------------------------------------

/-- A lane that is on is one of the twelve (R291). -/
theorem Dev.laneOn_lt (d : Dev) (lane : Nat) (h : d.laneOn lane = true) : lane < 12 := by
  simp only [Dev.laneOn, Bool.and_eq_true, decide_eq_true_eq] at h
  exact h.1.1

/-- The receivers of a node stand behind the lanes and the mirror lanes. -/
theorem receiver_of (n r : Nat) (hr : r < 4) : 14 ≤ 14 + 4 * n + r ∧ (14 + 4 * n + r - 14) / 4 = n ∧ (14 + 4 * n + r - 14) % 4 = r := by omega

theorem Node.locked_low (x : Node) (r : Nat) (hr : r < 2) : x.locked r = (nth x.ports r {}).lock := if_pos hr

theorem Node.locked_high (x : Node) (r : Nat) (hr : ¬r < 2) : x.locked r = (nth x.down (r - 2) {}).lock := if_neg hr

/-- Block lock gained at a receiver of a node is gained there alone (R295). -/
theorem Node.gainLock_locked (x : Node) (r : Nat) (hr : r < 4) (hports : x.ports.length = 2) (hdown : x.down.length = 2) :
    (x.gainLock r).locked r = true ∧ ∀ q, q ≠ r → (x.gainLock r).locked q = x.locked q := by
  unfold Node.gainLock Node.modPort
  by_cases hlow : r < 2
  case pos =>
    rw [if_pos hlow]
    refine ⟨?_, fun q hq => ?_⟩
    · rw [Node.locked_low _ r hlow]
      exact congrArg NodePort.lock (nth_modAt_self x.ports r _ {} (by omega))
    · unfold Node.locked Node.port
      split
      · exact congrArg NodePort.lock (nth_modAt_ne x.ports r q _ {} (Ne.symm hq))
      · rfl
  case neg =>
    rw [if_neg hlow]
    refine ⟨?_, fun q hq => ?_⟩
    · rw [Node.locked_high _ r hlow]
      exact congrArg DownPort.lock (nth_modAt_self x.down (r - 2) _ {} (by omega))
    · unfold Node.locked Node.port
      split
      · rfl
      · exact congrArg DownPort.lock (nth_modAt_ne x.down (r - 2) (q - 2) _ {} (by omega))

@[simp] theorem Node.raiseFlash_locked (x : Node) (cls r : Nat) : (x.raiseFlash cls).locked r = x.locked r := by
  unfold Node.raiseFlash
  split <;> rfl

@[simp] theorem Node.raiseFlash_frame (x : Node) (cls : Nat) :
    (x.raiseFlash cls).lockLosses = x.lockLosses ∧ (x.raiseFlash cls).admitted = x.admitted ∧ (x.raiseFlash cls).ident = x.ident := by
  unfold Node.raiseFlash
  split <;> exact ⟨rfl, rfl, rfl⟩

/-- An admitted node flashes the condition under its arm (R322). -/
theorem Node.raiseFlash_flash (x : Node) (cls : Nat) (hadm : x.admitted = true) (harm : x.ident.arm ≤ 5) :
    (x.raiseFlash cls).flash = x.flash ||| 2 ^ (6 * cls + x.ident.arm) := by
  simp [Node.raiseFlash, hadm, harm]

theorem Node.loseLock_free (x : Node) (r : Nat) (h : x.locked r = false) : x.loseLock r = x := by simp [Node.loseLock, h]

/-- The receiver `r` of a node without block lock. -/
def Node.unlock (x : Node) (r : Nat) : Node :=
  if r < 2 then x.modPort r (fun q => { q with lock := false }) else { x with down := modAt x.down (r - 2) (fun (z : DownPort) => { z with lock := false }) }

theorem Node.unlock_shows (x : Node) (r : Nat) (hr : r < 4) (hports : x.ports.length = 2) (hdown : x.down.length = 2) :
    (x.unlock r).locked r = false ∧ (x.unlock r).lockLosses = x.lockLosses ∧ (x.unlock r).ident = x.ident ∧
      (x.unlock r).flash = x.flash := by
  unfold Node.unlock Node.modPort
  split
  · next hlow => exact ⟨(Node.locked_low _ r hlow).trans (congrArg NodePort.lock (nth_modAt_self x.ports r _ {} (by omega))), rfl, rfl, rfl⟩
  · next hhigh => exact ⟨(Node.locked_high _ r hhigh).trans (congrArg DownPort.lock (nth_modAt_self x.down (r - 2) _ {} (by omega))), rfl, rfl, rfl⟩

/-- Block lock lost at a receiver of a node is counted and, by an admitted node, flashed as COMM (R295, R353). -/
theorem Node.loseLock_held (x : Node) (r : Nat) (hr : r < 4) (hports : x.ports.length = 2) (hdown : x.down.length = 2) (h : x.locked r = true) :
    (x.loseLock r).locked r = false ∧ (x.loseLock r).lockLosses = sat16 x.lockLosses 1 ∧
      ((x.loseLock r).admitted = true → (x.loseLock r).ident.arm ≤ 5 → (x.loseLock r).flash = x.flash ||| 2 ^ (18 + (x.loseLock r).ident.arm)) := by
  obtain ⟨hlock, hlosses, hident, hflash⟩ := x.unlock_shows r hr hports hdown
  have heq : x.loseLock r = Node.raiseFlash { x.unlock r with lockLosses := sat16 (x.unlock r).lockLosses 1 } 3 := by
    unfold Node.loseLock
    rw [h]
    rfl
  rw [heq]
  obtain ⟨hl, ha, hi⟩ := Node.raiseFlash_frame { x.unlock r with lockLosses := sat16 (x.unlock r).lockLosses 1 } 3
  refine ⟨(Node.raiseFlash_locked ..).trans hlock, hl.trans (by rw [hlosses]), fun hadmitted harm => ?_⟩
  rw [ha] at hadmitted
  rw [hi] at harm ⊢
  rw [Node.raiseFlash_flash _ 3 hadmitted harm]
  exact congrArg (· ||| _) hflash

/-- A node that loses block lock keeps its identity. -/
theorem Node.loseLock_ident (x : Node) (r : Nat) : (x.loseLock r).ident = x.ident := by
  unfold Node.loseLock
  split
  · rfl
  · rw [(Node.raiseFlash_frame _ 3).2.2]
    dsimp only
    split <;> rfl

theorem Dev.linkLost_frame (d o : Dev) : d.linkLost o = { d with rdn := (d.linkLost o).rdn } ∧ (d.linkLost o).rdn.mirLock = d.rdn.mirLock ∧ (d.linkLost o).rdn.role = d.rdn.role := by
  unfold Dev.linkLost
  split <;> exact ⟨rfl, rfl, rfl⟩

/-- A fault flash moves the network alone. -/
theorem Dev.flash_only (d : Dev) (lane : Nat) (b : Dword) : d.flash lane b = { d with ikl := (d.flash lane b).ikl } := by
  unfold Dev.flash
  split
  · rfl
  split <;> rfl

/-- A block that is no fault flash, or has a bad CRC, is counted on its lane (R320). -/
theorem Dev.flash_bad (d : Dev) (lane : Nat) (b : Dword) (hrun : d.lanesRun = true) (hon : d.laneOn lane = true) (hlock : (nth d.ikl.lanes lane {}).lock = true)
    (h : ¬(blockType b = 0x66 ∧ crcOk b = true)) : d.flash lane b = d.laneError lane := by
  have hbad : blockType b ≠ 0x66 ∨ (!(crcOk b)) = true := by
    rw [not_and_or] at h
    simpa using h
  unfold Dev.flash
  rw [hrun, hon, hlock, if_neg (by decide), if_pos hbad]

/-- Settles O36: each receiver in its own branch; the numbers of the receivers of a node are the row's operands. -/
theorem lanesReceive : Obligations.LanesReceive := by
  refine ⟨fun s lane b hlane hrun hon hlock => ?flash, fun s lane hrun hon => ?lock, fun s n r hr hports hdown => ⟨?nodeLock, ?nodeLoss⟩, fun s n hn hrun hdom hen => ?mirLock,
    fun s lane hlane hlock => ?loss, fun s n hn => ?mirLoss, fun s lane b hlane hrun hon hlock hunknown => ?code, fun s n b hn hok hunknown => ?mirCode⟩
  case flash =>
    refine ⟨s.dev.flash lane b, next_congr s (if_pos hlane), s.dev.flash_only lane b, fun htype hcrc => ?_, fun hbad => ?_⟩
    · simp [Dev.flash, hrun, hon, hlock, htype, hcrc]
    · exact s.dev.flash_bad lane b hrun hon hlock hbad
  case lock =>
    have hlane := s.dev.laneOn_lt lane hon
    refine next_congr s ?_
    show s.dev.blockLock _ = _
    unfold Dev.blockLock
    rw [if_neg (by omega), hrun, if_neg (by decide), if_pos hlane, if_pos hon]
  case nodeLock =>
    obtain ⟨hge, hnode, hrecv⟩ := receiver_of n r hr
    obtain ⟨hgain, hothers⟩ := (s.dev.node n).gainLock_locked r hr hports hdown
    refine ⟨(s.dev.node n).gainLock r, next_congr s ?_, hgain, hothers⟩
    show s.dev.blockLock _ = _
    unfold Dev.blockLock
    rw [if_pos hge, hnode, hrecv]
  case nodeLoss =>
    obtain ⟨hge, hnode, hrecv⟩ := receiver_of n r hr
    refine ⟨(s.dev.node n).loseLock r, next_congr s ?_, ?_, fun hheld => ?_, fun hfree => (s.dev.node n).loseLock_free r hfree⟩
    · show s.dev.blockLoss _ = _
      unfold Dev.blockLoss
      rw [if_pos hge, hnode, hrecv]
    · cases hheld : (s.dev.node n).locked r with
      | true => exact ((s.dev.node n).loseLock_held r hr hports hdown hheld).1
      | false => rw [(s.dev.node n).loseLock_free r hheld, hheld]
    · obtain ⟨-, hlosses, hflash⟩ := (s.dev.node n).loseLock_held r hr hports hdown hheld
      exact ⟨hlosses, fun hadm harm => by rw [hflash hadm harm, Node.loseLock_ident]⟩
  case mirLock =>
    have hidx : 12 + n - 12 = n := by omega
    refine next_congr s ?_
    show s.dev.blockLock _ = _
    unfold Dev.blockLock
    rw [if_neg (by omega), hrun, if_neg (by decide), if_neg (by omega), hidx, hdom, hen]
    rfl
  case loss =>
    refine next_congr s ?_
    show s.dev.blockLoss _ = _
    unfold Dev.blockLoss
    rw [if_neg (by omega), if_pos hlane, if_pos hlock]
  case mirLoss =>
    have hidx : 12 + n - 12 = n := by omega
    have hloss : s.dev.blockLoss (12 + n) = ({ s.dev with rdn := { s.dev.rdn with mirLock := setAt s.dev.rdn.mirLock n false } } : Dev).linkLost s.dev := by
      unfold Dev.blockLoss
      rw [if_neg (by omega), if_neg (by omega), hidx]
    obtain ⟨hframe, hmir, hrole⟩ := ({ s.dev with rdn := { s.dev.rdn with mirLock := setAt s.dev.rdn.mirLock n false } } : Dev).linkLost_frame s.dev
    exact ⟨_, next_congr s hloss, hframe, hmir, hrole⟩
  case code =>
    refine next_congr s ?_
    show s.dev.unit _ _ _ = _
    have hon' : s.dev.unit lane 14 (fun x => x.codeError lane b) = s.dev.codeError lane b := if_pos (by omega)
    rw [hon']
    unfold Dev.codeError
    rw [if_pos hlane, hrun, hon, hlock, hunknown]
    rfl
  case mirCode =>
    have hidx : 12 + n - 12 = n := by omega
    refine next_congr s ?_
    show s.dev.unit _ _ _ = _
    have hon' : s.dev.unit (12 + n) 14 (fun x => x.codeError (12 + n) b) = s.dev.codeError (12 + n) b := if_pos (by omega)
    rw [hon']
    unfold Dev.codeError
    rw [if_neg (by omega), hidx, hok, hunknown]
    rfl

end Sys2Proof.Machine
end

section
/-! SUPPORT. Requests that wait for the boundary: modes, adjustments of station time, and those of descriptors (R41, R78, R81, R426, R427, R448, R450, R524, R525). -/
namespace Sys2Proof.Machine

-- Command registers with a refusal of their own ------------------------------------------------------------------------------

theorem Dev.bar0CmdElse_refused (d : Dev) (off l : Nat) (denied run : Dev → Dev) (h : d.bar0Refused off l = true) :
    d.bar0CmdElse off l denied run = denied (d.accessFault none 2 off true) := by
  simp only [Dev.bar0Refused, Bool.and_eq_true, Bool.not_eq_true'] at h
  obtain ⟨⟨hup, hshown⟩, hlevel⟩ := h
  simp [Dev.bar0CmdElse, hup, hshown, hlevel]

-- Mode requests --------------------------------------------------------------------------------------------------------------

/-- A completion moves the host interface alone. -/
def Dev.onlyPci (a b : Dev) : Prop := b = { a with pci := b.pci }

theorem Dev.onlyPci_trans {a b c : Dev} (hab : a.onlyPci b) (hbc : b.onlyPci c) : a.onlyPci c := by
  unfold Dev.onlyPci at *
  rw [hbc, hab]

theorem Dev.superseded_only (d : Dev) (r : ModeReq) : d.onlyPci (d.superseded r) := by
  unfold Dev.superseded
  split
  · exact d.complete_only ..
  · rfl

theorem Dev.onlyPci_foldl {α : Type} (f : Dev → α → Dev) (step : ∀ (x : Dev) (a : α), x.onlyPci (f x a)) (l : List α) (d : Dev) : d.onlyPci (l.foldl f d) :=
  foldl_keeps (fun y => d.onlyPci y) f (fun y a hy => Dev.onlyPci_trans hy (step y a)) l d rfl

/-- The requests of the epoch a request of now takes the place of (R79). -/
def Dev.keptRequests (d : Dev) : List ModeReq := d.sys.modeReqs.filter (fun r => d.afterEpoch && decide (r.stamp < d.grid (d.tmb.epoch + 1)))

/-- A mode request waits behind those of the epoch before, in the place of those of its own epoch (R79, R81). -/
theorem Dev.modeRequest_shows (d : Dev) (target : Nat) (o : Origin) :
    (d.modeRequest target o).sys.modeReqs = d.keptRequests ++ [⟨target, o, d.stampNow⟩] ∧
      d.modeRequest target o = { d with sys := { d.sys with modeReqs := (d.modeRequest target o).sys.modeReqs }, pci := (d.modeRequest target o).pci } := by
  unfold Dev.modeRequest
  extract_lets mine s d1
  have honly : d1.onlyPci ((d.sys.modeReqs.filter mine).foldl Dev.superseded d1) := Dev.onlyPci_foldl _ Dev.superseded_only _ _
  unfold Dev.onlyPci at honly
  have hkept : d.sys.modeReqs.filter (fun r => !(mine r)) = d.keptRequests := by
    refine List.filter_congr (fun r _ => ?_)
    simp only [mine, Bool.not_or, Bool.not_not, ← decide_not, Nat.not_le]
  have hsys : ((d.sys.modeReqs.filter mine).foldl Dev.superseded d1).sys = d1.sys := by rw [honly]
  refine ⟨?_, ?_⟩
  · rw [hsys, ← hkept]
  · rw [honly]

/-- Requests that no descriptor made complete none. -/
theorem Dev.superseded_none (l : List ModeReq) (d : Dev) (h : ∀ r ∈ l, ∀ c, r.origin ≠ .desc c) : l.foldl Dev.superseded d = d := by
  induction l with
  | nil => rfl
  | cons r l ih =>
    have hr : d.superseded r = d := by
      unfold Dev.superseded
      split
      · next c hc => exact absurd hc (h r List.mem_cons_self c)
      · rfl
    rw [List.foldl_cons, hr]
    exact ih (fun q hq => h q (List.mem_cons_of_mem _ hq))

/-- Settles O21: the two branches of the write of `SYS_MODE_REQ`, and the requests of the same epoch that the new one takes the place of. -/
theorem modeRequestsReplaceEachOther : Obligations.ModeRequestsReplaceEachOther := by
  refine ⟨fun s t hopen => ?taken, fun s t hrefused => ?denied⟩
  case taken =>
    obtain ⟨hreqs, hframe⟩ := s.dev.modeRequest_shows (t % 16) .bar0
    have hrun : s.dev.modeWrite t = s.dev.modeRequest (t % 16) .bar0 := by
      unfold Dev.modeWrite
      rw [Dev.bar0CmdElse_open s.dev _ _ _ _ hopen]
    refine ⟨_, next_congr s hrun, hreqs, hframe, fun c m b hafter hone => ?_, fun hnone => ?_⟩
    · simp [Dev.modeRequest, hafter, hone, Dev.superseded]
      rfl
    · unfold Dev.modeRequest
      dsimp only
      rw [Dev.superseded_none _ _ (fun r hr => hnone r (List.mem_filter.1 hr).1)]
  case denied =>
    obtain ⟨-, hofs, -⟩ := s.dev.accessFault_shows none 2 R.SYS_MODE_REQ true (by decide) (by decide)
    have hrun : s.dev.modeWrite t = (s.dev.accessFault none 2 R.SYS_MODE_REQ true).modeDenied (t % 16) := by
      unfold Dev.modeWrite
      rw [Dev.bar0CmdElse_refused s.dev _ _ _ _ hrefused]
    refine ⟨_, next_congr s hrun, ?_, rfl, rfl, ?_, hofs⟩
    · simp [Dev.modeDenied]
    · simp [Dev.modeDenied, Dev.mode]

-- Adjustments of station time ------------------------------------------------------------------------------------------------

theorem stepMode_iff (d : Dev) : d.stepMode = true ↔ d.mode = .config ∨ d.mode = .standby ∨ d.mode = .service := by
  simp [Dev.stepMode, or_assoc]

/-- A rate outside its range (R426). -/
theorem trimBad_iff (trim : Int) : trimBad trim = true ↔ trim < -2748779069 ∨ 2748779069 < trim := by
  simp [trimBad]

/-- The requests a new rate leaves waiting (R426). -/
def Dev.keptAdjustments (d : Dev) : List AdjReq :=
  let mine (r : AdjReq) : Bool := !d.afterEpoch || decide (d.grid (d.tmb.epoch + 1) ≤ r.stamp)
  let old := d.tmb.reqs.filter (fun r => !r.step && mine r)
  (d.tmb.reqs.filter (fun r => r.step || !(mine r))).map (fun (r : AdjReq) => if old.any (fun x => x.joint && x.origin == r.origin) then { r with origin := .entry 16 } else r)

/-- `b` is `a` but for the answer to an adjustment. -/
def Dev.onlyAnswer (a b : Dev) : Prop := b = { a with tmb := { a.tmb with result := b.tmb.result }, pci := b.pci }

theorem Dev.adjResult_only (d : Dev) (o : Origin) (result epoch : Nat) : d.onlyAnswer (d.adjResult o result epoch) := by
  unfold Dev.adjResult
  split
  · rw [d.complete_only]
    rfl
  · rfl
  · rfl

theorem Dev.onlyAnswer_foldl {α : Type} (f : Dev → α → Dev) (step : ∀ (x : Dev) (a : α), x.onlyAnswer (f x a)) (l : List α) (d : Dev) : d.onlyAnswer (l.foldl f d) := by
  refine foldl_keeps (fun y => d.onlyAnswer y) f (fun y a hy => ?_) l d rfl
  have h := step y a
  unfold Dev.onlyAnswer at *
  rw [h, hy]

/-- A rate in its range waits in the place of those of its own epoch (R426). -/
theorem Dev.adjIncr_good (d : Dev) (o : Origin) (trim : Int) (joint : Bool) (h : trimBad trim = false) :
    (d.adjIncr o trim joint).tmb.reqs = d.keptAdjustments ++ [⟨false, trim, o, d.stampNow, joint⟩] ∧
      d.adjIncr o trim joint = { d with tmb := { d.tmb with reqs := (d.adjIncr o trim joint).tmb.reqs, result := (d.adjIncr o trim joint).tmb.result }
                                        pci := (d.adjIncr o trim joint).pci } := by
  unfold Dev.adjIncr
  rw [h, if_neg Bool.false_ne_true]
  extract_lets mine old left tmb d1
  have honly : d1.onlyAnswer (old.foldl (fun x r => x.adjResult r.origin 4 0) d1) := Dev.onlyAnswer_foldl _ (fun x r => x.adjResult_only ..) _ _
  unfold Dev.onlyAnswer at honly
  have htmb : (old.foldl (fun x r => x.adjResult r.origin 4 0) d1).tmb.reqs = d1.tmb.reqs := by rw [honly]
  refine ⟨htmb, ?_⟩
  rw [htmb, honly]

theorem Dev.adjIncr_bad (d : Dev) (o : Origin) (trim : Int) (joint : Bool) (h : trimBad trim = true) : d.adjIncr o trim joint = d.adjResult o 3 0 := by
  unfold Dev.adjIncr
  exact if_pos h

/-- A rate that still waits is one of the epoch before (R426). -/
theorem Dev.keptAdjustments_before (d : Dev) (r : AdjReq) (hr : r ∈ d.keptAdjustments) (hrate : r.step = false) :
    d.afterEpoch = true ∧ r.stamp < d.grid (d.tmb.epoch + 1) := by
  unfold Dev.keptAdjustments at hr
  obtain ⟨q, hq, heq⟩ := List.mem_map.1 hr
  have hsame : r.step = q.step ∧ r.stamp = q.stamp := by
    rw [← heq]
    split <;> exact ⟨rfl, rfl⟩
  have hkept := (List.mem_filter.1 hq).2
  rw [← hsame.1, hrate] at hkept
  rw [hsame.2]
  simpa using hkept

/-- Within the epoch every rate gives way and the steps stay (R426). -/
theorem Dev.keptAdjustments_within (d : Dev) (hafter : d.afterEpoch = false) (hjoint : ∀ r ∈ d.tmb.reqs, r.joint = false) :
    d.keptAdjustments = d.tmb.reqs.filter (·.step) := by
  unfold Dev.keptAdjustments
  extract_lets mine old
  have hmine : ∀ r, mine r = true := fun r => by simp [mine, hafter]
  have hold : ∀ q : AdjReq, old.any (fun x => x.joint && x.origin == q.origin) = false := by
    intro q
    refine List.any_eq_false.2 (fun x hx => ?_)
    rw [hjoint x (List.mem_filter.1 hx).1, Bool.false_and]
    exact Bool.false_ne_true
  have hfilter : d.tmb.reqs.filter (fun r => r.step || !(mine r)) = d.tmb.reqs.filter (·.step) :=
    List.filter_congr (fun r _ => by rw [hmine]; simp)
  rw [hfilter]
  conv_rhs => rw [← List.map_id (d.tmb.reqs.filter (·.step))]
  refine List.map_congr_left (fun r _ => ?_)
  rw [hold r]
  rfl

/-- Settles O46: the branches of the two writes of `TMB_ADJ_GO`, the capture and the end of a slew. -/
theorem timeAdjustmentsWait : Obligations.TimeAdjustmentsWait := by
  refine ⟨fun s trim hopen htrim => ?rate, fun s hopen => ⟨?step, ?stepMode⟩, fun s hrefused => ?refused, fun s hopen => ?capture, fun s hslew => ?slew⟩
  case rate =>
    have hrun : exec .tmbAdjGoIncr s = .next { s with dev := s.dev.adjIncr .bar0 trim } := by
      refine next_congr s ?_
      rw [htrim, Dev.incrWrite, Dev.bar0CmdElse_open s.dev _ _ _ _ hopen]
    refine ⟨_, hrun, ?_, fun hbad => ?_, fun hlow hhigh => ⟨?_, fun r hr hrate => ?_, fun hafter hjoint => ?_⟩⟩
    · cases hbad : trimBad trim with
      | true =>
        rw [Dev.adjIncr_bad s.dev _ _ _ hbad]
        rfl
      | false => exact (s.dev.adjIncr_good .bar0 trim false hbad).2
    · rw [Dev.adjIncr_bad s.dev _ _ _ ((trimBad_iff trim).2 hbad)]
      exact ⟨rfl, rfl⟩
    all_goals
      have hgood : trimBad trim = false := by
        rw [← Bool.not_eq_true, trimBad_iff]
        omega
      obtain ⟨hreqs, -⟩ := s.dev.adjIncr_good .bar0 trim false hgood
    · rw [hreqs, List.getLast?_concat]
    · rw [hreqs, List.dropLast_concat] at hr
      exact s.dev.keptAdjustments_before r hr hrate
    · rw [hreqs, s.dev.keptAdjustments_within hafter hjoint]
  case step =>
    intro hmode
    refine next_congr s ?_
    rw [Dev.stepWrite, Dev.bar0CmdElse_open s.dev _ _ _ _ hopen]
    exact if_pos ((stepMode_iff s.dev).2 hmode)
  case stepMode =>
    intro hconfig hstandby hservice
    refine next_congr s ?_
    rw [Dev.stepWrite, Dev.bar0CmdElse_open s.dev _ _ _ _ hopen]
    refine if_neg (fun h => ?_)
    rcases (stepMode_iff s.dev).1 h with h | h | h
    · exact hconfig h
    · exact hstandby h
    · exact hservice h
  case refused =>
    obtain ⟨-, hofs, -⟩ := s.dev.accessFault_shows none 2 R.TMB_ADJ_GO true (by decide) (by decide)
    refine ⟨(s.dev.accessFault none 2 R.TMB_ADJ_GO true).adjResult .bar0 5 0, ?_, ?_, ?_, hofs⟩
    · refine next_congr s ?_
      rw [Dev.stepWrite, Dev.bar0CmdElse_refused s.dev _ _ _ _ hrefused]
    · refine next_congr s ?_
      rw [Dev.incrWrite, Dev.bar0CmdElse_refused s.dev _ _ _ _ hrefused]
    · simp [Dev.adjResult]
  case capture => exact onDev_bar0Cmd_open s R.TMB_CAP 3 Dev.capture hopen
  case slew =>
    refine ⟨_, next_congr s (if_pos hslew), rfl⟩

end Sys2Proof.Machine
end

section
/-! SUPPORT. Descriptor requests: the scheduled actions they arm and cancel, and the completion each of them is owed (R448, R450, R519). -/
namespace Sys2Proof.Machine

-- Scheduled actions ------------------------------------------------------------------------------------------------------------

theorem Dev.setSched_sched (d : Dev) (n : Nat) (x : Sched) (hn : n < d.tmb.sched.length) : (d.setSched n x).sched n = x := nth_setAt_self d.tmb.sched n x {} hn

theorem Dev.setSched_sched_ne (d : Dev) (n m : Nat) (x : Sched) (h : n ≠ m) : (d.setSched n x).sched m = d.sched m := nth_setAt_ne d.tmb.sched n m x {} h

theorem Dev.setSched_length (d : Dev) (n : Nat) (x : Sched) : (d.setSched n x).tmb.sched.length = d.tmb.sched.length := List.length_set

/-- The end of a scheduled action: its entry and the completion it was owed, and nothing else (R448). -/
theorem Dev.schedFinal_only (d : Dev) (e st result late epoch : Nat) :
    d.schedFinal e st result late epoch =
      { d.setSched e { d.sched e with st := st, result := result, lateNs := late, ref := none, late := false } with pci := (d.schedFinal e st result late epoch).pci } := by
  unfold Dev.schedFinal
  extract_lets y x d1
  split
  · exact d1.complete_only ..
  · rfl

theorem Dev.schedFinal_frame (d : Dev) (e st result late epoch : Nat) :
    (d.schedFinal e st result late epoch).sys = d.sys ∧ (d.schedFinal e st result late epoch).rw = d.rw ∧ (d.schedFinal e st result late epoch).active = d.active := by
  rw [Dev.schedFinal_only]
  exact ⟨rfl, rfl, rfl⟩

theorem Dev.schedFinal_sched (d : Dev) (e st result late epoch : Nat) (he : e < d.tmb.sched.length) :
    (d.schedFinal e st result late epoch).sched e = { d.sched e with st := st, result := result, lateNs := late, ref := none, late := false } := by
  rw [Dev.schedFinal_only]
  exact d.setSched_sched e _ he

/-- Which entries are pending, for a look at the others (R448). -/
theorem Dev.armCode_setSched (d : Dev) (e : Nat) (x : Sched) : (d.setSched e x).armCode e = d.armCode e := by
  have hothers : ∀ k, (List.range 16).any (fun i => i != e && ((d.setSched e x).sched i).st == 1 && d.schedKind i == k) =
      (List.range 16).any (fun i => i != e && (d.sched i).st == 1 && d.schedKind i == k) := by
    intro k
    refine congrArg (List.any _) (funext fun i => ?_)
    by_cases hi : e = i
    · simp [hi]
    · rw [Dev.setSched_sched_ne d e i x hi]
  have h := hothers (d.schedKind e)
  unfold Dev.armCode
  dsimp only
  rw [show (d.setSched e x).schedKind = d.schedKind from rfl, h]
  rfl

/-- The entry as an ARM leaves it before its checks (R448). -/
def Dev.programmed (d : Dev) (e : Nat) (ref : Option CompRef) : Dev :=
  d.setSched e { d.sched e with ref := ref, prog := d.stampNow, late := false, lateNs := 0, result := 0 }

/-- An ARM that a rule refuses ends at once (R448). -/
theorem Dev.armEntry_refused (d : Dev) (e : Nat) (ref : Option CompRef) (h : d.armCode e ≠ 0) : d.arm e ref = (d.programmed e ref).schedFinal e 5 (d.armCode e) 0 0 := by
  unfold Dev.arm
  dsimp only
  rw [Dev.armCode_setSched, if_pos h]
  rfl

/-- An ARM that no rule refuses and whose time is not too near waits. -/
theorem Dev.armEntry_waits (d : Dev) (e : Nat) (ref : Option CompRef) (hcode : d.armCode e = 0) (htime : ¬(d.schedKind e = 4 ∧ d.schedT e < d.tmb.now + 100 * nsU)) :
    d.arm e ref =
      if d.schedKind e = 1 then
        { (d.programmed e ref).setSched e { (d.programmed e ref).sched e with st := 1 } with
            sys := { d.sys with commitReqs := d.sys.commitReqs ++ [⟨false, none, .entry e, d.stampNow⟩] } }
      else (d.programmed e ref).setSched e { (d.programmed e ref).sched e with st := 1 } := by
  unfold Dev.arm
  dsimp only
  rw [Dev.armCode_setSched, if_neg (fun h => h hcode)]
  exact if_neg htime

/-- An ARM that no rule refuses leaves its entry PENDING, a COMMIT entry with the commit requests (R448). -/
theorem Dev.armEntry_pending (d : Dev) (e : Nat) (ref : Option CompRef) (hcode : d.armCode e = 0) (htime : ¬(d.schedKind e = 4 ∧ d.schedT e < d.tmb.now + 100 * nsU))
    (he : e < d.tmb.sched.length) :
    ((d.arm e ref).sched e).st = 1 ∧ ((d.arm e ref).sched e).ref = ref ∧ (d.arm e ref).rw = d.rw ∧ (d.arm e ref).active = d.active ∧
      (d.arm e ref).sys.commitReqs = if d.schedKind e = 1 then d.sys.commitReqs ++ [⟨false, none, .entry e, d.stampNow⟩] else d.sys.commitReqs := by
  have harm := d.armEntry_waits e ref hcode htime
  have hprog : (d.programmed e ref).sched e = { d.sched e with ref := ref, prog := d.stampNow, late := false, lateNs := 0, result := 0 } := d.setSched_sched e _ he
  have hlen : e < (d.programmed e ref).tmb.sched.length := by rwa [show (d.programmed e ref).tmb.sched.length = d.tmb.sched.length from d.setSched_length e _]
  have hset := (d.programmed e ref).setSched_sched e { (d.programmed e ref).sched e with st := 1 } hlen
  rw [hprog] at hset
  rw [harm, hprog]
  split
  · exact ⟨congrArg Sched.st hset, congrArg Sched.ref hset, rfl, rfl, rfl⟩
  · exact ⟨congrArg Sched.st hset, congrArg Sched.ref hset, rfl, rfl, rfl⟩

/-- An ARM moves no register bank. -/
theorem Dev.armEntry_frame (d : Dev) (e : Nat) (ref : Option CompRef) : (d.arm e ref).rw = d.rw ∧ (d.arm e ref).active = d.active := by
  unfold Dev.arm
  extract_lets y d1 code d2
  split
  · exact (d1.schedFinal_frame e 5 code 0 0).2
  split
  · exact (d1.schedFinal_frame e 4 0 0 0).2
  · split <;> exact ⟨rfl, rfl⟩

/-- CANCEL ends a PENDING entry and takes back its commit request (R450). -/
theorem Dev.schedCancel_pending (d : Dev) (e : Nat) (he : e < d.tmb.sched.length) (hst : (d.sched e).st = 1) :
    ((d.schedCancel e).sched e).st = 6 ∧ (d.schedCancel e).sys.commitReqs = d.sys.commitReqs.filter (fun r => r.origin != .entry e) ∧
      (d.schedCancel e).rw = d.rw ∧ (d.schedCancel e).active = d.active := by
  have hcancel : d.schedCancel e =
      { d.schedFinal e 6 0 0 0 with sys := { (d.schedFinal e 6 0 0 0).sys with commitReqs := (d.schedFinal e 6 0 0 0).sys.commitReqs.filter (fun r => r.origin != .entry e) } } := if_pos hst
  obtain ⟨hsys, hrw, hactive⟩ := d.schedFinal_frame e 6 0 0 0
  rw [hcancel]
  refine ⟨congrArg Sched.st (d.schedFinal_sched e 6 0 0 0 he), ?_, hrw, hactive⟩
  dsimp only
  rw [hsys]

-- Descriptors ------------------------------------------------------------------------------------------------------------------

/-- The values of a descriptor fill the registers of its entry and nothing else (R448). -/
theorem Dev.schedFill_only (d : Dev) (n : Nat) (e : SqEntry) : d.schedFill n e = { d with rw := (d.schedFill n e).rw } := rfl

/-- An ARM from a level that is admitted (R448). -/
theorem exec_schedArm (s : State) (q : Nat) (e : SqEntry) (htakes : s.dev.takesEntry q Op.sched e = true) (hop : sqF e 1 31 28 = 1)
    (hlvl : s.dev.level (some q) ≤ s.dev.schedLevel (sqF e 5 31 28) (sqF e 5 23 0)) :
    exec (.schedArm q e) s = .next { s with dev :=
      if (s.dev.sched (sqF e 1 3 0)).st = 1 then (s.dev.fetched q).complete (s.dev.entryRef q Op.sched e) 0 (if sqF e 5 31 28 = 2 then 9 else 6) 0 (s.dev.schedData (sqF e 1 3 0))
      else ((s.dev.fetched q).schedFill (sqF e 1 3 0) e).arm (sqF e 1 3 0) (some (s.dev.entryRef q Op.sched e)) } := by
  have hform : (sqF e 1 31 28 != 2) = true := by rw [hop]; rfl
  refine (onDev_descForm_takes s q Op.sched e _ (fun x r => x.armReq e r) hform htakes).trans (next_congr s ?_)
  exact if_pos hlvl

theorem Dev.txReq_waits (d : Dev) (e : SqEntry) (r : CompRef) (hlvl : d.level (some r.q) ≤ 1) (hdom : d.domOn 6 = true)
    (hlen : ¬(sqF e 1 27 16 < 60 ∨ 2040 < sqF e 1 27 16)) :
    d.txReq e r = { d with pci := { d.pci with txq := d.pci.txq ++ [⟨r, sqF e 1 1 0, sqF e 1 27 16⟩] } } := by
  unfold Dev.txReq
  simp only [Dev.admitReq_admitted _ _ _ _ _ hlvl, hdom, Bool.not_true, Bool.false_eq_true, if_false, if_neg hlen]

theorem Dev.rxReq_waits (d : Dev) (e : SqEntry) (r : CompRef) (hlvl : d.level (some r.q) ≤ 1) (hdom : d.domOn 6 = true)
    (hport : d.afld R.PCI_ETH_CFG (8 * sqF e 1 1 0 + 4) (8 * sqF e 1 1 0) = r.q) :
    d.rxReq e r = { d with pci := { d.pci with rxbufs := d.pci.rxbufs ++ [⟨r, sqF e 1 1 0, 2048⟩] } } := by
  unfold Dev.rxReq
  simp only [Dev.admitReq_admitted _ _ _ _ _ hlvl, hdom, Bool.not_true, Bool.false_eq_true, if_false, hport, ne_eq, not_true_eq_false]

/-- Settles O55: each request runs on the device that has fetched its entry, and carries the completion it is owed. -/
theorem descriptorRequestsWait : Obligations.DescriptorRequestsWait := by
  refine ⟨fun s q e htakes hlvl => ⟨_, rfl, fun hform => ?commit, fun hform => ?abandon⟩, fun s q e htakes hlvl => ?mode,
    fun s q e htakes hop hlvl => ⟨fun hst => ?armBusy, fun hst hlen => ?arm⟩, fun s q e htakes hop hlen hlvl hst => ?cancel,
    fun s q e trim htakes hincr hstep hlvl htrim hlow hhigh => ?incr, fun s q e htakes hincr hstep hlvl hmode => ?step,
    fun s q e htakes hop hlvl => ?emergency, fun s q e htakes hop hlvl => ?clear, fun s q e htakes hlvl hdom hmin hmax => ?tx, fun s q e htakes hlvl hdom hport => ?rx⟩
  case commit =>
    refine (onDev_descForm_takes s q Op.commit e _ (fun x r => x.commitReq e r) (by rw [hform]; rfl) htakes).trans (next_congr s ?_)
    rw [Dev.commitReq, Dev.admitReq_admitted _ _ _ _ _ hlvl, hform]
  case abandon =>
    refine (onDev_descForm_takes s q Op.commit e _ (fun x r => x.commitReq e r) hform htakes).trans (next_congr s ?_)
    rw [Dev.commitReq, Dev.admitReq_admitted _ _ _ _ _ hlvl, hform]
  case mode =>
    obtain ⟨hreqs, hframe⟩ := (s.dev.fetched q).modeRequest_shows (sqF e 1 3 0) (.desc (s.dev.entryRef q Op.mode e))
    refine ⟨_, (onDev_fetch_takes s q Op.mode e (fun x r => x.modeReqDesc e r) htakes).trans (next_congr s (if_pos hlvl)), hframe, hreqs⟩
  case armBusy =>
    refine ⟨_, exec_schedArm s q e htakes hop hlvl, ?_⟩
    rw [if_pos hst, Dev.complete_only]
    rfl
  case arm =>
    refine ⟨_, _, exec_schedArm s q e htakes hop hlvl, rfl, ?_⟩
    rw [if_neg hst]
    generalize hf : (s.dev.fetched q).schedFill (sqF e 1 3 0) e = f
    have hlen' : sqF e 1 3 0 < f.tmb.sched.length := by rw [← hf]; exact hlen
    have hsys : f.sys = s.dev.sys := by rw [← hf]; rfl
    have hactive : f.active = s.dev.active := by rw [← hf]; rfl
    obtain ⟨hrw, hact⟩ := f.armEntry_frame (sqF e 1 3 0) (some (s.dev.entryRef q Op.sched e))
    refine ⟨hrw, hact.trans hactive, fun hcode => ?_, fun hcode htime => ?_⟩
    · have hplen : sqF e 1 3 0 < (f.programmed (sqF e 1 3 0) (some (s.dev.entryRef q Op.sched e))).tmb.sched.length := by
        rw [Dev.programmed, Dev.setSched_length]
        exact hlen'
      rw [f.armEntry_refused _ _ hcode]
      have hfinal := Dev.schedFinal_sched _ _ 5 (f.armCode (sqF e 1 3 0)) 0 0 hplen
      exact ⟨congrArg Sched.st hfinal, congrArg Sched.result hfinal, (Dev.schedFinal_frame ..).1.trans hsys⟩
    · have htmb : f.tmb.now = s.dev.tmb.now := by rw [← hf]; rfl
      obtain ⟨hst1, href, -, -, hcommits⟩ := f.armEntry_pending (sqF e 1 3 0) (some (s.dev.entryRef q Op.sched e)) hcode (by rw [htmb]; exact htime) hlen'
      have hstamp : f.stampNow = s.dev.stampNow := by rw [← hf]; rfl
      refine ⟨hst1, href, ?_⟩
      rw [hcommits, hsys, hstamp]
  case cancel =>
    have hform : (sqF e 1 31 28 == 2) = true := by rw [hop]; rfl
    obtain ⟨hst6, hcommits, hrw, hactive⟩ := (s.dev.fetched q).schedCancel_pending (sqF e 1 3 0) hlen hst
    have hrun : (s.dev.fetched q).cancelReq e (s.dev.entryRef q Op.sched e) = ((s.dev.fetched q).schedCancel (sqF e 1 3 0)).complete (s.dev.entryRef q Op.sched e) 0
        (((s.dev.fetched q).schedCancel (sqF e 1 3 0)).sched (sqF e 1 3 0)).result (if (s.dev.sched (sqF e 1 3 0)).st == 1 then s.dev.tmb.epoch else 0)
        (((s.dev.fetched q).schedCancel (sqF e 1 3 0)).schedData (sqF e 1 3 0)) := if_pos hlvl
    refine ⟨_, (onDev_descForm_takes s q Op.sched e _ (fun x r => x.cancelReq e r) hform htakes).trans (next_congr s hrun), ?_⟩
    rw [Dev.complete_only]
    exact ⟨hst6, hcommits, hrw, hactive⟩
  case incr =>
    have hform : (bit (sqW e 1) 0 || !(bit (sqW e 1) 1)) = true := by rw [hincr]; rfl
    have hgood : trimBad trim = false := by
      rw [← Bool.not_eq_true, trimBad_iff]
      omega
    have hlvl' : (s.dev.fetched q).level (some (s.dev.entryRef q Op.timeAdj e).q) ≤ 1 := hlvl
    have hrun : (s.dev.fetched q).incrReq e (s.dev.entryRef q Op.timeAdj e) = (s.dev.fetched q).adjIncr (.desc (s.dev.entryRef q Op.timeAdj e)) trim := by
      rw [htrim]
      unfold Dev.incrReq
      dsimp only
      rw [if_neg (Nat.not_lt.2 hlvl'), hstep, if_neg Bool.false_ne_true]
    obtain ⟨hreqs, hframe⟩ := (s.dev.fetched q).adjIncr_good (.desc (s.dev.entryRef q Op.timeAdj e)) trim false hgood
    refine ⟨_, (onDev_descForm_takes s q Op.timeAdj e _ (fun x r => x.incrReq e r) hform htakes).trans (next_congr s hrun), ?_, fun r hr hrate => ?_, ?_⟩
    · rw [hreqs, List.getLast?_concat]
      rfl
    · rw [hreqs, List.dropLast_concat] at hr
      exact (s.dev.fetched q).keptAdjustments_before r hr hrate
    · rw [hframe]
      rfl
  case step =>
    have hform : (!(bit (sqW e 1) 0) && bit (sqW e 1) 1) = true := by rw [hincr, hstep]; rfl
    have hlvl' : (s.dev.fetched q).level (some (s.dev.entryRef q Op.timeAdj e).q) ≤ 1 := hlvl
    have hrun : (s.dev.fetched q).stepReq e (s.dev.entryRef q Op.timeAdj e) = { s.dev.fetched q with tmb := { s.dev.tmb with reqs := s.dev.tmb.reqs ++
        [⟨true, signed 64 (sqD e 4), .desc (s.dev.entryRef q Op.timeAdj e), s.dev.stampNow, false⟩] } } := by
      unfold Dev.stepReq Dev.adjStep
      rw [if_neg (Nat.not_lt.2 hlvl'), if_pos ((stepMode_iff (s.dev.fetched q)).2 hmode)]
      rfl
    exact ⟨_, (onDev_descForm_takes s q Op.timeAdj e _ (fun x r => x.stepReq e r) hform htakes).trans (next_congr s hrun), rfl, rfl⟩
  case emergency =>
    have hform : (sqF e 1 3 0 == 2) = true := by rw [hop]; rfl
    obtain ⟨x, hx⟩ : ∃ x : Dev, x = { s.dev.fetched q with sys := { s.dev.sys with tripRefs := s.dev.sys.tripRefs ++ [(s.dev.stampNow, s.dev.entryRef q Op.trip e)] } } := ⟨_, rfl⟩
    have hrun : (s.dev.fetched q).tripReq Cause.emergency (s.dev.entryRef q Op.trip e) = x.raiseCause Cause.emergency := by
      rw [hx]
      exact if_pos hlvl
    have hcause := x.raiseCause_cause Cause.emergency
    unfold Dev.onlyCause at hcause
    refine ⟨_, (onDev_descForm_takes s q Op.trip e _ (fun x r => x.tripReq Cause.emergency r) hform htakes).trans (next_congr s hrun), x.raiseCause_up Cause.emergency, ?_⟩
    rw [hcause, hx]
    exact ⟨rfl, rfl, rfl⟩
  case clear =>
    have hform : (sqF e 1 3 0 == 3) = true := by rw [hop]; rfl
    exact ⟨_, (onDev_descForm_takes s q Op.trip e _ (fun x r => x.clearReqDesc r) hform htakes).trans (next_congr s (if_pos hlvl)), rfl, rfl⟩
  case tx =>
    have hrun := Dev.txReq_waits (s.dev.fetched q) e (s.dev.entryRef q Op.ethTx e) hlvl hdom (by omega)
    exact ⟨_, (onDev_fetch_takes s q Op.ethTx e (fun x r => x.txReq e r) htakes).trans (next_congr s hrun), rfl, rfl⟩
  case rx =>
    have hrun := Dev.rxReq_waits (s.dev.fetched q) e (s.dev.entryRef q Op.ethRxbuf e) hlvl hdom hport
    exact ⟨_, (onDev_fetch_takes s q Op.ethRxbuf e (fun x r => x.rxReq e r) htakes).trans (next_congr s hrun), rfl, rfl⟩

end Sys2Proof.Machine
end

section
/-! SUPPORT. O54. What helps to prove, apart from what says what the unit does. -/
namespace Sys2Proof.Machine

-- O54: the queues, the messages and the link -------------------------------------------------------------------------------------------

theorem Dev.setQueue_queue (d : Dev) (q : Nat) (x : Queue) (h : q < d.pci.queues.length) : (d.setQueue q x).queue q = x :=
  nth_setAt_self _ q x _ h

theorem Dev.setQueue_queue_ne (d : Dev) (q m : Nat) (x : Queue) (h : m ≠ q) : (d.setQueue q x).queue m = d.queue m :=
  nth_setAt_ne _ q m x _ (Ne.symm h)

theorem Dev.msix_queues (d : Dev) (v : Nat) : (d.msix v).pci.queues = d.pci.queues := by
  unfold Dev.msix
  split <;> rfl

theorem Dev.msix_queue (d : Dev) (v m : Nat) : (d.msix v).queue m = d.queue m := by
  rw [Dev.queue, d.msix_queues v, Dev.queue]

/-- A signal counts for its queue and ends its wait. -/
theorem Dev.signal_queue (d : Dev) (q : Nat) (h : q < d.pci.queues.length) :
    (d.signal q).queue q = { d.queue q with unsig := 0, firstUnsig := none, signals := (d.queue q).signals + 1 } := by
  rw [Dev.signal, Dev.msix_queue, Dev.setQueue_queue d q _ h]

theorem Dev.signal_queue_ne (d : Dev) (q m : Nat) (h : m ≠ q) : (d.signal q).queue m = d.queue m := by
  rw [Dev.signal, Dev.msix_queue, Dev.setQueue_queue_ne d q m _ h]

/-- A queue stopped by a failed access of host memory, its event raised. -/
def Dev.dmaStopped (d : Dev) (q : Nat) : Dev := (d.queueError q 2).raise Sub.pci q (R.PCI_Qq_STATUS q) 0 []

theorem Dev.dmaStopped_queue (d : Dev) (q : Nat) (h : q < d.pci.queues.length) : (d.dmaStopped q).queue q = { d.queue q with st := 2, err := 2 } :=
  d.setQueue_queue q _ h

theorem Dev.dmaStopped_queue_ne (d : Dev) (q m : Nat) (h : m ≠ q) : (d.dmaStopped q).queue m = d.queue m := d.setQueue_queue_ne q m _ h

theorem Dev.dmaStopped_length (d : Dev) (q : Nat) : (d.dmaStopped q).pci.queues.length = d.pci.queues.length := length_setAt ..

theorem exec_dmaError (s : State) (q : Nat) (hq : q < 32) (hst : (s.dev.queue q).st = 1) :
    exec (.dmaError q) s = .next { s with dev := (s.dev.dmaStopped q).signal q } := by
  have hrun : s.dev.unit q 32 (fun x => x.dmaError q) = (s.dev.dmaStopped q).signal q := (if_pos hq).trans (if_neg (not_not.2 hst))
  exact next_congr s hrun

theorem exec_coalescingTime (s : State) (q u : Nat) (hq : q < 32) (hfirst : (s.dev.queue q).firstUnsig = some u)
    (hdue : s.dev.afld (R.PCI_Qq_COAL q) 31 16 ≠ 0 ∧ (s.dev.queue q).unsig ≠ 0 ∧ u + s.dev.afld (R.PCI_Qq_COAL q) 31 16 * usU ≤ s.dev.tmb.up) :
    exec (.coalescingTime q) s = .next { s with dev := s.dev.signal q } := by
  have hrun : s.dev.coalesce q = s.dev.signal q := by
    unfold Dev.coalesce
    simp only [hfirst]
    exact if_pos hdue
  exact next_congr s ((if_pos hq).trans hrun)

/-- The write of a word of the MSI-X table: it unmasks a vector with a message pending, or stores its word. -/
theorem Dev.msixWrite_opens (d : Dev) (i : Nat) (v : Word) (hi : i < 256) (hopen : i % 4 = 3 ∧ bit v 0 = false ∧ d.pci.msixPending.testBit (i / 4) = true) :
    d.msixWrite i v = { d with pci := { d.pci with
      msixTable := setAt d.pci.msixTable i v, msixPending := d.pci.msixPending - 2 ^ (i / 4), msixSent := modAt d.pci.msixSent (i / 4) (· + 1) } } := by
  unfold Dev.msixWrite
  rw [if_neg (by omega)]
  exact if_pos (by simp [hopen])

theorem Dev.msixWrite_stores (d : Dev) (i : Nat) (v : Word) (hi : i < 256) (hshut : ¬(i % 4 = 3 ∧ bit v 0 = false ∧ d.pci.msixPending.testBit (i / 4) = true)) :
    d.msixWrite i v = { d with pci := { d.pci with msixTable := setAt d.pci.msixTable i v } } := by
  unfold Dev.msixWrite
  rw [if_neg (by omega)]
  exact if_neg (by simpa [and_assoc] using hshut)

theorem exec_msixTableWrite (s : State) (i : Nat) (v : Word) (hi : i < 256) (hpow : s.dev.unpowered = false) :
    exec (.msixTableWrite i v) s = .next { s with dev := s.dev.msixWrite i v } :=
  (if_pos (by omega)).trans (next_congr s (Dev.powered_on s.dev (fun x => x.msixWrite i v) hpow))

/-- Settles O54. That bit 0 of the fourth word of a table entry is its mask is the model's choice (log 122), and so are the writes of other indices (log 41). -/
theorem linkAndInterrupts : Obligations.LinkAndInterrupts := by
  refine ⟨fun s q hq hlen hst => ?dma, fun s q u hq hlen hfirst htime hunsig hdue => ?coal, fun s i v hi hpow => ?msix, fun s hpow => ?down, fun s speed width hpow => ?up⟩
  case dma =>
    have hlen' : q < (s.dev.dmaStopped q).pci.queues.length := by rwa [s.dev.dmaStopped_length q]
    have honly : s.dev.onlyPci ((s.dev.dmaStopped q).signal q) := Dev.onlyPci_trans (b := s.dev.dmaStopped q) rfl (Dev.signal_only _ q)
    refine ⟨_, exec_dmaError s q hq hst, honly, ?_, ?_, fun m hm => ?_, ?_, ?_⟩
    · rw [Dev.signal_queue _ q hlen', s.dev.dmaStopped_queue q hlen]
    · rw [Dev.signal_queue _ q hlen', s.dev.dmaStopped_queue q hlen]
    · rw [Dev.signal_queue_ne _ q m hm, s.dev.dmaStopped_queue_ne q m hm]
    · rw [Dev.signal_queue _ q hlen', s.dev.dmaStopped_queue q hlen]
    · rw [Dev.signal_queue _ q hlen', s.dev.dmaStopped_queue q hlen]
  case coal =>
    exact ⟨_, exec_coalescingTime s q u hq hfirst ⟨htime, hunsig, hdue⟩, s.dev.signal_only q, s.dev.signal_queue q hlen, fun m hm => s.dev.signal_queue_ne q m hm⟩
  case msix =>
    refine ⟨_, exec_msixTableWrite s i v hi hpow, ?_⟩
    by_cases hopen : i % 4 = 3 ∧ bit v 0 = false ∧ s.dev.pci.msixPending.testBit (i / 4) = true
    · rw [s.dev.msixWrite_opens i v hi hopen]
      exact ⟨rfl, fun _ _ hp => ⟨Nat.sub_add_cancel (Nat.ge_two_pow_of_testBit hp), rfl⟩, fun h => absurd hopen h⟩
    · rw [s.dev.msixWrite_stores i v hi hopen]
      exact ⟨rfl, fun h1 h2 h3 => absurd ⟨h1, h2, h3⟩ hopen, fun _ => ⟨rfl, rfl⟩⟩
  case down =>
    have hrun : s.dev.linkDown = { s.dev with pci := s.dev.linkDown.pci } ∧ s.dev.linkDown.pci.up = false ∧ s.dev.linkDown.pci.linkReset = true ∧
        s.dev.linkDown.pci.downCnt = sat16 s.dev.pci.downCnt 1 ∧ s.dev.linkDown.pci.queues = s.dev.pci.queues := by
      simp [Dev.linkDown, hpow]
    exact ⟨_, rfl, hrun⟩
  case up =>
    exact next_congr s (if_neg (by rw [hpow]; exact Bool.false_ne_true))

end Sys2Proof.Machine
end

section
/-! SUPPORT. O23, O24. The trip latch at step 1 of the boundary, and the events that raise causes (R128, R130, R131). -/
namespace Sys2Proof.Machine

-- Bitmaps ------------------------------------------------------------------------------------------------------------------------------

theorem bitmap_succ (k : Nat) (f : Nat → Bool) : bitmap (k + 1) f = 2 ^ k * b2n (f k) + bitmap k f := by
  simp [bitmap, List.range_succ, Nat.add_comm, Nat.mul_comm]

theorem bitmap_lt (k : Nat) (f : Nat → Bool) : bitmap k f < 2 ^ k := by
  induction k with
  | zero => simp [bitmap]
  | succ k ih =>
    have hb : b2n (f k) ≤ 1 := by cases f k <;> decide
    have hm : 2 ^ k * b2n (f k) ≤ 2 ^ k * 1 := Nat.mul_le_mul_left _ hb
    rw [bitmap_succ, Nat.pow_succ]
    omega

theorem b2n_testBit_zero (b : Bool) : (b2n b).testBit 0 = b := by cases b <;> rfl

/-- Bit `n` of a bitmap of `k` bits is what its function says of `n`. -/
theorem testBit_bitmap (k n : Nat) (f : Nat → Bool) (hn : n < k) : (bitmap k f).testBit n = f n := by
  induction k with
  | zero => omega
  | succ k ih =>
    rw [bitmap_succ, Nat.testBit_two_pow_mul_add _ (bitmap_lt k f)]
    split
    case isTrue hlt => exact ih hlt
    case isFalse hge => rw [show n = k by omega, Nat.sub_self, b2n_testBit_zero]

-- O23: the latch at step 1 -------------------------------------------------------------------------------------------------------------

/-- A cause of bit `n` was raised before station time `b`. -/
def Sys.newCause (s : Sys) (b n : Nat) : Bool := (s.causesBefore b).any (fun r => r.bit == n)

theorem Sys.newCause_iff (s : Sys) (b n : Nat) : s.newCause b n = true ↔ ∃ r ∈ s.raised, r.bit = n ∧ r.stamp < b := by
  simp [Sys.newCause, Sys.causesBefore, and_comm]

theorem Sys.clearsBefore_isEmpty (s : Sys) (b : Nat) : (s.clearsBefore b).isEmpty = s.tripClears.all (fun c => decide (b ≤ c.1)) := by
  rw [Bool.eq_iff_iff, List.isEmpty_iff, Sys.clearsBefore, List.filter_eq_nil_iff, List.all_eq_true]
  exact forall₂_congr (fun c _ => by simp)

/-- The causes latched at station time `b`, and those of them that stay latched. -/
def Dev.latchedAt (d : Dev) (b : Nat) : Nat := d.sys.tripCause ||| bitmap 12 (d.sys.newCause b)

def Dev.keptAt (d : Dev) (b : Nat) : Nat :=
  bitmap 12 (fun n => (d.latchedAt b).testBit n && ((d.sys.clearsBefore b).isEmpty || (bitmap 12 (d.sys.newCause b)).testBit n || d.causePresent n))

theorem Dev.protectStep_latches (d : Dev) (b : Nat) :
    (d.protectStep b).sys.tripCause = d.keptAt b ∧ (d.protectStep b).sys.raised = d.sys.raised.filter (fun r => !decide (r.stamp < b)) ∧
    (d.protectStep b).sys.tripClears = d.sys.tripClears.filter (fun c => !decide (c.1 < b)) ∧ (d.protectStep b).sys.mode = d.sys.mode := by
  unfold Dev.protectStep
  dsimp only
  split
  · rw [(Dev.ddpUnforce_steady _).1]
    exact ⟨rfl, rfl, rfl, rfl⟩
  · exact ⟨rfl, rfl, rfl, rfl⟩

theorem Dev.testBit_keptAt (d : Dev) (b n : Nat) (hn : n < 12) :
    (d.keptAt b).testBit n = ((d.sys.tripCause.testBit n || d.sys.newCause b n) &&
      (d.sys.tripClears.all (fun c => decide (b ≤ c.1)) || d.sys.newCause b n || d.causePresent n)) := by
  rw [Dev.keptAt, testBit_bitmap 12 n _ hn, Dev.latchedAt, Nat.testBit_or, testBit_bitmap 12 n _ hn, Sys.clearsBefore_isEmpty]

/-- Settles O23. -/
theorem causesLatchAndClear : Obligations.CausesLatchAndClear := by
  intro d b n hn
  obtain ⟨hcause, hraised, hclears, hmode⟩ := d.protectStep_latches b
  refine ⟨d.sys.newCause b n, d.sys.newCause_iff b n, by rw [hcause, d.testBit_keptAt b n hn], ?_, ?_, hmode⟩
  · simp only [hraised, ← decide_not, Nat.not_lt]
  · simp only [hclears, ← decide_not, Nat.not_lt]

-- O24: the events that raise causes ----------------------------------------------------------------------------------------------------

theorem Dev.raiseCause_raises (x : Dev) (bit : Nat) : x.onlyCause (x.raiseCause bit) ∧ (x.raiseCause bit).causeUp bit = true :=
  ⟨x.raiseCause_cause bit, x.raiseCause_up bit⟩

/-- Settles O24. -/
theorem protectiveEventsRaiseCauses : Obligations.ProtectiveEventsRaiseCauses := by
  refine ⟨fun s hpow hmode => ?low, fun s hboot => ?lowBoot, fun s => rfl, fun s hrun => ?overrun, fun s hmode h3 h4 htime => ?precharge,
    fun s hmode hok hcount => ?exit, fun s hmode htime => ?limit, fun s hopen => ?clear⟩
  case low =>
    have hrun : s.dev.emblkLow = s.dev.emblk := if_neg (by rw [hpow]; simpa using hmode)
    exact ⟨_, next_congr s hrun, Dev.raiseCause_raises _ _⟩
  case lowBoot => exact next_congr s (if_pos (Or.inr hboot))
  case overrun => exact ⟨_, next_congr s (if_pos hrun), Dev.raiseCause_raises _ _⟩
  case precharge =>
    have hdue : s.dev.prcTimeout = s.dev.prcAbort Cause.prechargeTimeout := if_pos ⟨h3, htime⟩
    exact ⟨_, next_congr s (hdue.trans (if_pos ⟨hmode, h4⟩)), Dev.raiseCause_raises _ _⟩
  case exit =>
    have hends : s.dev.frtEnds s.dev.frtOk = true := by simp [Dev.frtEnds, hmode, hok, hcount]
    exact next_congr s (if_pos hends)
  case limit =>
    have hlate : s.dev.frtLate = true := by simp [Dev.frtLate, hmode, htime]
    exact next_congr s (if_pos hlate)
  case clear => exact onDev_bar0Cmd_open s R.SYS_TRIP_CTRL 1 _ hopen

end Sys2Proof.Machine
end

section
/-! SUPPORT. O50, O51. The drive pairs: what a tick makes of a pair (R465–R472), undervoltage and the off-state test (R461, R475–R477). -/
namespace Sys2Proof.Machine

-- Pairs: one is replaced, the others stay ----------------------------------------------------------------------------------------------

theorem Dev.setPair_pair (d : Dev) (n : Nat) (p : Pair) (h : n < d.ddp.pairs.length) : (d.setPair n p).pair n = p := nth_setAt_self _ n p _ h

theorem Dev.setPair_pair_ne (d : Dev) (n m : Nat) (p : Pair) (h : m ≠ n) : (d.setPair n p).pair m = d.pair m := nth_setAt_ne _ n m p _ (Ne.symm h)

/-- A pair that does not stand reads as the default, whatever is written to it. -/
theorem Dev.setPair_pair_out (d : Dev) (n : Nat) (p : Pair) (h : d.ddp.pairs.length ≤ n) : (d.setPair n p).pair n = {} := by
  unfold Dev.pair Dev.setPair
  rw [nth_setAt_out _ n p _ h]
  simp [nth, h]

theorem Dev.pair_congr {a b : Dev} (h : a.ddp = b.ddp) (n : Nat) : a.pair n = b.pair n := by rw [Dev.pair, h, Dev.pair]

-- What a tick makes of a pair ----------------------------------------------------------------------------------------------------------

/-- Both outputs off, the commands noted. -/
def Dev.pairOff (d : Dev) (n : Nat) (p : Pair) : Pair := { p.off d.tmb.up with cmdH := (d.pairCmd n).1, cmdL := (d.pairCmd n).2 }

/-- Both commands of an independent pair are on (R467). -/
def Dev.pairConflict (d : Dev) (n : Nat) : Bool := decide (fld (d.pairCfg n) 29 28 = 2) && (d.pairCmd n).1 && (d.pairCmd n).2

/-- An enabled pair trips in this tick. -/
def Dev.pairTrips (d : Dev) (n : Nat) (p : Pair) : Bool := p.hocOn (d.pairCfg n) || p.desatDue (d.pairCfg n) d.tmb.up || d.pairConflict n

/-- A pair that has tripped from `c`, `ds` and `hoc`. -/
def Dev.pairTripped (d : Dev) (p : Pair) (c ds hoc : Bool) : Pair :=
  { p.off d.tmb.up with st := 3, conflict := p.conflict || c, desat := p.desat || ds, hocTrip := p.hocTrip || hoc
                        trips := sat16 p.trips 1, tripNs := tNs d.stampNow, tripAt := some d.stampNow }

/-- Pair `n` after a tick that finds it as `p`. -/
def Dev.pairNext (d : Dev) (n : Nat) (p : Pair) : Pair :=
  if p.st ≠ 2 then d.pairOff n p
  else if d.pairTrips n p then d.pairTripped p (d.pairConflict n) (p.desatDue (d.pairCfg n) d.tmb.up) (p.hocOn (d.pairCfg n))
  else if d.ddHeld || d.forced n then d.pairOff n p
  else p.drive (d.pairCfg n) d.tmb.up (d.pairCmd n).1 (d.pairCmd n).2

theorem Dev.tripEvent_ddp (d : Dev) : d.tripEvent.ddp = d.ddp := by
  unfold Dev.tripEvent
  dsimp only
  split
  · rfl
  · rw [Dev.trigger_ddp]
    rfl

theorem Dev.tripEvent_sticky (d : Dev) : d.tripEvent.sticky = d.sticky := by
  unfold Dev.tripEvent
  dsimp only
  split
  · rfl
  · rw [Dev.trigger_sticky]
    rfl

theorem Dev.pairTick_ddp (d : Dev) (n : Nat) : (d.pairTick n).ddp = { d.ddp with pairs := setAt d.ddp.pairs n (d.pairNext n (d.pair n)) } := by
  unfold Dev.pairTick Dev.pairNext Dev.pairTrips Dev.pairConflict
  dsimp only
  split
  · rfl
  split
  · unfold Dev.tripPair
    rw [Dev.tripEvent_ddp]
    rfl
  split <;> rfl

/-- A pair after its tick, and the others. -/
theorem Dev.pairTick_pair (d : Dev) (n : Nat) (h : n < d.ddp.pairs.length) : (d.pairTick n).pair n = d.pairNext n (d.pair n) := by
  rw [Dev.pair, d.pairTick_ddp n]
  exact nth_setAt_self _ n _ _ h

theorem Dev.pairTick_pair_ne (d : Dev) (n m : Nat) (h : m ≠ n) : (d.pairTick n).pair m = d.pair m := by
  rw [Dev.pair, d.pairTick_ddp n]
  exact nth_setAt_ne _ n m _ _ (Ne.symm h)

/-- An input of pair `n` changes, which makes it `p`, and the pair has its tick. -/
theorem Dev.setPair_pairTick (d : Dev) (n : Nat) (p : Pair) (h : n < d.ddp.pairs.length) :
    ((d.setPair n p).pairTick n).sys = d.sys ∧ (∀ m, m ≠ n → ((d.setPair n p).pairTick n).pair m = d.pair m) ∧ ((d.setPair n p).pairTick n).pair n = d.pairNext n p := by
  refine ⟨Dev.pairTick_sys _ n, fun m hm => ?_, ?_⟩
  · rw [Dev.pairTick_pair_ne _ n m hm, d.setPair_pair_ne n m p hm]
  · have hlen : n < (d.setPair n p).ddp.pairs.length := by simpa [length_setAt] using h
    rw [Dev.pairTick_pair _ n hlen, d.setPair_pair n p h]
    rfl

/-- A tick leaves the inputs of a pair as they are. -/
theorem Dev.pairNext_inputs (d : Dev) (n : Nat) (p : Pair) : (d.pairNext n p).hoc = p.hoc ∧ (d.pairNext n p).ds = p.ds ∧ (d.pairNext n p).dsFrom = p.dsFrom := by
  unfold Dev.pairNext
  split
  · exact ⟨rfl, rfl, rfl⟩
  split
  · exact ⟨rfl, rfl, rfl⟩
  split <;> exact ⟨rfl, rfl, rfl⟩

theorem Dev.pairNext_idle (d : Dev) (n : Nat) (p : Pair) (hst : p.st ≠ 2) : d.pairNext n p = d.pairOff n p := if_pos hst

theorem Dev.pairNext_trips (d : Dev) (n : Nat) (p : Pair) (hst : p.st = 2) (htrip : d.pairTrips n p = true) :
    d.pairNext n p = d.pairTripped p (d.pairConflict n) (p.desatDue (d.pairCfg n) d.tmb.up) (p.hocOn (d.pairCfg n)) := by
  unfold Dev.pairNext
  rw [if_neg (not_not.2 hst), if_pos htrip]

/-- A pair that does not trip keeps its state. -/
theorem Dev.pairNext_st (d : Dev) (n : Nat) (p : Pair) (htrip : d.pairTrips n p = false) : (d.pairNext n p).st = p.st := by
  unfold Dev.pairNext
  rw [htrip]
  split
  · rfl
  rw [if_neg Bool.false_ne_true]
  split <;> rfl

/-- Blanking begins when an output goes on, and runs on only while one is on. -/
theorem Pair.drive_blankEnd (cfg : Word) (t : Nat) (cH cL : Bool) (p : Pair) :
    ∃ on keep : Bool, (p.drive cfg t cH cL).blankEnd = if on then some (t + fld cfg 15 12 * 500 * nsU) else if keep then p.blankEnd else none := ⟨_, _, rfl⟩

theorem Pair.drive_blank (cfg : Word) (t : Nat) (cH cL : Bool) (p : Pair) (hp : p.blankEnd = none) (e : Nat) (h : (p.drive cfg t cH cL).blankEnd = some e) : t ≤ e := by
  obtain ⟨on, keep, hblank⟩ := p.drive_blankEnd cfg t cH cL
  rw [hblank, hp, ite_self] at h
  cases on with
  | true =>
    have hsome := Option.some.inj h
    omega
  | false => exact absurd h (by simp)

theorem Dev.pairNext_blank (d : Dev) (n : Nat) (p : Pair) (hp : p.blankEnd = none) (e : Nat) (h : (d.pairNext n p).blankEnd = some e) : d.tmb.up ≤ e := by
  unfold Dev.pairNext at h
  split at h
  · exact absurd h (by simp [Dev.pairOff, Pair.off])
  split at h
  · exact absurd h (by simp [Dev.pairTripped, Pair.off])
  split at h
  · exact absurd h (by simp [Dev.pairOff, Pair.off])
  · exact Pair.drive_blank _ _ _ _ p hp e h

-- O50 ----------------------------------------------------------------------------------------------------------------------------------

/-- The dead time is more than nothing. -/
theorem deadTime_pos (k : Nat) : 0 < 1000 * 2 ^ k * nsU := by
  have h2 : 0 < 2 ^ k := Nat.two_pow_pos k
  have hns : 0 < nsU := by decide
  positivity

/-- An output that goes on finds the other one off, for the dead time at least; and never both are on (R465). -/
theorem Pair.drive_interlocks (cfg : Word) (t : Nat) (cH cL : Bool) (p q : Pair) (hq : q = p.drive cfg t cH cL) :
    q.st = p.st ∧ (q.h = true → cH = true) ∧ (q.l = true → cL = true) ∧ (¬(p.h = true ∧ p.l = true) → ¬(q.h = true ∧ q.l = true)) ∧
    (p.h = false → q.h = true → p.l = false ∧ p.offL + 1000 * 2 ^ fld cfg 31 30 * nsU ≤ t) ∧
    (p.l = false → q.l = true → p.h = false ∧ p.offH + 1000 * 2 ^ fld cfg 31 30 * nsU ≤ t) := by
  have hdead := deadTime_pos (fld cfg 31 30)
  generalize hx : 1000 * 2 ^ fld cfg 31 30 * nsU = dead at *
  have hlate : ¬(t + dead ≤ t) := by omega
  subst hq
  unfold Pair.drive
  cases cH <;> cases cL <;> cases p.h <;> cases p.l <;> simp [hx, hlate]
  exact fun hle hlt => absurd hle (Nat.not_le.2 hlt)

theorem Dev.pairTick_drives (d : Dev) (n : Nat) (hst : (d.pair n).st = 2) (htrip : d.pairTrips n (d.pair n) = false) (hheld : d.ddHeld = false) (hforced : d.forced n = false) :
    d.pairTick n = d.setPair n ((d.pair n).drive (d.pairCfg n) d.tmb.up (d.pairCmd n).1 (d.pairCmd n).2) := by
  unfold Dev.pairTick
  unfold Dev.pairTrips Dev.pairConflict at htrip
  simp only [hst, ne_eq, not_true_eq_false, if_false, htrip, hheld, hforced, Bool.or_self, Bool.false_eq_true]

/-- The latch of a trip. -/
theorem Dev.pairTick_sticky (d : Dev) (n : Nat) (hn : n < 12) (hst : (d.pair n).st = 2) (htrip : d.pairTrips n (d.pair n) = true) :
    ((d.pairTick n).stk R.DDP_TRIP_STICKY).getLsbD n = true := by
  have hbit : (word (2 ^ n)).getLsbD n = true := by
    interval_cases n <;> decide
  unfold Dev.pairTrips Dev.pairConflict at htrip
  unfold Dev.pairTick
  simp only [hst, ne_eq, not_true_eq_false, if_false, htrip, if_true]
  unfold Dev.tripPair Dev.stk
  rw [Dev.tripEvent_sticky]
  exact Dev.setSticky_bit _ _ n _ hbit

theorem exec_hoc (s : State) (n : Nat) (hn : n < 12) :
    exec (.hoc n) s = .next { s with dev := (s.dev.setPair n { s.dev.pair n with hoc := !bit (s.dev.pairCfg n) 24 }).pairTick n } := next_congr s (if_pos hn)

theorem exec_dsInputChange (s : State) (n : Nat) (level : Bool) (hn : n < 12) :
    exec (.dsInputChange n level) s = .next { s with dev := (s.dev.setPair n ({ s.dev.pair n with ds := level }.dsAgain (s.dev.pairCfg n) s.dev.tmb.up)).pairTick n } :=
  next_congr s (if_pos hn)

theorem exec_pairTicks (s : State) (n : Nat) (hn : n < 12) :
    exec (.desatTrip n) s = .next { s with dev := s.dev.pairTick n } ∧ exec (.ddpCommandEdge n) s = .next { s with dev := s.dev.pairTick n } ∧
    exec (.deadTimeEnd n) s = .next { s with dev := s.dev.pairTick n } :=
  ⟨next_congr s (if_pos hn), next_congr s (if_pos hn), next_congr s (if_pos hn)⟩

theorem exec_blankingEnd (s : State) (n e : Nat) (hn : n < 12) (hblank : (s.dev.pair n).blankEnd = some e) (hdue : e ≤ s.dev.tmb.up) :
    exec (.blankingEnd n) s = .next { s with dev := (s.dev.setPair n { s.dev.pair n with blankEnd := none, dsFrom := (s.dev.pair n).dsFrom.map (max e) }).pairTick n } := by
  have hrun : s.dev.blankOver n = (s.dev.setPair n { s.dev.pair n with blankEnd := none, dsFrom := (s.dev.pair n).dsFrom.map (max e) }).pairTick n := by
    unfold Dev.blankOver
    simp only [hblank]
    exact if_pos hdue
  exact next_congr s ((if_pos hn).trans hrun)

/-- Settles O50. -/
theorem drivePairsTripAndInterlock : Obligations.DrivePairsTripAndInterlock := by
  refine ⟨fun s n hn hlen => ?hoc, fun s n hn => next_congr s (if_pos hn), fun s n level hn hlen => ?ds, fun s n hn hlen hst hdue => ?desat, fun s n e hn hlen hblank hdue => ?blank,
    fun s n hn hlen hst hhoc hds hheld hforced hconf => ?drive, fun s n hn hlen hst htype hcH hcL => ?conflict⟩
  case hoc =>
    obtain ⟨p, hp⟩ : ∃ p : Pair, p = { s.dev.pair n with hoc := !bit (s.dev.pairCfg n) 24 } := ⟨_, rfl⟩
    have hon : p.hocOn (s.dev.pairCfg n) = true := by rw [hp]; simp [Pair.hocOn]
    have htrips : s.dev.pairTrips n p = true := by simp [Dev.pairTrips, hon]
    have hpst : p.st = (s.dev.pair n).st := by rw [hp]
    obtain ⟨hsys, hne, hpair⟩ := s.dev.setPair_pairTick n p hlen
    obtain ⟨hhoc, -, -⟩ := s.dev.pairNext_inputs n p
    refine ⟨_, exec_hoc s n hn, ?_⟩
    rw [← hp]
    refine ⟨hsys, hne, ?_⟩
    rw [hpair]
    refine ⟨by rw [Pair.hocOn, hhoc]; exact hon, ?_⟩
    by_cases hst : (s.dev.pair n).st = 2
    · rw [s.dev.pairNext_trips n p (hpst.trans hst) htrips, hon]
      exact ⟨rfl, rfl, fun _ => ⟨rfl, Bool.or_true _, by rw [hp]; rfl⟩, fun h => absurd hst h⟩
    · rw [s.dev.pairNext_idle n p (hpst ▸ hst)]
      exact ⟨rfl, rfl, fun h => absurd h hst, fun _ => hpst⟩
  case ds =>
    obtain ⟨p, hp⟩ : ∃ p : Pair, p = { s.dev.pair n with ds := level }.dsAgain (s.dev.pairCfg n) s.dev.tmb.up := ⟨_, rfl⟩
    obtain ⟨hsys, hne, hpair⟩ := s.dev.setPair_pairTick n p hlen
    obtain ⟨-, hds, hfrom⟩ := s.dev.pairNext_inputs n p
    refine ⟨_, exec_dsInputChange s n level hn, ?_⟩
    rw [← hp]
    refine ⟨hsys, hne, ?_⟩
    rw [hpair]
    refine ⟨by rw [hds, hp]; rfl, by rw [hfrom, hp]; simp [Pair.dsAgain], fun hlevel hhoc htype => ?_⟩
    have hquiet : s.dev.pairTrips n p = false := by
      have hoff : p.hocOn (s.dev.pairCfg n) = false := by rw [hp]; exact hhoc
      have hnone : p.dsFrom = none := by rw [hp]; simp [Pair.dsAgain, hlevel]
      simp [Dev.pairTrips, Dev.pairConflict, hoff, htype, Pair.desatDue, hnone]
    rw [s.dev.pairNext_st n p hquiet, hp]
    rfl
  case desat =>
    have htrips : s.dev.pairTrips n (s.dev.pair n) = true := by simp [Dev.pairTrips, hdue]
    refine ⟨_, (exec_pairTicks s n hn).1, Dev.pairTick_sys _ n, fun m hm => s.dev.pairTick_pair_ne n m hm, ?_⟩
    rw [s.dev.pairTick_pair n hlen, s.dev.pairNext_trips n _ hst htrips, hdue]
    exact ⟨rfl, Bool.or_true _, rfl, rfl, s.dev.pairTick_sticky n hn hst htrips⟩
  case blank =>
    obtain ⟨hsys, hne, hpair⟩ := s.dev.setPair_pairTick n { s.dev.pair n with blankEnd := none, dsFrom := (s.dev.pair n).dsFrom.map (max e) } hlen
    obtain ⟨-, -, hfrom⟩ := s.dev.pairNext_inputs n { s.dev.pair n with blankEnd := none, dsFrom := (s.dev.pair n).dsFrom.map (max e) }
    refine ⟨_, exec_blankingEnd s n e hn hblank hdue, hsys, hne, ?_⟩
    rw [hpair]
    exact ⟨hfrom, fun t ht => s.dev.pairNext_blank n _ rfl t ht⟩
  case drive =>
    have htrips : s.dev.pairTrips n (s.dev.pair n) = false := by
      have hnone : s.dev.pairConflict n = false := by
        rw [Dev.pairConflict, Bool.eq_false_iff]
        intro h
        simp only [Bool.and_eq_true, decide_eq_true_eq, and_assoc] at h
        exact hconf h
      simp [Dev.pairTrips, hhoc, hds, hnone]
    have hrun := s.dev.pairTick_drives n hst htrips hheld hforced
    obtain ⟨-, hedge, hdead⟩ := exec_pairTicks s n hn
    obtain ⟨hst', hrest⟩ := Pair.drive_interlocks (s.dev.pairCfg n) s.dev.tmb.up (s.dev.pairCmd n).1 (s.dev.pairCmd n).2 (s.dev.pair n) _ rfl
    exact ⟨_, hedge.trans (next_congr s hrun), hdead.trans (next_congr s hrun), hst'.trans hst, hrest⟩
  case conflict =>
    have hboth : s.dev.pairConflict n = true := by simp [Dev.pairConflict, htype, hcH, hcL]
    have htrips : s.dev.pairTrips n (s.dev.pair n) = true := by simp [Dev.pairTrips, hboth]
    refine ⟨_, (exec_pairTicks s n hn).2.1, ?_⟩
    rw [s.dev.pairTick_pair n hlen, s.dev.pairNext_trips n _ hst htrips, hboth]
    exact ⟨rfl, Bool.or_true _, rfl, rfl, Dev.pairTick_sys _ n⟩

-- O51 ----------------------------------------------------------------------------------------------------------------------------------

/-- Ticks of the pairs leave the rest of the direct drives as it is. -/
theorem Dev.ddpTick_ddp (d : Dev) : ∃ ps, d.ddpTick.ddp = { d.ddp with pairs := ps } :=
  foldl_keeps (fun y => ∃ ps, y.ddp = { d.ddp with pairs := ps }) Dev.pairTick (fun y n ⟨ps, hy⟩ => ⟨_, (y.pairTick_ddp n).trans (by rw [hy])⟩) (List.range 12) d ⟨_, rfl⟩

/-- Both outputs of pair `n` are off. -/
def Dev.outputsOff (d : Dev) (n : Nat) : Prop := (d.pair n).h = false ∧ (d.pair n).l = false

/-- Under undervoltage a tick leaves both outputs of its pair off. -/
theorem Dev.pairNext_uvlo (d : Dev) (n : Nat) (p : Pair) (huvlo : d.ddp.uvlo = true) : (d.pairNext n p).h = false ∧ (d.pairNext n p).l = false := by
  have hforced : (d.ddHeld || d.forced n) = true := by simp [Dev.forced, huvlo]
  unfold Dev.pairNext
  split
  · exact ⟨rfl, rfl⟩
  split
  · exact ⟨rfl, rfl⟩
  exact ⟨rfl, rfl⟩

theorem Dev.pairTick_uvlo (d : Dev) (n : Nat) (huvlo : d.ddp.uvlo = true) : (d.pairTick n).outputsOff n := by
  by_cases hlen : n < d.ddp.pairs.length
  · rw [Dev.outputsOff, d.pairTick_pair n hlen]
    exact d.pairNext_uvlo n _ huvlo
  · have hout : (d.pairTick n).pair n = {} := by
      rw [Dev.pair, d.pairTick_ddp n]
      exact (d.setPair_pair_out n _ (Nat.not_lt.1 hlen))
    rw [Dev.outputsOff, hout]
    exact ⟨rfl, rfl⟩

/-- Ticks of the pairs `ns` under undervoltage leave their outputs off. -/
theorem Dev.ticks_uvlo (ns : List Nat) (d : Dev) (huvlo : d.ddp.uvlo = true) (n : Nat) (hn : n ∈ ns ∨ d.outputsOff n) : (ns.foldl Dev.pairTick d).outputsOff n := by
  induction ns generalizing d with
  | nil => exact hn.resolve_left List.not_mem_nil
  | cons m ns ih =>
    have hstays : (d.pairTick m).ddp.uvlo = true := by rw [d.pairTick_ddp m]; exact huvlo
    refine ih (d.pairTick m) hstays ?_
    by_cases hm : n = m
    · exact Or.inr (hm ▸ d.pairTick_uvlo m huvlo)
    · refine hn.imp (fun h => (List.mem_cons.1 h).resolve_left hm) (fun h => ?_)
      rw [Dev.outputsOff, d.pairTick_pair_ne m n hm]
      exact h

/-- `b` has pair `n` of `a`, but for the times its outputs went off. -/
def Dev.pairKept (a b : Dev) (n : Nat) : Prop := ∃ h l, b.pair n = { a.pair n with offH := h, offL := l }

theorem Dev.setPair_kept (d : Dev) (m n h l : Nat) : d.pairKept (d.setPair m { d.pair m with offH := h, offL := l }) n := by
  by_cases hm : n = m
  · subst hm
    by_cases hlen : n < d.ddp.pairs.length
    · exact ⟨h, l, d.setPair_pair n _ hlen⟩
    · refine ⟨(d.pair n).offH, (d.pair n).offL, ?_⟩
      rw [d.setPair_pair_out n _ (Nat.not_lt.1 hlen)]
      simp [Dev.pair, nth, List.getElem?_eq_none (Nat.not_lt.1 hlen)]
  · exact ⟨_, _, d.setPair_pair_ne m n _ hm⟩

theorem Dev.pairKept_trans {a b c : Dev} {n : Nat} (hab : a.pairKept b n) (hbc : b.pairKept c n) : a.pairKept c n := by
  obtain ⟨h, l, hb⟩ := hab
  obtain ⟨h', l', hc⟩ := hbc
  exact ⟨h', l', by rw [hc, hb]⟩

/-- `b` is `a` but for the drive pairs. -/
def Dev.onlyPairs (a b : Dev) : Prop := b = { a with ddp := { a.ddp with pairs := b.ddp.pairs } }

theorem Dev.onlyPairs_trans {a b c : Dev} (hab : a.onlyPairs b) (hbc : b.onlyPairs c) : a.onlyPairs c := by
  unfold Dev.onlyPairs at *
  rw [hbc, hab]

theorem Dev.released_shows (d o : Dev) : d.onlyPairs (d.released o) ∧ ∀ n, d.pairKept (d.released o) n :=
  foldl_keeps (fun y => d.onlyPairs y ∧ ∀ n, d.pairKept y n) _ (fun y m hy => by
    dsimp only
    split
    · exact ⟨Dev.onlyPairs_trans hy.1 rfl, fun n => Dev.pairKept_trans (hy.2 n) (y.setPair_kept m n _ _)⟩
    · exact hy) (List.range 12) d ⟨rfl, fun n => ⟨_, _, rfl⟩⟩

/-- Release of undervoltage: the hold is over, the dead times are counted anew. -/
def Dev.uvloOver (d : Dev) : Dev := ({ d with ddp := { d.ddp with uvlo := false } }).released d

/-- A test that waited for the release begins. -/
def Dev.waitingTest (d : Dev) (n : Nat) : Dev := if (d.pair n).testWait then d.testBegin n (d.pair n).testOnly else d

theorem Dev.testBegin_only (d : Dev) (n : Nat) (only : Bool) : d.onlyPairs (d.testBegin n only) := by
  unfold Dev.testBegin
  dsimp only
  split <;> rfl

/-- A test begun with the voltage there waits no longer. -/
theorem Dev.testBegin_testWait (d : Dev) (n : Nat) (only : Bool) (huvlo : d.ddp.uvlo = false) : ((d.testBegin n only).pair n).testWait = false := by
  obtain ⟨p, hrun, hp⟩ : ∃ p : Pair, d.testBegin n only = d.setPair n p ∧ p.testWait = false := by
    unfold Dev.testBegin
    simp only [huvlo, Bool.false_eq_true, if_false]
    exact ⟨_, rfl, rfl⟩
  rw [hrun]
  by_cases hlen : n < d.ddp.pairs.length
  · rw [d.setPair_pair n p hlen, hp]
  · rw [d.setPair_pair_out n p (Nat.not_lt.1 hlen)]

theorem Dev.testBegin_pair_ne (d : Dev) (n m : Nat) (only : Bool) (hm : m ≠ n) : (d.testBegin n only).pair m = d.pair m := by
  unfold Dev.testBegin
  dsimp only
  split
  · exact d.setPair_pair_ne n m _ hm
  · exact d.setPair_pair_ne n m _ hm

theorem Dev.waitingTest_only (d : Dev) (n : Nat) : d.onlyPairs (d.waitingTest n) := by
  unfold Dev.waitingTest
  split
  · exact d.testBegin_only n _
  · rfl

theorem Dev.waitingTest_testWait (d : Dev) (n : Nat) (huvlo : d.ddp.uvlo = false) : ((d.waitingTest n).pair n).testWait = false := by
  unfold Dev.waitingTest
  split
  case isTrue => exact d.testBegin_testWait n _ huvlo
  case isFalse hno => exact Bool.eq_false_iff.2 hno

/-- A pair whose test does not wait stays, whichever pair's turn it is. -/
theorem Dev.waitingTest_pair (d : Dev) (n m : Nat) (hm : m = n → (d.pair n).testWait = false) : (d.waitingTest n).pair m = d.pair m := by
  unfold Dev.waitingTest
  split
  case isTrue hwait => exact d.testBegin_pair_ne n m _ (fun h => absurd hwait (Bool.eq_false_iff.1 (hm h)))
  case isFalse => rfl

theorem Dev.onlyPairs_uvlo {a b : Dev} (h : a.onlyPairs b) : b.ddp.uvlo = a.ddp.uvlo := by
  unfold Dev.onlyPairs at h
  rw [h]

/-- After the waiting tests of the pairs `ns` none of them waits, and a pair that did not wait stays. -/
theorem Dev.waitingTests_shows (ns : List Nat) (d : Dev) (huvlo : d.ddp.uvlo = false) :
    d.onlyPairs (ns.foldl Dev.waitingTest d) ∧ (∀ n, n ∈ ns ∨ (d.pair n).testWait = false → ((ns.foldl Dev.waitingTest d).pair n).testWait = false) ∧
    (∀ n, (d.pair n).testWait = false → (ns.foldl Dev.waitingTest d).pair n = d.pair n) := by
  induction ns generalizing d with
  | nil => exact ⟨rfl, fun n hn => hn.resolve_left List.not_mem_nil, fun n _ => rfl⟩
  | cons m ns ih =>
    have honly := d.waitingTest_only m
    obtain ⟨hall, hwait, hkeep⟩ := ih (d.waitingTest m) (by rw [Dev.onlyPairs_uvlo honly]; exact huvlo)
    have hstays : ∀ n, (d.pair n).testWait = false → (d.waitingTest m).pair n = d.pair n := fun n hn => d.waitingTest_pair m n (fun h => h ▸ hn)
    refine ⟨Dev.onlyPairs_trans honly hall, fun n hn => hwait n ?_, fun n hn => ?_⟩
    · by_cases hm : n = m
      · exact Or.inr (hm ▸ d.waitingTest_testWait m huvlo)
      · exact hn.imp (fun h => (List.mem_cons.1 h).resolve_left hm) (fun h => by rw [hstays n h]; exact h)
    · have hfirst := hstays n hn
      exact (hkeep n (by rw [hfirst]; exact hn)).trans hfirst

-- The off-state test ---------------------------------------------------------------------------------------------------------------------

/-- The result of a phase noted in its pair. -/
def Dev.testNoted (d : Dev) (p : Pair) (r : TestRun) (mv vdd : Nat) : Pair :=
  if r.out = 0 then { p with resH := testResult (d.act R.DDP_TEST_CFG) r.vs mv vdd, ohmH := min r.vs 8000 }
  else { p with resL := testResult (d.act R.DDP_TEST_CFG) r.vs mv vdd, ohmL := min r.vs 8000 }

/-- `b` is `a` but for the direct drives and the events, and only pair `n` moves, to one that `P` holds of. -/
def Dev.pairMoves (a b : Dev) (n : Nat) (P : Pair → Prop) : Prop := b = { a with ddp := b.ddp, pci := b.pci } ∧ (∀ m, m ≠ n → b.pair m = a.pair m) ∧ P (b.pair n)

theorem Dev.setPair_moves (d : Dev) (n : Nat) (p : Pair) (P : Pair → Prop) (h : n < d.ddp.pairs.length) (hp : P p) : d.pairMoves (d.setPair n p) n P :=
  ⟨rfl, fun m hm => d.setPair_pair_ne n m p hm, by rw [d.setPair_pair n p h]; exact hp⟩

/-- A test that ends keeps its pair's results and the resistances, and is no longer under way. -/
def Pair.sameResults (p q : Pair) : Prop := q.resH = p.resH ∧ q.resL = p.resL ∧ q.ohmH = p.ohmH ∧ q.ohmL = p.ohmL ∧ q.test = none

theorem Dev.testFinish_moves (d : Dev) (n : Nat) (h : n < d.ddp.pairs.length) : d.pairMoves (d.testFinish n) n (d.pair n).sameResults := by
  unfold Dev.testFinish
  dsimp only
  split
  · exact d.setPair_moves n _ _ h ⟨rfl, rfl, rfl, rfl, rfl⟩
  split
  · exact d.setPair_moves n _ _ h ⟨rfl, rfl, rfl, rfl, rfl⟩
  · obtain ⟨-, hne, hpair⟩ := d.setPair_moves n { d.pair n with test := none, st := 3, testFail := true } (d.pair n).sameResults h ⟨rfl, rfl, rfl, rfl, rfl⟩
    exact ⟨rfl, hne, hpair⟩

/-- The end of the first phase: the source voltage is kept, and the second phase begins (R475). -/
theorem Dev.testPhase_first (d : Dev) (n mv vdd : Nat) (r : TestRun) (htest : (d.pair n).test = some r) (hdue : r.phaseEnd ≤ d.tmb.up) (hphase : r.phase = 0) :
    d.testPhase n mv vdd = d.setPair n { d.pair n with test := some { r with phase := 1, phaseEnd := r.phaseEnd + 50000 * nsU, vs := mv } } := by
  unfold Dev.testPhase
  simp only [htest]
  rw [if_neg (Nat.not_lt.2 hdue), if_pos hphase]

/-- The end of the second phase: its result is noted; the other output follows, or the test ends (R476, R477). -/
theorem Dev.testPhase_second (d : Dev) (n mv vdd : Nat) (r : TestRun) (htest : (d.pair n).test = some r) (hdue : r.phaseEnd ≤ d.tmb.up) (hphase : r.phase ≠ 0) :
    (r.out = 0 ∧ ∃ x, d.testPhase n mv vdd = d.setPair n { d.testNoted (d.pair n) r mv vdd with test := some x }) ∨
    d.testPhase n mv vdd = (d.setPair n (d.testNoted (d.pair n) r mv vdd)).testFinish n := by
  unfold Dev.testPhase Dev.testNoted
  simp only [htest]
  rw [if_neg (Nat.not_lt.2 hdue), if_neg hphase]
  by_cases hout : r.out = 0
  · simp only [hout, if_true]
    cases d.testFrom n 1 with
    | none => exact Or.inr rfl
    | some x => exact Or.inl ⟨trivial, _, rfl⟩
  · simp only [hout, if_false]
    exact Or.inr trivial

/-- What the obligation says of the pair after a second phase. -/
def Dev.testShown (d : Dev) (r : TestRun) (mv vdd : Nat) (q : Pair) : Prop :=
  (r.out = 0 → q.resH = testResult (d.act R.DDP_TEST_CFG) r.vs mv vdd ∧ q.ohmH = min r.vs 8000) ∧
  (r.out ≠ 0 → q.resL = testResult (d.act R.DDP_TEST_CFG) r.vs mv vdd ∧ q.ohmL = min r.vs 8000 ∧ q.test = none)

theorem Dev.testPhase_moves (d : Dev) (n mv vdd : Nat) (r : TestRun) (h : n < d.ddp.pairs.length) (htest : (d.pair n).test = some r) (hdue : r.phaseEnd ≤ d.tmb.up)
    (hphase : r.phase ≠ 0) : d.pairMoves (d.testPhase n mv vdd) n (d.testShown r mv vdd) := by
  obtain ⟨hout, x, hrun⟩ | hrun := d.testPhase_second n mv vdd r htest hdue hphase
  · rw [hrun]
    refine d.setPair_moves n _ _ h ⟨fun _ => ?_, fun hne => absurd hout hne⟩
    simp [Dev.testNoted, hout]
  · rw [hrun]
    obtain ⟨q, hq⟩ : ∃ q, q = d.testNoted (d.pair n) r mv vdd := ⟨_, rfl⟩
    rw [← hq]
    have hlen : n < (d.setPair n q).ddp.pairs.length := by simpa [length_setAt] using h
    obtain ⟨honly, hne, hresH, hresL, hohmH, hohmL, hnone⟩ := (d.setPair n q).testFinish_moves n hlen
    rw [d.setPair_pair n q h] at hresH hresL hohmH hohmL
    refine ⟨honly, fun m hm => (hne m hm).trans (d.setPair_pair_ne n m q hm), fun hout => ?_, fun hout => ?_⟩
    · rw [hresH, hohmH, hq]
      simp [Dev.testNoted, hout]
    · rw [hresL, hohmL, hnone, hq]
      simp [Dev.testNoted, hout]

theorem exec_offStateTestPhaseEnd (s : State) (n mv vdd : Nat) (hn : n < 12) :
    exec (.offStateTestPhaseEnd n mv vdd) s = .next { s with dev := s.dev.testPhase n mv vdd } := next_congr s (if_pos hn)

theorem exec_uvloRelease (s : State) : exec .uvloRelease s = .next { s with dev := (List.range 12).foldl Dev.waitingTest s.dev.uvloOver } := rfl

/-- Settles O51. -/
theorem driveUnitEventsTakeEffect : Obligations.DriveUnitEventsTakeEffect := by
  refine ⟨fun s t hend hdue => ?chop, fun s huvlo => ?uvlo, fun s => ?release, fun s n mv vdd r hn hlen htest hdue => ?phase, fun s pairs hopen => ?requests⟩
  case chop =>
    have hrun : s.dev.chopOver = ({ s.dev with ddp := { s.dev.ddp with chop := false, chopEnd := none } } : Dev).ddpTick := by
      unfold Dev.chopOver
      simp only [hend]
      exact if_pos hdue
    refine ⟨_, next_congr s hrun, ?_⟩
    obtain ⟨ps, hddp⟩ := ({ s.dev with ddp := { s.dev.ddp with chop := false, chopEnd := none } } : Dev).ddpTick_ddp
    rw [hddp, Dev.ddpTick_sys, Dev.ddpTick_tmb]
    exact ⟨rfl, rfl, rfl, rfl⟩
  case uvlo =>
    refine ⟨_, next_congr s (if_neg (by rw [huvlo]; exact Bool.false_ne_true)), ?_⟩
    obtain ⟨ps, hddp⟩ := (({ s.dev with ddp := { s.dev.ddp with uvlo := true } } : Dev).raise Sub.ddp 0 R.DDP_STATUS 0x80000000 []).ddpTick_ddp
    rw [hddp, Dev.ddpTick_sys]
    exact ⟨rfl, fun n hn => Dev.ticks_uvlo (List.range 12) _ rfl n (Or.inl (List.mem_range.2 hn)), rfl⟩
  case release =>
    obtain ⟨honly, hkept⟩ := ({ s.dev with ddp := { s.dev.ddp with uvlo := false } } : Dev).released_shows s.dev
    have huvlo : s.dev.uvloOver.ddp.uvlo = false := Dev.onlyPairs_uvlo honly
    obtain ⟨htests, hwait, hstay⟩ := Dev.waitingTests_shows (List.range 12) s.dev.uvloOver huvlo
    refine ⟨_, exec_uvloRelease s, Dev.onlyPairs_trans honly htests, fun n hn => hwait n (Or.inl (List.mem_range.2 hn)), fun n hn hno => ?_⟩
    obtain ⟨h, l, hpair⟩ := hkept n
    have hover : s.dev.uvloOver.pair n = { s.dev.pair n with offH := h, offL := l } := hpair
    rw [hstay n (by rw [hover]; exact hno), hover]
    exact ⟨rfl, rfl, rfl⟩
  case phase =>
    refine ⟨_, exec_offStateTestPhaseEnd s n mv vdd hn, ?_⟩
    by_cases hphase : r.phase = 0
    · rw [s.dev.testPhase_first n mv vdd r htest hdue hphase]
      exact ⟨rfl, fun m hm => s.dev.setPair_pair_ne n m _ hm, fun _ => s.dev.setPair_pair n _ hlen, fun h => absurd hphase h, fun h => absurd hphase h⟩
    · obtain ⟨honly, hne, hfirst, hsecond⟩ := s.dev.testPhase_moves n mv vdd r hlen htest hdue hphase
      exact ⟨honly, hne, fun h => absurd h hphase, fun _ => hfirst, fun _ => hsecond⟩
  case requests =>
    exact ⟨onDev_bar0Cmd_open s R.DDP_CMD 1 _ hopen, onDev_bar0Cmd_open s R.DDP_CMD 1 _ hopen⟩

end Sys2Proof.Machine
end

section
/-! SUPPORT. O40, O41, O42. The nodes: the table of them, what a node sends leaves alone, and the periods it begins (R295–R328, R340, R350). -/
namespace Sys2Proof.Machine

-- The table of nodes -------------------------------------------------------------------------------------------------------------------

theorem putNodeState_find (n m : Nat) (x : Node) (l : List (Nat × Node)) :
    (putNodeState n x l).find? (fun p => p.1 == m) = if m = n then some (n, x) else l.find? (fun p => p.1 == m) := by
  induction l with
  | nil => rcases eq_or_ne n m with rfl | h <;> simp [putNodeState, *, Ne.symm]
  | cons y l ih =>
    obtain ⟨k, y⟩ := y
    unfold putNodeState
    split
    case isTrue hlt => rcases eq_or_ne n m with rfl | h <;> simp [*, Ne.symm]
    split
    case isTrue heq =>
      subst heq
      rcases eq_or_ne n m with rfl | h
      · simp
      · simp [h, Ne.symm h]
    case isFalse hlt hne =>
      rw [List.find?_cons, List.find?_cons, ih]
      rcases eq_or_ne n m with rfl | h
      · simp [beq_false_of_ne (Ne.symm hne)]
      · simp [Ne.symm h]

theorem Dev.setNode_node (d : Dev) (n : Nat) (x : Node) : (d.setNode n x).node n = x := by
  simp [Dev.node, Dev.setNode, putNodeState_find]

theorem Dev.setNode_node_ne (d : Dev) (n m : Nat) (x : Node) (h : m ≠ n) : (d.setNode n x).node m = d.node m := by
  simp [Dev.node, Dev.setNode, putNodeState_find, h]

-- O42: a command at a node ---------------------------------------------------------------------------------------------------------------

/-- `b` is `a` but for node `n` and the count of free values. -/
def Dev.onlyNode (n : Nat) (a b : Dev) : Prop := b = { a with nodes := b.nodes, free := b.free } ∧ ∀ m, m ≠ n → b.node m = a.node m

theorem Dev.onlyNode_refl (n : Nat) (d : Dev) : d.onlyNode n d := ⟨rfl, fun _ _ => rfl⟩

theorem Dev.setNode_only (d : Dev) (n : Nat) (x : Node) : d.onlyNode n (d.setNode n x) := ⟨rfl, fun m hm => d.setNode_node_ne n m x hm⟩

theorem Dev.nodeAct_only (d : Dev) (n : Nat) (f : Node → Nat → Bool → Node) : d.onlyNode n (d.nodeAct n f) :=
  ⟨rfl, fun m hm => d.tookFree.setNode_node_ne n m _ hm⟩

theorem Dev.atPort_only (d : Dev) (n p : Nat) (f : Dev → Dev) (h : d.onlyNode n (f d)) : d.onlyNode n (d.atPort n p f) := by
  unfold Dev.atPort
  split
  · exact h
  · exact d.onlyNode_refl n

theorem Dev.unit_only (d : Dev) (n p k : Nat) (f : Dev → Dev) (h : d.onlyNode n (f d)) : d.onlyNode n (d.unit p k f) := by
  unfold Dev.unit
  split
  · exact h
  · exact d.onlyNode_refl n

theorem Dev.nodeReq_only (d : Dev) (n p op : Nat) (bs : List Dword) (act : Node → MFrame → Node) : d.onlyNode n (d.unit p 2 (fun x => x.nodeReq n p op bs act)) :=
  d.unit_only n p 2 _ (d.atPort_only n p _ (d.setNode_only n _))

theorem Dev.nodeSync_only (d : Dev) (n p : Nat) (b : Dword) : d.onlyNode n (d.nodeSync n p b) := by
  refine d.atPort_only n p _ ?_
  split
  · exact d.nodeAct_only n _
  · exact d.setNode_only n _

theorem Dev.nodeFrame_only (d : Dev) (n p : Nat) (bs : List Dword) : d.onlyNode n (d.nodeFrame n p bs) := d.atPort_only n p _ (d.setNode_only n _)

theorem Dev.nodeEblk_only (d : Dev) (n p : Nat) (b : Dword) : d.onlyNode n (d.nodeEblk n p b) := d.atPort_only n p _ (d.setNode_only n _)

theorem next_onlyNode {c : Instr} {s : State} {n : Nat} {d : Dev} (h : s.dev.onlyNode n d) (hrun : exec c s = .next { s with dev := d }) :
    ∃ t, exec c s = .next t ∧ t = { s with dev := { s.dev with nodes := t.dev.nodes, free := t.dev.free } } ∧ ∀ m, m ≠ n → t.dev.node m = s.dev.node m := by
  obtain ⟨honly, hnodes⟩ := h
  exact ⟨{ s with dev := d }, hrun, congrArg (fun d => ({ s with dev := d } : State)) honly, hnodes⟩

/-- Settles O42. -/
theorem nodeCommandsChangeTheirNode : Obligations.NodeCommandsChangeTheirNode := by
  intro s c n p b u bs f hc
  simp only [List.mem_cons, List.not_mem_nil, or_false] at hc
  obtain rfl | rfl | rfl | rfl | rfl | rfl | rfl | rfl | hreq := hc
  · exact next_onlyNode (s.dev.unit_only n p 2 (fun x => x.nodeSync n p b) (s.dev.nodeSync_only n p b)) rfl
  · exact next_onlyNode (s.dev.setNode_only n _) rfl
  · exact next_onlyNode (s.dev.unit_only n p 2 (fun x => x.nodeFrame n p bs) (s.dev.nodeFrame_only n p bs)) rfl
  · exact next_onlyNode (s.dev.nodeAct_only n _) rfl
  · exact next_onlyNode (s.dev.unit_only n p 2 (fun x => x.nodeEblk n p b) (s.dev.nodeEblk_only n p b)) rfl
  · exact next_onlyNode (s.dev.unit_only n u.down 2 (fun x => x.setNode n ((x.node n).onUp u.down u.slot u.bits u.control)) (s.dev.setNode_only n _)) rfl
  · exact next_onlyNode (s.dev.setNode_only n _) rfl
  · exact next_onlyNode (s.dev.setNode_only n _) rfl
  · obtain rfl | rfl | rfl | rfl | rfl | rfl | rfl | rfl := hreq <;> exact next_onlyNode (s.dev.nodeReq_only n p _ bs _) rfl

-- Ports of a node ------------------------------------------------------------------------------------------------------------------------

theorem Node.modPort_port (x : Node) (p : Nat) (f : NodePort → NodePort) (h : p < x.ports.length) : (x.modPort p f).port p = f (x.port p) := nth_modAt_self _ p f _ h

theorem Node.modPort_port_ne (x : Node) (p q : Nat) (f : NodePort → NodePort) (h : q ≠ p) : (x.modPort p f).port q = x.port q := nth_modAt_ne _ p q f _ (Ne.symm h)

/-- A port that does not stand stays, whatever is done to it. -/
theorem Node.modPort_port_out (x : Node) (p : Nat) (f : NodePort → NodePort) (h : x.ports.length ≤ p) : (x.modPort p f).port p = x.port p := by
  simp [Node.port, Node.modPort, nth, modAt, List.getElem?_eq_none h]

theorem Node.modPort_admitted (x : Node) (p : Nat) (f : NodePort → NodePort) (hf : ∀ q, (f q).admitted = q.admitted) : (x.modPort p f).admitted = x.admitted := by
  have hport : ∀ i, ((x.modPort p f).port i).admitted = (x.port i).admitted := by
    intro i
    rcases eq_or_ne i p with rfl | hi
    · by_cases hlen : i < x.ports.length
      · rw [x.modPort_port i f hlen, hf]
      · rw [x.modPort_port_out i f (Nat.not_lt.1 hlen)]
    · rw [x.modPort_port_ne p i f hi]
  rw [Node.admitted, hport 0, hport 1, Node.admitted]

-- O41: management requests -----------------------------------------------------------------------------------------------------------------

/-- Passing a request on is a matter of the downstream ports (R324). -/
theorem Node.pass_down (x : Node) (p : Nat) (m : MFrame) (bs : List Dword) : x.pass p m bs = { x with down := (x.pass p m bs).down } := by
  unfold Node.pass
  split
  · split
    · rfl
    split <;> rfl
  · split <;> rfl

theorem Node.pass_frame (x : Node) (p : Nat) (m : MFrame) (bs : List Dword) :
    (x.pass p m bs).ident = x.ident ∧ (x.pass p m bs).ports = x.ports ∧ (x.pass p m bs).admitted = x.admitted := by
  rw [x.pass_down p m bs]
  exact ⟨rfl, rfl, rfl⟩

theorem Node.request_runs (x : Node) (p op : Nat) (bs : List Dword) (act : Node → MFrame → Node) (m : MFrame) (hparse : parseFrame bs = some m) (hop : m.opcode = op)
    (hcons : consumes x.ident.addr m = true) (hdata : m.data ≠ []) : x.request p op bs act = act (x.pass p m bs) m := by
  unfold Node.request
  simp only [hparse]
  exact if_pos ⟨hop, hcons, hdata⟩

theorem Node.request_passes (x : Node) (p op : Nat) (bs : List Dword) (act : Node → MFrame → Node) (m : MFrame) (hparse : parseFrame bs = some m)
    (hcons : consumes x.ident.addr m = false) : x.request p op bs act = x.pass p m bs := by
  unfold Node.request
  simp only [hparse]
  exact if_neg (by simp [hcons])

theorem Node.request_fails (x : Node) (p op : Nat) (bs : List Dword) (act : Node → MFrame → Node) (hparse : parseFrame bs = none) :
    x.request p op bs act = (x.forward p bs).crcError p := by
  unfold Node.request
  simp only [hparse]

/-- A request that reaches node `n` on a port in block lock. -/
theorem onDev_nodeReq (s : State) (n p op : Nat) (bs : List Dword) (act : Node → MFrame → Node) (x : Node) (hp : p < 2) (hlock : ((s.dev.node n).port p).lock = true)
    (h : (s.dev.node n).request p op bs act = x) : onDev (fun d => d.unit p 2 (fun x => x.nodeReq n p op bs act)) s = .next { s with dev := s.dev.setNode n x } := by
  have hrun : s.dev.unit p 2 (fun x => x.nodeReq n p op bs act) = s.dev.setNode n ((s.dev.node n).request p op bs act) := (if_pos hp).trans (if_pos hlock)
  exact next_congr s (hrun.trans (by rw [h]))

theorem Node.portReset_shows (x : Node) (p : Nat) (m : MFrame) (hlen : p < x.ports.length) (hall : m.amode = true ∧ m.depth = 0) :
    ((x.portReset p m).port p).admitted = false ∧ ((x.portReset p m).port p).cslot = 0x1FF ∧ ((x.portReset p m).port p).rslot = 0x1FF ∧
    ((x.portReset p m).port p).changes = [] ∧ (x.portReset p m).ident = x.ident := by
  obtain ⟨y, hy⟩ : ∃ y, y = x.modPort p (fun q => { q with admitted := false, cslot := 0x1FF, rslot := 0x1FF, pending := none, current := none, changes := [] }) := ⟨_, rfl⟩
  have hreset : x.portReset p m = y.settle := by
    rw [hy]
    exact if_pos hall
  have hsettle : (y.settle).port p = y.port p ∧ y.settle.ident = y.ident := by
    unfold Node.settle
    split <;> exact ⟨rfl, rfl⟩
  have hport : y.port p = { x.port p with admitted := false, cslot := 0x1FF, rslot := 0x1FF, pending := none, current := none, changes := [] } := by
    rw [hy, x.modPort_port p _ hlen]
  rw [hreset, hsettle.1, hsettle.2, hport, hy]
  exact ⟨rfl, rfl, rfl, rfl, rfl⟩

theorem Node.setIdent_shows (x : Node) (p : Nat) (m : MFrame) (hfree : x.admitted = false) (hdata : 2 ≤ m.data.length) :
    (x.setIdent p m).ident.addr = bfld (m.data.getD 1 0) 63 51 ∧ (x.setIdent p m).ident.arm = bfld (m.data.getD 1 0) 50 48 ∧
    (x.setIdent p m).ident.position = bfld (m.data.getD 1 0) 47 38 ∧ (x.setIdent p m).ident.serial = x.ident.serial := by
  have hset : (x.admitted || decide (m.data.length < 2)) = false := by
    rw [hfree, decide_eq_false (Nat.not_lt.2 hdata)]
    rfl
  unfold Node.setIdent
  rw [hset, if_neg Bool.false_ne_true]
  exact ⟨rfl, rfl, rfl, rfl⟩

/-- Settles O41. -/
theorem nodesAnswerRequests : Obligations.NodesAnswerRequests := by
  refine ⟨fun s n p bs m y hp hlock hparse hcons hdata hy => ?answers, fun x p m bs => ⟨x.pass_down p m bs, fun hroute hdepth => ?routed, fun haddr hmine => ?addressed⟩,
    fun s n p bs c hp hlock hc => ⟨fun hbad => ?bad, fun m hparse hcons => ?others⟩⟩
  case answers =>
    obtain ⟨hident, hports, hadm⟩ := (s.dev.node n).pass_frame p m bs
    have hruns : ∀ (op : Nat) (act : Node → MFrame → Node), m.opcode = op → (s.dev.node n).request p op bs act = act y m := fun op act hop =>
      hy ▸ (s.dev.node n).request_runs p op bs act m hparse hop hcons hdata
    rw [← hy] at hident hports hadm
    refine ⟨fun hop => onDev_nodeReq s n p 0x01 bs _ _ hp hlock ((hruns 0x01 _ hop).trans ?_), fun hop => onDev_nodeReq s n p 0x02 bs _ _ hp hlock (hruns 0x02 _ hop),
      fun hop => onDev_nodeReq s n p 0x03 bs _ _ hp hlock (hruns 0x03 _ hop), fun hop => onDev_nodeReq s n p 0x04 bs _ _ hp hlock (hruns 0x04 _ hop),
      fun hop => onDev_nodeReq s n p 0x05 bs _ _ hp hlock (hruns 0x05 _ hop), fun hop => onDev_nodeReq s n p 0x06 bs _ _ hp hlock (hruns 0x06 _ hop),
      fun hop hmode hdepth hlen => ?_, fun hop hfree hlen => ?_⟩
    · rw [hident]
    · have hshows := y.portReset_shows p m (by rw [hports]; exact hlen) ⟨hmode, hdepth⟩
      rw [hident] at hshows
      exact ⟨_, onDev_nodeReq s n p 0x08 bs _ _ hp hlock (hruns 0x08 _ hop), hshows⟩
    · have hshows := y.setIdent_shows p m (hadm.trans hfree) hlen
      rw [hident] at hshows
      exact ⟨_, onDev_nodeReq s n p 0x7F bs _ _ hp hlock (hruns 0x7F _ hop), hshows⟩
  case routed => simp [Node.pass, hroute, hdepth]
  case addressed =>
    unfold Node.pass
    rw [haddr, if_neg Bool.false_ne_true, if_pos hmine]
  case bad =>
    simp only [List.mem_cons, List.not_mem_nil, or_false] at hc
    obtain rfl | rfl | rfl | rfl | rfl | rfl | rfl | rfl := hc <;> exact onDev_nodeReq s n p _ bs _ _ hp hlock (Node.request_fails _ p _ bs _ hbad)
  case others =>
    simp only [List.mem_cons, List.not_mem_nil, or_false] at hc
    obtain rfl | rfl | rfl | rfl | rfl | rfl | rfl | rfl := hc <;> exact onDev_nodeReq s n p _ bs _ _ hp hlock (Node.request_passes _ p _ bs _ m hparse hcons)

end Sys2Proof.Machine
end

section
/-! SUPPORT. O40. The periods of a node: what sending leaves alone, what a SYNC and the end of a wait begin (R306, R322, R328, R350), and what a node does by itself. -/
namespace Sys2Proof.Machine

-- What sending leaves alone ----------------------------------------------------------------------------------------------------------------

/-- Port `r` has the SYNC, the claim and the admission of port `q`. -/
def NodePort.sameSync (q r : NodePort) : Prop :=
  r.syncSeq = q.syncSeq ∧ r.claim = q.claim ∧ r.syncAt = q.syncAt ∧ r.eblk = q.eblk ∧ r.admitted = q.admitted

theorem NodePort.sameSync_trans {a b c : NodePort} (hab : a.sameSync b) (hbc : b.sameSync c) : a.sameSync c := by
  obtain ⟨h1, h2, h3, h4, h5⟩ := hab
  obtain ⟨g1, g2, g3, g4, g5⟩ := hbc
  exact ⟨g1.trans h1, g2.trans h2, g3.trans h3, g4.trans h4, g5.trans h5⟩

/-- Every port of `y` has the SYNC of its port of `x`. -/
def Node.samePorts (x y : Node) : Prop := ∀ i, (x.port i).sameSync (y.port i)

/-- `y` stands in the period of `x`, and follows what `x` follows. -/
def Node.samePeriod (x y : Node) : Prop :=
  y.lastValid = x.lastValid ∧ y.seq = x.seq ∧ y.waitFor = x.waitFor ∧ y.ident = x.ident ∧ y.follows = x.follows ∧ y.src = x.src ∧ y.missRun = x.missRun

/-- `y` differs from `x` in what is sent and reported alone. -/
def Node.onlySends (x y : Node) : Prop := x.samePorts y ∧ x.samePeriod y

theorem Node.samePorts_refl (x : Node) : x.samePorts x := fun _ => ⟨rfl, rfl, rfl, rfl, rfl⟩

theorem Node.samePorts_trans {a b c : Node} (hab : a.samePorts b) (hbc : b.samePorts c) : a.samePorts c := fun i => NodePort.sameSync_trans (hab i) (hbc i)

theorem Node.onlySends_refl (x : Node) : x.onlySends x := ⟨x.samePorts_refl, rfl, rfl, rfl, rfl, rfl, rfl, rfl⟩

theorem Node.onlySends_trans {a b c : Node} (hab : a.onlySends b) (hbc : b.onlySends c) : a.onlySends c := by
  obtain ⟨hports, h1, h2, h3, h4, h5, h6, h7⟩ := hab
  obtain ⟨gports, g1, g2, g3, g4, g5, g6, g7⟩ := hbc
  exact ⟨Node.samePorts_trans hports gports, g1.trans h1, g2.trans h2, g3.trans h3, g4.trans h4, g5.trans h5, g6.trans h6, g7.trans h7⟩

theorem Node.modPort_samePorts (x : Node) (p : Nat) (f : NodePort → NodePort) (hf : ∀ q : NodePort, q.sameSync (f q)) : x.samePorts (x.modPort p f) := by
  intro i
  rcases eq_or_ne i p with rfl | hi
  · by_cases hlen : i < x.ports.length
    · rw [x.modPort_port i f hlen]
      exact hf _
    · rw [x.modPort_port_out i f (Nat.not_lt.1 hlen)]
      exact x.samePorts_refl i
  · rw [x.modPort_port_ne p i f hi]
    exact x.samePorts_refl i

theorem Node.modPort_sends (x : Node) (p : Nat) (f : NodePort → NodePort) (hf : ∀ q : NodePort, q.sameSync (f q)) : x.onlySends (x.modPort p f) :=
  ⟨x.modPort_samePorts p f hf, rfl, rfl, rfl, rfl, rfl, rfl, rfl⟩

theorem Node.sendUp_sends (x : Node) (p t rank : Nat) (b : Dword) : x.onlySends (x.sendUp p t rank b) := by
  have hput : ∀ l : List (Nat × Nat × Dword), x.onlySends (x.modPort p (fun q => { q with line := l ++ [(t, rank, b)] })) :=
    fun l => x.modPort_sends p _ (fun _ => ⟨rfl, rfl, rfl, rfl, rfl⟩)
  unfold Node.sendUp
  split
  case h_1 => exact hput _
  case h_2 r c _ =>
    split
    case isTrue =>
      split
      · exact x.onlySends_refl
      · exact x.onlySends_refl
    case isFalse =>
      split
      · exact hput _
      · exact hput _

theorem Node.sendReport_sends (x : Node) (p s : Nat) : x.onlySends (x.sendReport p s) := by
  unfold Node.sendReport
  dsimp only
  split
  · exact Node.onlySends_trans (x.modPort_sends p (fun y => { y with report := some (x.reportBlock s) }) (fun _ => ⟨rfl, rfl, rfl, rfl, rfl⟩)) (Node.sendUp_sends ..)
  · exact x.onlySends_refl

theorem Node.sample_sends (x : Node) (s v : Nat) (t : Bool) : x.onlySends (x.sample s v t) := by
  unfold Node.sample
  extract_lets y z w
  have hw : z.onlySends w := Node.onlySends_trans (z.sendReport_sends 0 s) (Node.sendReport_sends _ 1 s)
  have hx : x.onlySends w := hw
  split
  · exact hx
  · exact hx

theorem Node.sendResp_sends (x : Node) (p : Nat) : x.onlySends (x.sendResp p) := by
  refine Node.onlySends_trans (x.modPort_sends p (fun z => { z with resp := [] }) (fun _ => ⟨rfl, rfl, rfl, rfl, rfl⟩)) ?_
  exact foldl_keeps (fun y => Node.onlySends _ y) (fun (y : Node) (b : Dword × Nat) => y.sendUp p b.2 3 b.1) (fun y b hy => Node.onlySends_trans hy (Node.sendUp_sends ..)) _ _ (Node.onlySends_refl _)

-- The command of a period --------------------------------------------------------------------------------------------------------------------

/-- The command of the port selected. -/
def chosen (sel : Option Nat) (cmds : List (Option NodeCmd)) : Option (Nat × NodeCmd) :=
  match sel with
  | some p => (nth cmds p none).map (fun m => (p, m))
  | none => none

/-- The node with the command of its period, or without one. -/
def Node.following (x : Node) (first : Nat) : Option (Nat × NodeCmd) → Node
  | some (p, m) => { x.applyCmd p m with syncTime := (x.port p).syncAt }
  | none => { x.noCmd with syncTime := (x.port first).syncAt }

theorem Node.raiseFlash_sends (x : Node) (cls : Nat) : x.onlySends (x.raiseFlash cls) := by
  unfold Node.raiseFlash
  split <;> exact x.onlySends_refl

theorem Node.applyCmd_shows (x : Node) (p : Nat) (c : NodeCmd) :
    x.samePorts (x.applyCmd p c) ∧ (x.applyCmd p c).lastValid = x.lastValid ∧ (x.applyCmd p c).ident = x.ident ∧ (x.applyCmd p c).follows = true ∧
    (x.applyCmd p c).src = p ∧ (x.applyCmd p c).missRun = 0 := by
  unfold Node.applyCmd
  extract_lets _ y
  have hy : x.samePorts y := x.samePorts_refl
  split
  · obtain ⟨hports, hlast, -, -, hident, hfollows, hsrc, hmiss⟩ := Node.raiseFlash_sends { y with rx11 := true } 4
    exact ⟨Node.samePorts_trans hy hports, hlast, hident, hfollows, hsrc, hmiss⟩
  · exact ⟨hy, rfl, rfl, rfl, rfl, rfl⟩

theorem Node.noCmd_shows (x : Node) :
    x.samePorts x.noCmd ∧ x.noCmd.lastValid = x.lastValid ∧ x.noCmd.ident = x.ident ∧ x.noCmd.follows = false ∧ x.noCmd.missRun = x.missRun + 1 := by
  unfold Node.noCmd
  dsimp only
  split <;> exact ⟨x.samePorts_refl, rfl, rfl, rfl, rfl⟩

theorem Node.following_shows (x : Node) (first : Nat) (c : Option (Nat × NodeCmd)) :
    x.samePorts (x.following first c) ∧ (x.following first c).lastValid = x.lastValid ∧ (x.following first c).ident = x.ident ∧
    (c = none → (x.following first c).follows = false ∧ (x.following first c).missRun = x.missRun + 1) ∧
    (∀ p m, c = some (p, m) → (x.following first c).follows = true ∧ (x.following first c).src = p ∧ (x.following first c).missRun = 0) := by
  cases c with
  | none =>
    obtain ⟨hports, hlast, hident, hfollows, hmiss⟩ := x.noCmd_shows
    exact ⟨hports, hlast, hident, fun _ => ⟨hfollows, hmiss⟩, fun _ _ h => absurd h (by simp)⟩
  | some c =>
    obtain ⟨p, m⟩ := c
    obtain ⟨hports, hlast, hident, hfollows, hsrc, hmiss⟩ := x.applyCmd_shows p m
    refine ⟨hports, hlast, hident, fun h => absurd h (by simp), fun q k h => ?_⟩
    obtain ⟨rfl, rfl⟩ := Prod.mk.inj (Option.some.inj h)
    exact ⟨hfollows, hsrc, hmiss⟩

/-- A port keeps the command of its own for the rest of the period, and drops what waited for it. -/
def NodePort.keeps (s : Nat) (own : Option NodeCmd) (q : NodePort) : NodePort :=
  { q with current := own, pending := if q.pending.any (fun m => m.seq == s) then none else q.pending }

theorem NodePort.keeps_sameSync (s : Nat) (own : Option NodeCmd) (q : NodePort) : q.sameSync (q.keeps s own) := ⟨rfl, rfl, rfl, rfl, rfl⟩

/-- The node at the start of the period of `s`, before it samples. -/
def Node.started (x : Node) (s : Nat) (c : Option (Nat × NodeCmd)) (cmds : List (Option NodeCmd)) (first : Nat) : Node :=
  { ((x.following first c).modPort 0 (NodePort.keeps s (if c.isSome then nth cmds 0 none else none))).modPort 1
      (NodePort.keeps s (if c.isSome then nth cmds 1 none else none)) with seq := some s, waitFor := none }

theorem Node.startPeriod_eq (x : Node) (s : Nat) (sel : Option Nat) (cmds : List (Option NodeCmd)) (first v : Nat) (tmp : Bool) :
    x.startPeriod s sel cmds first v tmp = (x.started s (chosen sel cmds) cmds first).sample s v tmp := by
  unfold Node.startPeriod Node.started chosen
  cases sel with
  | none => rfl
  | some p => cases hc : nth cmds p none with
    | none => simp only [hc]; rfl
    | some c => simp only [hc]; rfl

/-- A period begun: its number, no wait, the node's ports as they were, and its command followed. -/
theorem Node.startPeriod_shows (x : Node) (s : Nat) (sel : Option Nat) (cmds : List (Option NodeCmd)) (first v : Nat) (tmp : Bool) (y : Node)
    (hy : y = x.startPeriod s sel cmds first v tmp) :
    x.samePorts y ∧ y.lastValid = x.lastValid ∧ y.seq = some s ∧ y.waitFor = none ∧ y.ident = x.ident ∧
    (chosen sel cmds = none → y.follows = false ∧ y.missRun = x.missRun + 1) ∧
    (∀ p m, chosen sel cmds = some (p, m) → y.follows = true ∧ y.src = p ∧ y.missRun = 0) := by
  obtain ⟨fports, flast, fident, fnone, fsome⟩ := x.following_shows first (chosen sel cmds)
  have hstarted : x.samePorts (x.started s (chosen sel cmds) cmds first) :=
    Node.samePorts_trans fports (Node.samePorts_trans (Node.modPort_samePorts _ 0 _ (NodePort.keeps_sameSync s _)) (Node.modPort_samePorts _ 1 _ (NodePort.keeps_sameSync s _)))
  obtain ⟨sports, slast, sseq, swait, sident, sfollows, ssrc, smiss⟩ := (x.started s (chosen sel cmds) cmds first).sample_sends s v tmp
  rw [hy, x.startPeriod_eq, slast, sseq, swait, sident, sfollows, ssrc, smiss]
  exact ⟨Node.samePorts_trans hstarted sports, flast, rfl, rfl, fident, fnone, fsome⟩

-- Periods begun ------------------------------------------------------------------------------------------------------------------------------

/-- The node stands in the period of `s`, or waits for the command of it. -/
def Node.inPeriod (x : Node) (s : Nat) : Prop := x.seq = some s ∨ ∃ w, x.waitFor = some w ∧ w.seq = s

/-- `y` has come from `x` into the period of `s`. -/
def Node.begins (x y : Node) (s : Nat) : Prop := x.samePorts y ∧ y.lastValid = x.lastValid ∧ y.inPeriod s

theorem Node.startPeriod_begins (x : Node) (s : Nat) (sel : Option Nat) (cmds : List (Option NodeCmd)) (first v : Nat) (tmp : Bool) :
    x.begins (x.startPeriod s sel cmds first v tmp) s := by
  obtain ⟨hports, hlast, hseq, -⟩ := x.startPeriod_shows s sel cmds first v tmp _ rfl
  exact ⟨hports, hlast, Or.inl hseq⟩

theorem Node.clear_begins (x : Node) (s first now v : Nat) (tmp : Bool) : x.begins (x.clear s first now v tmp) s := by
  unfold Node.clear
  extract_lets cmds sel wipe z
  have hz : x.samePorts z := Node.samePorts_trans (x.modPort_samePorts 0 wipe (fun _ => ⟨rfl, rfl, rfl, rfl, rfl⟩)) (Node.modPort_samePorts _ 1 wipe (fun _ => ⟨rfl, rfl, rfl, rfl, rfl⟩))
  have hstart : ∀ c, x.begins (z.startPeriod s c cmds first v tmp) s := by
    intro c
    obtain ⟨hports, hlast, hin⟩ := z.startPeriod_begins s c cmds first v tmp
    exact ⟨Node.samePorts_trans hz hports, hlast, hin⟩
  clear_value sel
  cases sel with
  | none => exact hstart none
  | some i =>
    dsimp only
    split
    · exact hstart (some i)
    · exact ⟨hz, rfl, Or.inr ⟨_, rfl, rfl⟩⟩

theorem Node.endWait_begins (x : Node) (w : NodeWait) (came : Bool) (v : Nat) (tmp : Bool) : x.begins (x.endWait w came v tmp) w.seq :=
  x.startPeriod_begins ..

theorem Node.sendReport_begins (x : Node) (p s : Nat) (h : x.inPeriod s) : x.begins (x.sendReport p s) s := by
  obtain ⟨hports, hlast, hseq, hwait, -⟩ := x.sendReport_sends p s
  refine ⟨hports, hlast, ?_⟩
  rw [Node.inPeriod, hseq, hwait]
  exact h

/-- What a valid SYNC of an admitted port makes of the node. -/
def Node.syncAction (z : Node) (p s now v : Nat) (tmp : Bool) : Node :=
  match z.waitFor, z.waited with
  | some w, _ => if w.seq ≠ s then z.clear s p now v tmp else if w.sel = p then z.endWait w true v tmp else z.sendReport p s
  | none, some w =>
    if z.seq ≠ some s then z.clear s p now v tmp
    else if w.seq = s ∧ w.sel = p ∧ w.till = now then Node.endWait { z with cmdMiss := w.miss, waited := none } w true v tmp
    else z.sendReport p s
  | none, none => if z.seq = some s then z.sendReport p s else z.clear s p now v tmp

theorem Node.syncAction_begins (z : Node) (p s now v : Nat) (tmp : Bool) : z.begins (z.syncAction p s now v tmp) s := by
  unfold Node.syncAction
  split
  case h_1 w hwait =>
    split
    · exact z.clear_begins s p now v tmp
    case isFalse hseq =>
      have hs : w.seq = s := not_not.1 hseq
      split
      · exact hs ▸ z.endWait_begins w true v tmp
      · exact z.sendReport_begins p s (Or.inr ⟨w, hwait, hs⟩)
  case h_2 w _ _ =>
    split
    · exact z.clear_begins s p now v tmp
    case isFalse hseq =>
      split
      case isTrue hlate =>
        obtain ⟨hs, -, -⟩ := hlate
        exact hs ▸ Node.endWait_begins { z with cmdMiss := w.miss, waited := none } w true v tmp
      case isFalse => exact z.sendReport_begins p s (Or.inl (not_not.1 hseq))
  case h_3 =>
    split
    case isTrue hseq => exact z.sendReport_begins p s (Or.inl hseq)
    case isFalse => exact z.clear_begins s p now v tmp

/-- The node with a valid SYNC noted on port `p`, its changes in effect, before it acts on it. -/
def Node.synced (x : Node) (p s claim phase now : Nat) : Node :=
  (((x.newPeriod p).modPort p (fun y => (((x.port p).changes.filter (fun c => seqCome c.1 s)).map (·.2)).foldl NodePort.change
    { y with claim := claim, syncSeq := some s, syncAt := now - phase * 5 * 2 ^ 36, eblk := false, changes := (x.port p).changes.filter (fun c => !(seqCome c.1 s)) })).sendResp p).settle

theorem Node.onSync_eq (x : Node) (p s claim phase now v : Nat) (tmp : Bool) :
    x.onSync p s claim phase now v tmp = if !((x.synced p s claim phase now).port p).admitted then x.synced p s claim phase now
      else Node.syncAction { x.synced p s claim phase now with lastValid := some now } p s now v tmp := rfl

/-- The SYNC of a port, its admission apart. -/
def NodePort.syncIs (q : NodePort) (s claim at' : Nat) : Prop := q.syncSeq = some s ∧ q.claim = claim ∧ q.syncAt = at' ∧ q.eblk = false

theorem NodePort.changes_syncIs (cs : List PortChange) (q : NodePort) (s claim at' : Nat) (h : q.syncIs s claim at') : (cs.foldl NodePort.change q).syncIs s claim at' :=
  foldl_keeps (fun y => y.syncIs s claim at') NodePort.change (fun y c hy => by cases c <;> exact hy) cs q h

theorem NodePort.syncIs_of_sameSync {q r : NodePort} {s claim at' : Nat} (h : q.sameSync r) (hq : q.syncIs s claim at') : r.syncIs s claim at' := by
  obtain ⟨h1, h2, h3, h4, -⟩ := h
  obtain ⟨q1, q2, q3, q4⟩ := hq
  exact ⟨h1.trans q1, h2.trans q2, h3.trans q3, h4.trans q4⟩

theorem Node.settle_samePorts (x : Node) : x.samePorts x.settle := by
  unfold Node.settle
  split <;> exact x.samePorts_refl

theorem Node.synced_port (x : Node) (p s claim phase now : Nat) (hlen : p < x.ports.length) :
    ((x.synced p s claim phase now).port p).syncIs s claim (now - phase * 5 * 2 ^ 36) := by
  obtain ⟨y, hy⟩ : ∃ y, y = (x.newPeriod p).modPort p (fun y => (((x.port p).changes.filter (fun c => seqCome c.1 s)).map (·.2)).foldl NodePort.change
    { y with claim := claim, syncSeq := some s, syncAt := now - phase * 5 * 2 ^ 36, eblk := false, changes := (x.port p).changes.filter (fun c => !(seqCome c.1 s)) }) := ⟨_, rfl⟩
  have hnew : p < (x.newPeriod p).ports.length := by simpa [Node.newPeriod, Node.modPort, modAt] using hlen
  have hport : (y.port p).syncIs s claim (now - phase * 5 * 2 ^ 36) := by
    rw [hy, Node.modPort_port _ p _ hnew]
    exact NodePort.changes_syncIs _ _ _ _ _ ⟨rfl, rfl, rfl, rfl⟩
  have hsame : y.samePorts (x.synced p s claim phase now) := by
    unfold Node.synced
    rw [← hy]
    exact Node.samePorts_trans (y.sendResp_sends p).1 (Node.settle_samePorts _)
  exact NodePort.syncIs_of_sameSync (hsame p) hport

/-- A valid SYNC on port `p`: the port has it, and an admitted one takes the node into its period. -/
theorem Node.onSync_shows (x : Node) (p s claim phase now v : Nat) (tmp : Bool) (hlen : p < x.ports.length) :
    ((x.onSync p s claim phase now v tmp).port p).syncIs s claim (now - phase * 5 * 2 ^ 36) ∧
    (((x.onSync p s claim phase now v tmp).port p).admitted = true →
      (x.onSync p s claim phase now v tmp).lastValid = some now ∧ (x.onSync p s claim phase now v tmp).inPeriod s) := by
  have hsync := x.synced_port p s claim phase now hlen
  rw [x.onSync_eq]
  split
  case isTrue hout => exact ⟨hsync, fun hadm => absurd hadm (by simpa using hout)⟩
  case isFalse =>
    obtain ⟨hports, hlast, hin⟩ := Node.syncAction_begins { x.synced p s claim phase now with lastValid := some now } p s now v tmp
    exact ⟨NodePort.syncIs_of_sameSync (hports p) hsync, fun _ => ⟨hlast, hin⟩⟩

-- What a node receives -----------------------------------------------------------------------------------------------------------------------

/-- What port `p` of node `n` receives in block lock. -/
theorem onDev_atPort (s : State) (n p : Nat) (f : Dev → Dev) (d : Dev) (hp : p < 2) (hlock : ((s.dev.node n).port p).lock = true) (h : f s.dev = d) :
    onDev (fun x => x.unit p 2 (fun y => y.atPort n p f)) s = .next { s with dev := d } := by
  have hrun : s.dev.unit p 2 (fun y => y.atPort n p f) = f s.dev := (if_pos hp).trans (if_pos hlock)
  exact next_congr s (hrun.trans h)

theorem onDev_unlocked (s : State) (n p : Nat) (f : Dev → Dev) (hlock : ((s.dev.node n).port p).lock = false) :
    onDev (fun x => x.unit p 2 (fun y => y.atPort n p f)) s = .next s := by
  have hrun : s.dev.unit p 2 (fun y => y.atPort n p f) = s.dev := by
    unfold Dev.unit Dev.atPort
    split
    · exact if_neg (by rw [hlock]; exact Bool.false_ne_true)
    · rfl
  exact next_same s _ hrun

theorem Node.onFrame_keeps (x : Node) (p : Nat) (bs : List Dword) (c : NodeCmd) (hadm : (x.port p).admitted = true) (hsm : x.sm = true)
    (hread : readFrame x.ident.addr x.ident.arm (x.port p).cslot bs = some c) (hclaim : c.claim ≠ 0) (heblk : (x.port p).eblk = false)
    (hnew : (x.port p).pending.map (·.seq) ≠ some c.seq) : x.onFrame p bs = (x.forward p bs).modPort p (fun z => { z with pending := some c }) := by
  have hgo : (!((x.forward p bs).port p).admitted || !(x.forward p bs).sm) = false := by
    show (!(x.port p).admitted || !x.sm) = false
    rw [hadm, hsm]
    rfl
  have hread' : readFrame (x.forward p bs).ident.addr (x.forward p bs).ident.arm ((x.forward p bs).port p).cslot bs = some c := hread
  unfold Node.onFrame
  simp only [hgo, Bool.false_eq_true, if_false, hread']
  refine if_neg ?_
  show ¬(c.claim = 0 ∨ (x.port p).eblk = true ∨ (x.port p).pending.map (·.seq) = some c.seq)
  simp [hclaim, heblk, hnew]

theorem Node.onFrame_refuses (x : Node) (p : Nat) (bs : List Dword) (c : NodeCmd) (hadm : (x.port p).admitted = true) (hsm : x.sm = true)
    (hread : readFrame x.ident.addr x.ident.arm (x.port p).cslot bs = some c) (hno : c.claim = 0 ∨ (x.port p).eblk = true) : x.onFrame p bs = x.forward p bs := by
  have hgo : (!((x.forward p bs).port p).admitted || !(x.forward p bs).sm) = false := by
    show (!(x.port p).admitted || !x.sm) = false
    rw [hadm, hsm]
    rfl
  have hread' : readFrame (x.forward p bs).ident.addr (x.forward p bs).ident.arm ((x.forward p bs).port p).cslot bs = some c := hread
  unfold Node.onFrame
  simp only [hgo, Bool.false_eq_true, if_false, hread']
  refine if_pos ?_
  show c.claim = 0 ∨ (x.port p).eblk = true ∨ (x.port p).pending.map (·.seq) = some c.seq
  exact hno.imp_right Or.inl

/-- A port after an emergency block. -/
def NodePort.dropped (q : NodePort) : NodePort := { q with pending := none, current := none, eblk := true, claim := 0 }

/-- The node with the commands of port `p` dropped (R340). -/
def Node.dropCmds (x : Node) (p : Nat) : Node :=
  { x.modPort p NodePort.dropped with waitFor := x.waitFor.map (fun (w : NodeWait) => { w with cmds := setAt w.cmds p none }) }

theorem Node.raiseFlash_flashOnly (x : Node) (cls : Nat) : x.raiseFlash cls = { x with flash := (x.raiseFlash cls).flash } := by
  unfold Node.raiseFlash
  split <;> rfl

/-- An emergency block drops the commands of its port; beyond that it may move what the node follows, but neither ports nor waits. -/
theorem Node.onEblk_shows (x : Node) (p : Nat) :
    (x.onEblk p).ports = (x.dropCmds p).ports ∧ (x.onEblk p).waitFor = (x.dropCmds p).waitFor ∧
    ((x.port (1 - p)).current = none → (x.port p).admitted = true → x.follows = true → x.src = p → (x.onEblk p).legs = {} ∧ (x.onEblk p).follows = false) := by
  have happly : ∀ (o : Nat) (c : NodeCmd), ((x.dropCmds p).applyCmd o c).ports = (x.dropCmds p).ports ∧ ((x.dropCmds p).applyCmd o c).waitFor = (x.dropCmds p).waitFor := by
    intro o c
    unfold Node.applyCmd
    dsimp only
    split
    · rw [Node.raiseFlash_flashOnly]
      exact ⟨rfl, rfl⟩
    · exact ⟨rfl, rfl⟩
  have hrun : x.onEblk p = if !(x.port p).admitted || !x.follows || x.src ≠ p then x.dropCmds p
      else match (x.port (1 - p)).current with
        | some c => if some c.seq = x.seq ∧ c.claim ≠ 0 then { (x.dropCmds p).applyCmd (1 - p) c with missRun := x.missRun } else (x.dropCmds p).blockLegs
        | none => (x.dropCmds p).blockLegs := rfl
  rw [hrun]
  split
  case isTrue hout => exact ⟨rfl, rfl, fun _ hadm hfollows hsrc => absurd hout (by simp [hadm, hfollows, hsrc])⟩
  case isFalse =>
    split
    case h_1 c hc =>
      split
      · exact ⟨(happly _ c).1, (happly _ c).2, fun h => absurd (hc.symm.trans h) (by simp)⟩
      · exact ⟨rfl, rfl, fun _ _ _ _ => ⟨rfl, rfl⟩⟩
    case h_2 => exact ⟨rfl, rfl, fun _ _ _ _ => ⟨rfl, rfl⟩⟩

theorem nth_setAt_default {α : Type} (l : List α) (i : Nat) (d : α) : nth (setAt l i d) i d = d := by
  by_cases h : i < l.length
  · exact nth_setAt_self l i d d h
  · rw [nth_setAt_out l i d d (Nat.not_lt.1 h)]
    simp [nth, List.getElem?_eq_none (Nat.not_lt.1 h)]

theorem Node.dropCmds_shows (x : Node) (p : Nat) (hlen : p < x.ports.length) :
    (x.dropCmds p).port p = (x.port p).dropped ∧ ∀ w, (x.dropCmds p).waitFor = some w → nth w.cmds p none = none := by
  refine ⟨x.modPort_port p _ hlen, fun w hw => ?_⟩
  obtain ⟨v, -, rfl⟩ := Option.map_eq_some_iff.1 hw
  exact nth_setAt_default ..

-- Blocks of a downstream port ----------------------------------------------------------------------------------------------------------------

/-- A block sent into a block time that is free leaves in it (R322). -/
theorem Node.sendUp_blockAt (x : Node) (p t rank : Nat) (b : Dword) (hlen : p < x.ports.length) (hfree : ∀ z ∈ (x.port p).line, z.1 ≠ t) :
    (x.sendUp p t rank b).blockAt p t = b := by
  have hnone : (x.port p).line.find? (fun y => y.1 == t) = none := by
    rw [List.find?_eq_none]
    exact fun z hz => by simpa using hfree z hz
  unfold Node.sendUp
  simp only [hnone]
  unfold Node.blockAt
  rw [x.modPort_port p _ hlen]
  simp [List.find?_append, hnone]

theorem Node.onUp_flash (x : Node) (i t : Nat) (b : Dword) (y : DownPort) (hdown : x.down[i]? = some y) (hlock : y.lock = true) (hi : i < x.ident.downs)
    (htype : blockType b = 0x66) : x.onUp i t b true = if crcOk b then (if x.admitted then { x with flash := x.flash ||| bfld b 55 20 } else x) else x.raiseFlash 3 := by
  simp [Node.onUp, nth, hdown, hlock, hi, htype]

theorem Node.onUp_idle (x : Node) (i t : Nat) (b : Dword) (y : DownPort) (hdown : x.down[i]? = some y) (hlock : y.lock = true) (hi : i < x.ident.downs)
    (htype : blockType b = 0x1E) : (x.onUp i t b true).down[i]? = some { y with side := some (bfld b 55 55) } := by
  simp [Node.onUp, nth, hdown, hlock, hi, htype, modAt]

theorem Node.onUp_data (x : Node) (i t : Nat) (b : Dword) (y : DownPort) (p : Nat) (hdown : x.down[i]? = some y) (hlock : y.lock = true) (hi : i < x.ident.downs)
    (hside : y.side = some p) : x.onUp i t b false = x.sendUp p t (1 + i) b := by
  simp [Node.onUp, nth, hdown, hlock, hi, hside]

theorem Node.onUp_ignores (x : Node) (i t : Nat) (b : Dword) (control : Bool) (h : (nth x.down i {}).lock = false ∨ x.ident.downs ≤ i) : x.onUp i t b control = x := by
  refine if_pos ?_
  rcases h with h | h <;> simp [h]

-- A node by itself ---------------------------------------------------------------------------------------------------------------------------

theorem Node.raiseFlash_silent (x : Node) (cls : Nat) (h : x.admitted = false) : x.raiseFlash cls = x := by simp [Node.raiseFlash, h]

/-- A receiver that loses its lock has none, whatever receivers the node has. -/
theorem Node.unlock_locked (x : Node) (r : Nat) : (x.unlock r).locked r = false := by
  unfold Node.unlock Node.locked
  split
  case isTrue hlow =>
    by_cases hlen : r < x.ports.length
    · rw [x.modPort_port r _ hlen]
    · rw [x.modPort_port_out r _ (Nat.not_lt.1 hlen)]
      simp [Node.port, nth, List.getElem?_eq_none (Nat.not_lt.1 hlen)]
  case isFalse hhigh =>
    by_cases hlen : r - 2 < x.down.length
    · rw [nth_modAt_self _ _ _ _ hlen]
    · simp [nth, modAt, List.getElem?_eq_none (Nat.not_lt.1 hlen)]

theorem Node.loseLock_counts (x : Node) (r : Nat) (h : x.locked r = true) : (x.loseLock r).lockLosses = sat16 x.lockLosses 1 ∧ (x.loseLock r).locked r = false := by
  have hlosses : (x.unlock r).lockLosses = x.lockLosses := by
    unfold Node.unlock
    split <;> rfl
  have hrun : x.loseLock r = Node.raiseFlash { x.unlock r with lockLosses := sat16 (x.unlock r).lockLosses 1 } 3 := if_neg (by simp [h])
  rw [hrun, (Node.raiseFlash_frame _ 3).1, Node.raiseFlash_locked, hlosses]
  exact ⟨rfl, x.unlock_locked r⟩

/-- The node without a SYNC. -/
def Node.syncless (x : Node) : Node := { x with legs := {}, on := 0, off := 0, follows := false, syncLost := true, lost := true, waitFor := none }

theorem Node.syncLoss_due (x : Node) (t now : Nat) (hlast : x.lastValid = some t) (hadm : x.admitted = true)
    (hdue : t + 2 * (max (if (x.port 0).admitted then (x.port 0).tc else 0) (if (x.port 1).admitted then (x.port 1).tc else 0)) * rootU + 250 * nsU ≤ now) :
    x.syncLoss now = x.syncless := by
  unfold Node.syncLoss
  simp only [hlast, hadm, decide_eq_true hdue]
  exact if_pos rfl

/-- The wait that is over: the node follows the command of the port whose SYNC came first, when it is a candidate. -/
theorem Node.waitOver_shows (x : Node) (w : NodeWait) (now v : Nat) (tmp : Bool) (hwait : x.waitFor = some w) (hdue : w.till ≤ now) (y : Node) (hy : y = x.waitOver now v tmp) :
    y.waitFor = none ∧ y.seq = some w.seq ∧ y.ident = x.ident ∧ (nth w.cmds w.first none = none → y.follows = false ∧ y.missRun = x.missRun + 1) ∧
    (∀ c, nth w.cmds w.first none = some c → y.follows = true ∧ y.src = w.first ∧ y.missRun = 0) := by
  have hrun : x.waitOver now v tmp = Node.startPeriod { x with waited := some w } w.seq (if (nth w.cmds w.first none).isSome then some w.first else none) w.cmds w.first v tmp := by
    unfold Node.waitOver
    simp only [hwait]
    exact if_neg (Nat.not_lt.2 hdue)
  obtain ⟨-, -, hseq, hnone, hident, hout, hin⟩ := Node.startPeriod_shows { x with waited := some w } w.seq _ w.cmds w.first v tmp y (hy.trans hrun)
  refine ⟨hnone, hseq, hident, fun hc => hout ?_, fun c hc => hin w.first c ?_⟩
  · simp [hc, chosen]
  · simp [hc, chosen]

/-- A condition raises its flag and flashes (R320, R328). -/
theorem Node.raiseFlash_raises (x : Node) (cls : Nat) :
    (x.admitted = true → x.ident.arm ≤ 5 → (x.raiseFlash cls).flash = x.flash ||| 2 ^ (6 * cls + x.ident.arm)) ∧
    (x.admitted = false → (x.raiseFlash cls).flash = x.flash) :=
  ⟨fun hadm harm => x.raiseFlash_flash cls hadm harm, fun hfree => by rw [x.raiseFlash_silent cls hfree]⟩

theorem Node.cellFailure_shows (x : Node) : x.cellFailure = { x with fault := true, flash := x.cellFailure.flash } ∧
    (x.fault = true ∨ x.admitted = false → x.cellFailure.flash = x.flash) ∧
    (x.fault = false → x.admitted = true → x.ident.arm ≤ 5 → x.cellFailure.flash = x.flash ||| 2 ^ x.ident.arm) := by
  by_cases hfault : x.fault = true
  · have hrun : x.cellFailure = x := if_pos hfault
    rw [hrun]
    refine ⟨?_, fun _ => rfl, fun h => absurd (hfault.symm.trans h) (by simp)⟩
    rw [← hfault]
  · have hrun : x.cellFailure = Node.raiseFlash { x with fault := true } 0 := if_neg hfault
    obtain ⟨hraised, hsilent⟩ := Node.raiseFlash_raises { x with fault := true } 0
    have honly := Node.raiseFlash_flashOnly { x with fault := true } 0
    rw [hrun]
    refine ⟨honly, fun h => hsilent (h.resolve_left hfault), fun _ hadm harm => ?_⟩
    have hflash := hraised hadm harm
    rwa [Nat.mul_zero, Nat.zero_add] at hflash

/-- What the obligation says of a condition: its flag, its flash of class `cls`, and nothing else. -/
theorem Node.condition_shows (x : Node) (c : NodeFlag × Nat) (hc : c ∈ [(NodeFlag.overvolt, 1), (.desat, 2), (.rx11, 4), (.alarm, 5)]) (y : Node) (hy : y = x.condition c.1) :
    y = { x with overvolt := y.overvolt, rx11 := y.rx11, alarm := y.alarm, flash := y.flash } ∧
    (c.1 = .overvolt → y.overvolt = true) ∧ (c.1 = .rx11 → y.rx11 = true) ∧ (c.1 = .alarm → y.alarm = true) ∧
    (x.admitted = true → x.ident.arm ≤ 5 → y.flash = x.flash ||| 2 ^ (6 * c.2 + x.ident.arm)) ∧ (x.admitted = false → y.flash = x.flash) := by
  obtain ⟨z, hz, hrun, hover, hrx, halarm⟩ : ∃ z : Node, z = { x with overvolt := z.overvolt, rx11 := z.rx11, alarm := z.alarm } ∧ y = z.raiseFlash c.2 ∧
      (c.1 = .overvolt → z.overvolt = true) ∧ (c.1 = .rx11 → z.rx11 = true) ∧ (c.1 = .alarm → z.alarm = true) := by
    simp only [List.mem_cons, List.not_mem_nil, or_false] at hc
    obtain rfl | rfl | rfl | rfl := hc
    · exact ⟨{ x with overvolt := true }, rfl, hy, fun _ => rfl, nofun, nofun⟩
    · exact ⟨x, rfl, hy, nofun, nofun, nofun⟩
    · exact ⟨{ x with rx11 := true }, rfl, hy, nofun, fun _ => rfl, nofun⟩
    · exact ⟨{ x with alarm := true }, rfl, hy, nofun, nofun, fun _ => rfl⟩
  have honly := z.raiseFlash_flashOnly c.2
  obtain ⟨hraised, hsilent⟩ := z.raiseFlash_raises c.2
  have hkept : z.admitted = x.admitted ∧ z.ident = x.ident ∧ z.flash = x.flash := by
    rw [hz]
    exact ⟨rfl, rfl, rfl⟩
  obtain ⟨hadm, hident, hflash⟩ := hkept
  rw [hadm, hident, hflash, ← hrun] at hraised
  rw [hadm, hflash, ← hrun] at hsilent
  rw [← hrun] at honly
  rw [honly]
  refine ⟨?_, hover, hrx, halarm, hraised, hsilent⟩
  rw [hz]

-- O40 ----------------------------------------------------------------------------------------------------------------------------------------

theorem exec_nodeSync (s : State) (n p : Nat) (b : Dword) (hp : p < 2) (hlock : ((s.dev.node n).port p).lock = true) (hok : blockType b = 0x2D ∧ crcOk b = true) :
    ∃ v t, exec (.nodeSync n p b) s =
      .next { s with dev := s.dev.tookFree.setNode n (((s.dev.node n).onSync p (bfld b 55 40) (bfld b 39 24) (bfld b 23 17) s.dev.tmb.up v t).forward p [b]) } :=
  ⟨_, _, onDev_atPort s n p _ _ hp hlock (if_pos hok)⟩

theorem exec_nodeEblk (s : State) (n p : Nat) (b : Dword) (hp : p < 2) (hlock : ((s.dev.node n).port p).lock = true) (hok : blockType b = 0x33 ∧ crcOk b = true) :
    exec (.nodeEblk n p b) s = .next { s with dev := s.dev.setNode n (((s.dev.node n).onEblk p).forward p [b]) } :=
  onDev_atPort s n p _ _ hp hlock (congrArg (s.dev.setNode n) (if_pos hok))

theorem exec_nodeFlt (s : State) (n i slot : Nat) (control : Bool) (b : Dword) (hi : i < 2) :
    exec (.nodeFlt n ⟨i, slot, control, b⟩) s = .next { s with dev := s.dev.setNode n ((s.dev.node n).onUp i slot b control) } := next_congr s (if_pos hi)

theorem exec_nodeClearingWait (s : State) (n : Nat) :
    ∃ v t, exec (.nodeClearingWait n) s = .next { s with dev := s.dev.tookFree.setNode n ((s.dev.node n).waitOver s.dev.tmb.up v t) } := ⟨_, _, rfl⟩

/-- Settles O40. -/
theorem nodesReceiveAndAct : Obligations.NodesReceiveAndAct := by
  refine ⟨fun s n p b hp hlen hlock htype hcrc => ?sync, fun s n p b hp hlock hbad => onDev_atPort s n p _ _ hp hlock (if_neg hbad),
    fun s n p bs c hp hlock hadm hsm hread => ⟨fun hclaim heblk hnew => ?takes, fun hno => ?refuses⟩, fun s n p b hp hlen hlock htype hcrc => ?eblk,
    fun s n p b bs c hp hlock hc => ?unlocked, fun s n i slot control b y hi hdowns hdown hlock => ?up, fun s n i slot control b hi hout => ?ignored,
    fun s n t hlast hadm hdue => ?loss, fun s n w hwait hdue => ?waited, fun s n hwait => ?noWait, fun s n => ⟨_, rfl, (s.dev.node n).cellFailure_shows⟩,
    fun s n c hc => ⟨_, rfl, (s.dev.node n).condition_shows c hc _ rfl⟩, fun s n r hr hlocked => ⟨_, rfl, (s.dev.node n).loseLock_counts r hlocked⟩⟩
  case sync =>
    obtain ⟨v, t, hrun⟩ := exec_nodeSync s n p b hp hlock ⟨htype, hcrc⟩
    obtain ⟨⟨hseq, hclaim, hat, heblk⟩, hin⟩ := (s.dev.node n).onSync_shows p (bfld b 55 40) (bfld b 39 24) (bfld b 23 17) s.dev.tmb.up v t hlen
    exact ⟨v, t, _, hrun, rfl, hseq, hclaim, hat, heblk, hin⟩
  case takes =>
    exact onDev_atPort s n p _ _ hp hlock (congrArg (s.dev.setNode n) ((s.dev.node n).onFrame_keeps p bs c hadm hsm hread hclaim heblk hnew))
  case refuses =>
    exact onDev_atPort s n p _ _ hp hlock (congrArg (s.dev.setNode n) ((s.dev.node n).onFrame_refuses p bs c hadm hsm hread hno))
  case eblk =>
    obtain ⟨hports, hwait, hlegs⟩ := (s.dev.node n).onEblk_shows p
    obtain ⟨hport, hcmds⟩ := (s.dev.node n).dropCmds_shows p hlen
    have hsame : ∀ i, (((s.dev.node n).onEblk p).forward p [b]).port i = ((s.dev.node n).dropCmds p).port i := fun i => by
      show nth ((s.dev.node n).onEblk p).ports i {} = nth ((s.dev.node n).dropCmds p).ports i {}
      rw [hports]
    have hother : ((s.dev.node n).dropCmds p).port (1 - p) = (s.dev.node n).port (1 - p) := Node.modPort_port_ne _ p (1 - p) _ (by omega)
    refine ⟨_, exec_nodeEblk s n p b hp hlock ⟨htype, hcrc⟩, ?_⟩
    rw [hsame, hsame, hport, hother]
    exact ⟨rfl, rfl, rfl, rfl, fun w hw => hcmds w (hwait.symm.trans hw), hlegs⟩
  case unlocked =>
    simp only [List.mem_cons, List.not_mem_nil, or_false] at hc
    obtain rfl | rfl | rfl | rfl | rfl | rfl | rfl | rfl | rfl | rfl | rfl := hc <;> exact onDev_unlocked s n p _ hlock
  case up =>
    refine ⟨_, exec_nodeFlt s n i slot control b hi, fun hctl htype => ?_, fun hctl htype hcrc hadm => ?_, fun hctl htype hcrc hadm harm => ?_, fun p hdata hside hlen hfree => ?_⟩
    · rw [hctl]
      exact (s.dev.node n).onUp_idle i slot b y hdown hlock hdowns htype
    · rw [hctl, (s.dev.node n).onUp_flash i slot b y hdown hlock hdowns htype, if_pos hcrc, if_pos hadm]
    · rw [hctl, (s.dev.node n).onUp_flash i slot b y hdown hlock hdowns htype, hcrc, if_neg Bool.false_ne_true, Node.raiseFlash_flashOnly,
        Node.raiseFlash_flash _ 3 hadm harm]
    · rw [hdata, (s.dev.node n).onUp_data i slot b y p hdown hlock hdowns hside]
      exact (s.dev.node n).sendUp_blockAt p slot (1 + i) b hlen hfree
  case ignored =>
    exact (exec_nodeFlt s n i slot control b hi).trans (next_congr s (congrArg (s.dev.setNode n) ((s.dev.node n).onUp_ignores i slot b control hout)))
  case loss =>
    exact ⟨_, rfl, next_congr s (congrArg (s.dev.setNode n) ((s.dev.node n).syncLoss_due t s.dev.tmb.up hlast hadm hdue))⟩
  case waited =>
    obtain ⟨v, t, hrun⟩ := exec_nodeClearingWait s n
    exact ⟨_, hrun, (s.dev.node n).waitOver_shows w s.dev.tmb.up v t hwait hdue _ rfl⟩
  case noWait =>
    obtain ⟨v, t, hrun⟩ := exec_nodeClearingWait s n
    have hsame : (s.dev.node n).waitOver s.dev.tmb.up v t = s.dev.node n := by
      unfold Node.waitOver
      simp only [hwait]
    exact hrun.trans (next_congr s (congrArg (s.dev.tookFree.setNode n) hsame))

end Sys2Proof.Machine
end

section
/-! SUPPORT. O58. The scan jobs: what settling leaves of a job, and a pass that falls due or ends (R567, R568, R590). -/
namespace Sys2Proof.Machine

-- The jobs -----------------------------------------------------------------------------------------------------------------------------------

theorem Dev.setJob_job (d : Dev) (j : Nat) (x : Job) (h : j < d.jobs.length) : (d.setJob j x).job j = x := nth_setAt_self _ j x _ h

theorem Dev.setJob_length (d : Dev) (j : Nat) (x : Job) : (d.setJob j x).jobs.length = d.jobs.length := length_setAt ..

/-- `y` is `x` but for which of the passes due runs. -/
def Job.settled (x y : Job) : Prop := y = { x with st := y.st, startEpoch := y.startEpoch, moved := y.moved } ∧ (y.st = 0 ↔ x.st = 0)

theorem Job.settled_refl (x : Job) : x.settled x := ⟨rfl, Iff.rfl⟩

theorem Job.settled_trans {a b c : Job} (hab : a.settled b) (hbc : b.settled c) : a.settled c := by
  obtain ⟨hb, sb⟩ := hab
  obtain ⟨hc, sc⟩ := hbc
  refine ⟨?_, sc.trans sb⟩
  rw [hc, hb]

/-- A job put in the place of one it is settled from. -/
theorem Dev.setJob_settled (d : Dev) (j k : Nat) (y : Job) (h : (d.job j).settled y) : (d.job k).settled ((d.setJob j y).job k) := by
  rcases eq_or_ne j k with rfl | hne
  · by_cases hlen : j < d.jobs.length
    · rw [d.setJob_job j y hlen]
      exact h
    · have hout : (d.setJob j y).job j = d.job j := nth_setAt_out _ j y _ (Nat.not_lt.1 hlen)
      rw [hout]
      exact (d.job j).settled_refl
  · have hother : (d.setJob j y).job k = d.job k := nth_setAt_ne _ j k y _ hne
    rw [hother]
    exact (d.job k).settled_refl

/-- Settling of job `j`, when the pass of job `r` runs. -/
def Dev.settleJob (r : Option Nat) (x : Dev) (j : Nat) : Dev :=
  if (x.job j).st = 0 then x
  else if r = some j then
    (if (x.job j).st = 1 then x.setJob j { x.job j with st := 2, startEpoch := x.tmb.epoch, moved := false } else x.setJob j { x.job j with st := 2 })
  else if (x.job j).st = 2 then x.setJob j { x.job j with st := 3 } else x

theorem Dev.tlySettle_eq (d : Dev) : d.tlySettle = (List.range 8).foldl (Dev.settleJob d.runningJob) d := rfl

/-- Either nothing, or a new place of the pass of job `j`. -/
theorem Dev.settleJob_cases (r : Option Nat) (x : Dev) (j : Nat) : x.settleJob r j = x ∨ ∃ z, x.settleJob r j = x.setJob j z ∧ (x.job j).settled z := by
  unfold Dev.settleJob
  split
  case isTrue => exact Or.inl rfl
  case isFalse hdue =>
    split
    case isTrue =>
      split
      · exact Or.inr ⟨_, rfl, rfl, by simpa using hdue⟩
      · exact Or.inr ⟨_, rfl, rfl, by simpa using hdue⟩
    case isFalse =>
      split
      · exact Or.inr ⟨_, rfl, rfl, by simpa using hdue⟩
      · exact Or.inl rfl

/-- Settling chooses among the passes due which one runs, and moves nothing else. -/
theorem Dev.tlySettle_shows (d : Dev) : d.tlySettle = { d with jobs := d.tlySettle.jobs } ∧ ∀ k, (d.job k).settled (d.tlySettle.job k) := by
  rw [d.tlySettle_eq]
  refine foldl_keeps (fun y : Dev => y = { d with jobs := y.jobs } ∧ ∀ k, (d.job k).settled (y.job k)) (Dev.settleJob d.runningJob) (fun y j hy => ?_) (List.range 8) d
    ⟨rfl, fun k => (d.job k).settled_refl⟩
  obtain ⟨honly, hjobs⟩ := hy
  obtain hsame | ⟨z, hset, hz⟩ := y.settleJob_cases d.runningJob j
  · rw [hsame]
    exact ⟨honly, hjobs⟩
  · rw [hset]
    refine ⟨?_, fun k => Job.settled_trans (hjobs k) (y.setJob_settled j k z hz)⟩
    rw [honly]
    rfl

-- O58 ----------------------------------------------------------------------------------------------------------------------------------------

theorem exec_tlyPassDue (s : State) (j t : Nat) (hj : j < 8) (hdue : (s.dev.job j).dueAt = some t) (htime : t ≤ s.dev.tmb.up) :
    exec (.tlyPassDue j) s = .next { s with dev := (s.dev.setJob j { s.dev.job j with dueAt := s.dev.nextPass j t }).passNow j } := by
  have hrun : s.dev.passDue j = (s.dev.setJob j { s.dev.job j with dueAt := s.dev.nextPass j t }).passNow j := by
    unfold Dev.passDue
    simp only [hdue]
    exact if_pos htime
  exact next_congr s ((if_pos hj).trans hrun)

/-- A pass falls due: it is late while THROTTLE holds or one is under way (R567, R590), or it is begun. -/
theorem Dev.passNow_late (d : Dev) (j : Nat) (hlen : j < d.jobs.length) (hbusy : d.thm.throttle = true ∨ (d.job j).st ≠ 0) (e : Dev) (he : e = d.passNow j) :
    e = { d with jobs := e.jobs, sticky := e.sticky, clears := e.clears } ∧ e.job j = { d.job j with lateCnt := sat16 (d.job j).lateCnt 1 } := by
  have hlate : (d.thm.throttle || (d.job j).st != 0) = true := by simpa using hbusy
  have hrun : d.passNow j = d.passLate j := if_pos hlate
  rw [he, hrun]
  exact ⟨rfl, d.setJob_job j _ hlen⟩

theorem Dev.passNow_begins (d : Dev) (j : Nat) (hlen : j < d.jobs.length) (hthr : d.thm.throttle = false) (hst : (d.job j).st = 0) (e : Dev) (he : e = d.passNow j) :
    e = { d with jobs := e.jobs } ∧ (e.job j).st ≠ 0 ∧ (e.job j).lateCnt = (d.job j).lateCnt ∧ (e.job j).dueAt = (d.job j).dueAt := by
  have hrun : d.passNow j = (d.setJob j { d.job j with st := 1 }).tlySettle := if_neg (by simp [hthr, hst])
  obtain ⟨honly, hjobs⟩ := (d.setJob j { d.job j with st := 1 }).tlySettle_shows
  obtain ⟨hkept, hzero⟩ := hjobs j
  rw [← hrun, ← he] at honly hkept hzero
  rw [d.setJob_job j _ hlen] at hkept hzero
  refine ⟨?_, fun h => absurd (hzero.1 h) (by simp), ?_, ?_⟩
  · rw [honly]
    rfl
  · rw [hkept]
  · rw [hkept]

/-- The result of a pass, and the device that has taken it: a free value where the model does not know the bytes. -/
def Dev.passResult (d : Dev) (dram : List Host.Cell) (j : Nat) : Dev × Nat :=
  match d.scanBytes dram j with
  | some bs => (d, polyOf (fld (d.act (R.TLY_JOBj_CFG j)) 21 20) bs)
  | none =>
    let p := fld (d.act (R.TLY_JOBj_CFG j)) 21 20
    (d.tookFree, Config.free d.free % (if p = 2 then 2 ^ 64 else if p = 3 then 2 ^ 16 else 2 ^ 32))

/-- `d` with the events of a pass. -/
def Dev.passEvents (d : Dev) (j : Nat) (mism ue : Bool) (crc addr : List Word) : Dev :=
  let d2 := if mism then (d.setSticky (R.TLY_JOBj_STAT j) 0x08000000).raise Sub.tly j (R.TLY_JOBj_STAT j) 0x08000000 crc else d
  if ue then d2.raise Sub.tly j (R.TLY_JOBj_UE_ADDR j) 0 addr else d2

theorem Dev.passEvents_only (d : Dev) (j : Nat) (mism ue : Bool) (crc addr : List Word) :
    d.passEvents j mism ue crc addr =
      { d with sticky := (d.passEvents j mism ue crc addr).sticky, clears := (d.passEvents j mism ue crc addr).clears, pci := (d.passEvents j mism ue crc addr).pci } := by
  unfold Dev.passEvents
  cases mism <;> cases ue <;> rfl

/-- The end of a pass that is under way: the job takes its result, its events are raised, and the passes due are settled. -/
theorem Dev.passDone_runs (d : Dev) (dram : List Host.Cell) (j corrected : Nat) (bad : List Nat) (hst : (d.job j).st = 2) (hrestart : (d.job j).restart = false) :
    ∃ (y : Job) (mism ue : Bool) (crc addr : List Word),
      d.passDone dram j corrected bad = (((d.passResult dram j).1.setJob j y).passEvents j mism ue crc addr).tlySettle ∧
      y.st = 0 ∧ y.passes = sat16 (d.job j).passes 1 ∧ y.resLo = (d.passResult dram j).2 % 2 ^ 32 ∧ y.resHi = (d.passResult dram j).2 / 2 ^ 32 := by
  unfold Dev.passDone Dev.passResult
  simp only [hst, hrestart, ne_eq, not_true_eq_false, Bool.false_eq_true, or_self, if_false]
  cases d.scanBytes dram j with
  | none => exact ⟨_, _, _, _, _, rfl, rfl, rfl, rfl, rfl⟩
  | some bs => exact ⟨_, _, _, _, _, rfl, rfl, rfl, rfl, rfl⟩

theorem Dev.passResult_only (d : Dev) (dram : List Host.Cell) (j : Nat) : (d.passResult dram j).1 = { d with free := (d.passResult dram j).1.free } := by
  unfold Dev.passResult
  split <;> rfl

theorem Dev.passResult_known (d : Dev) (dram : List Host.Cell) (j : Nat) (bs : List Nat) (h : d.scanBytes dram j = some bs) :
    d.passResult dram j = (d, polyOf (d.afld (R.TLY_JOBj_CFG j) 21 20) bs) := by
  unfold Dev.passResult
  simp only [h]
  rfl

/-- The job and the rest of the device after a pass. -/
theorem Dev.passDone_ends (d : Dev) (dram : List Host.Cell) (j corrected : Nat) (bad : List Nat) (hlen : j < d.jobs.length) (hst : (d.job j).st = 2)
    (hrestart : (d.job j).restart = false) (e : Dev) (he : e = d.passDone dram j corrected bad) :
    e = { d with jobs := e.jobs, sticky := e.sticky, clears := e.clears, pci := e.pci, free := (d.passResult dram j).1.free } ∧ (e.job j).st = 0 ∧
      (e.job j).passes = sat16 (d.job j).passes 1 ∧ (e.job j).resLo = (d.passResult dram j).2 % 2 ^ 32 ∧ (e.job j).resHi = (d.passResult dram j).2 / 2 ^ 32 := by
  obtain ⟨y, mism, ue, crc, addr, hrun, yst, ypasses, ylo, yhi⟩ := d.passDone_runs dram j corrected bad hst hrestart
  obtain ⟨x, hx⟩ : ∃ x, x = (d.passResult dram j).1 := ⟨_, rfl⟩
  have hfree := d.passResult_only dram j
  rw [← hx] at hrun hfree ⊢
  have hxlen : j < x.jobs.length := by rw [hfree]; exact hlen
  have hevents := (x.setJob j y).passEvents_only j mism ue crc addr
  obtain ⟨z, hz⟩ : ∃ z, z = (x.setJob j y).passEvents j mism ue crc addr := ⟨_, rfl⟩
  rw [← hz] at hrun hevents
  obtain ⟨honly, hjobs⟩ := z.tlySettle_shows
  rw [← hrun, ← he] at honly hjobs
  have hzjob : z.job j = y := by
    rw [hevents]
    exact x.setJob_job j y hxlen
  obtain ⟨hkept, hzero⟩ := hjobs j
  rw [hzjob] at hkept hzero
  refine ⟨?_, hzero.2 yst, ?_, ?_, ?_⟩
  · rw [honly, hevents, hfree]
    rfl
  · rw [hkept, ← ypasses]
  · rw [hkept, ← ylo]
  · rw [hkept, ← yhi]

theorem exec_tlyPassComplete (s : State) (j corrected : Nat) (bad : List Nat) (hj : j < 8) :
    exec (.tlyPassComplete j corrected bad) s = .next { s with dev := s.dev.passDone s.dram j corrected bad } := next_congr s (if_pos hj)

/-- Settles O58. -/
theorem scanPassesRunAndEnd : Obligations.ScanPassesRunAndEnd := by
  refine ⟨fun s j t hj hlen hdue htime => ?due, fun s j corrected bad hj hlen hst hrestart => ?done⟩
  case due =>
    refine ⟨_, exec_tlyPassDue s j t hj hdue htime, ?_⟩
    obtain ⟨d, hd⟩ : ∃ d, d = s.dev.setJob j { s.dev.job j with dueAt := s.dev.nextPass j t } := ⟨_, rfl⟩
    have hjob : d.job j = { s.dev.job j with dueAt := s.dev.nextPass j t } := hd ▸ s.dev.setJob_job j _ hlen
    have hdlen : j < d.jobs.length := by rw [hd, s.dev.setJob_length]; exact hlen
    have hthr : d.thm = s.dev.thm := by rw [hd]; rfl
    rw [← hd]
    by_cases hbusy : d.thm.throttle = true ∨ (d.job j).st ≠ 0
    · obtain ⟨honly, hlate⟩ := d.passNow_late j hdlen hbusy _ rfl
      rw [hlate, hjob]
      refine ⟨?_, rfl, fun hfree hst => ?_, fun _ => ⟨rfl, rfl⟩⟩
      · rw [honly, hd]
        rfl
      · rw [hthr, hjob] at hbusy
        exact absurd hbusy (by simp [hfree, hst])
    · have hst : (d.job j).st = 0 := by simpa using fun h => hbusy (Or.inr h)
      have hfree : d.thm.throttle = false := by simpa using fun h => hbusy (Or.inl h)
      obtain ⟨honly, hbegun, hlate, hnext⟩ := d.passNow_begins j hdlen hfree hst _ rfl
      rw [hlate, hnext, hjob]
      refine ⟨?_, rfl, fun _ _ => ⟨hbegun, rfl⟩, fun h => absurd ?_ hbusy⟩
      · rw [honly, hd]
        rfl
      · rw [hthr, hjob]
        exact h
  case done =>
    obtain ⟨honly, hend, hpasses, hlo, hhi⟩ := s.dev.passDone_ends s.dram j corrected bad hlen hst hrestart _ rfl
    refine ⟨_, exec_tlyPassComplete s j corrected bad hj, ?_, hend, hpasses, fun bs hbs => ?_⟩
    · rw [honly]
    · rw [hlo, hhi, honly, s.dev.passResult_known s.dram j bs hbs]
      exact ⟨rfl, rfl, rfl⟩

end Sys2Proof.Machine
end

section
/-! SUPPORT. O49. Scheduled actions by command register, and the time-triggered outputs (R445, R447, R448, R450, R452). -/
namespace Sys2Proof.Machine

-- Outputs ------------------------------------------------------------------------------------------------------------------------------------

theorem Dev.setTt_tt (d : Dev) (n : Nat) (x : Tt) (h : n < d.tmb.tt.length) : (d.setTt n x).tt n = x := nth_setAt_self _ n x _ h

theorem Dev.setTt_tt_ne (d : Dev) (n m : Nat) (x : Tt) (h : m ≠ n) : (d.setTt n x).tt m = d.tt m := nth_setAt_ne _ n m x _ (Ne.symm h)

/-- A look at the output's edge moves neither station time nor the system controller. -/
theorem Dev.ttEdge_frame (d before : Dev) (n : Nat) : (d.ttEdge before n).tmb = d.tmb ∧ (d.ttEdge before n).sys = d.sys := by
  obtain ⟨hsys, htmb, -⟩ := d.ttEdge_steady before n
  exact ⟨htmb, hsys⟩

theorem Dev.tt_congr {a b : Dev} (h : a.tmb = b.tmb) (n : Nat) : a.tt n = b.tt n := by rw [Dev.tt, h, Dev.tt]

theorem Dev.sched_congr {a b : Dev} (h : a.tmb = b.tmb) (e : Nat) : a.sched e = b.sched e := by rw [Dev.sched, h, Dev.sched]

/-- A pulse that begins is one more end to come for its output. -/
theorem Dev.ttBegin_shows (d : Dev) (n t ns : Nat) (h : n < d.tmb.tt.length) :
    ((d.ttBegin n t ns).tt n).ends = (d.tt n).ends ++ [d.edgeAt t + ns * nsU] ∧ ((d.ttBegin n t ns).tt n).next = (d.tt n).next ∧
    (d.ttBegin n t ns).sys = d.sys ∧ (∀ m, m ≠ n → (d.ttBegin n t ns).tt m = d.tt m) ∧ ∀ e, (d.ttBegin n t ns).sched e = d.sched e := by
  obtain ⟨y, hy⟩ : ∃ y, y = d.setTt n { d.tt n with ends := (d.tt n).ends ++ [d.edgeAt t + ns * nsU], coarse := d.clk.fallback } := ⟨_, rfl⟩
  have hrun : d.ttBegin n t ns = y.ttEdge d n := by rw [hy]; rfl
  obtain ⟨htmb, hsys⟩ := y.ttEdge_frame d n
  have hpulse : y.tt n = { d.tt n with ends := (d.tt n).ends ++ [d.edgeAt t + ns * nsU], coarse := d.clk.fallback } := by rw [hy, d.setTt_tt n _ h]
  rw [hrun, hsys, Dev.tt_congr htmb n, hpulse]
  refine ⟨rfl, rfl, by rw [hy]; rfl, fun m hm => ?_, fun e => ?_⟩
  · rw [Dev.tt_congr htmb m, hy, d.setTt_tt_ne n m _ hm]
  · rw [Dev.sched_congr htmb e, hy]
    rfl

theorem exec_ttPulseStart (s : State) (n : Nat) (hn : n < 8) : exec (.ttPulseStart n) s = .next { s with dev := s.dev.ttStart n } := next_congr s (if_pos hn)

theorem exec_ttPulseEnd (s : State) (n : Nat) (hn : n < 8) : exec (.ttPulseEnd n) s = .next { s with dev := s.dev.ttEnd n } := next_congr s (if_pos hn)

/-- The output with its next periodic pulse behind the one of `t`. -/
def Dev.ttAdvanced (d : Dev) (n t : Nat) : Dev := d.setTt n { d.tt n with next := some (t + (d.act (R.TMB_TTn_PERIOD n)).toNat * nsU) }

theorem Dev.ttStart_periodic (d : Dev) (n t : Nat) (hmode : d.ttMode n = 1) (hnext : (d.tt n).next = some t) (hdue : t ≤ d.tmb.now) :
    d.ttStart n = (d.ttAdvanced n t).ttBegin n t (d.act (R.TMB_TTn_WIDTH n)).toNat := by
  unfold Dev.ttStart
  rw [if_pos hmode]
  simp only [hnext]
  exact if_pos hdue

/-- The one-shot entry whose time has come on output `n`. -/
def Dev.ttDueEntry (d : Dev) (n : Nat) : Option Nat :=
  (List.range 16).find? (fun i => (d.sched i).st == 1 && d.schedKind i == 4 && d.schedTarget i == n && decide (d.schedT i ≤ d.tmb.now))

theorem Dev.ttStart_oneShot (d : Dev) (n e : Nat) (hmode : d.ttMode n = 2) (hfind : d.ttDueEntry n = some e) :
    d.ttStart n = (d.schedFinal e 2 0 0 d.tmb.epoch).ttBegin n (d.schedT e) (d.schedValue e).toNat := by
  unfold Dev.ttDueEntry at hfind
  unfold Dev.ttStart
  rw [if_neg (by rw [hmode]; decide), if_pos hmode]
  simp only [hfind]

-- Arming -------------------------------------------------------------------------------------------------------------------------------------

theorem Dev.armEntry_missed (d : Dev) (e : Nat) (ref : Option CompRef) (hcode : d.armCode e = 0) (htime : d.schedKind e = 4 ∧ d.schedT e < d.tmb.now + 100 * nsU) :
    d.arm e ref = (d.programmed e ref).ttMissed e := by
  unfold Dev.arm
  dsimp only
  rw [Dev.armCode_setSched, if_neg (fun h => h hcode)]
  exact if_pos htime

/-- A missed pulse ends its entry and counts for its output (R452, R453). -/
theorem Dev.ttMissed_shows (d : Dev) (e : Nat) (he : e < d.tmb.sched.length) :
    ((d.ttMissed e).sched e).st = 4 ∧ (d.ttMissed e).sys = d.sys ∧ (d.ttMissed e).rw = d.rw ∧ (d.ttMissed e).tmb.now = d.tmb.now ∧
    (d.schedTarget e < d.tmb.tt.length → ((d.ttMissed e).tt (d.schedTarget e)).missed = sat16 (d.tt (d.schedTarget e)).missed 1) := by
  obtain ⟨hsys, hrw, -⟩ := d.schedFinal_frame e 4 0 0 0
  have hsched := d.schedFinal_sched e 4 0 0 0 he
  have honly := d.schedFinal_only e 4 0 0 0
  refine ⟨congrArg Sched.st hsched, hsys, hrw, ?_, fun hlen => ?_⟩
  · show (d.schedFinal e 4 0 0 0).tmb.now = d.tmb.now
    rw [honly]
    rfl
  · have htt : (d.schedFinal e 4 0 0 0).tmb.tt = d.tmb.tt := by
      rw [honly]
      rfl
    exact congrArg Tt.missed ((d.schedFinal e 4 0 0 0).setTt_tt _ _ (by rw [htt]; exact hlen))

theorem exec_schedCmdArm (s : State) (e : Nat) (he : e < 16) (hopen : s.dev.bar0Open R.TMB_SCHED_CMD (s.dev.schedLevel (s.dev.schedKind e) (s.dev.schedTarget e)) = true) :
    exec (.schedCmdArm e) s = .next { s with dev := if (s.dev.sched e).st = 1 then s.dev.accessFault none 5 R.TMB_SCHED_CMD true else s.dev.arm e none } := by
  have hrun : s.dev.armWrite e = if (s.dev.sched e).st = 1 then s.dev.accessFault none 5 R.TMB_SCHED_CMD true else s.dev.arm e none := by
    unfold Dev.armWrite
    dsimp only
    rw [Nat.mod_eq_of_lt he]
    exact Dev.bar0CmdElse_open s.dev _ _ _ _ hopen
  exact next_congr s hrun

theorem exec_schedCmdCancel (s : State) (e : Nat) (he : e < 16) (hopen : s.dev.bar0Open R.TMB_SCHED_CMD (s.dev.schedLevel (s.dev.schedKind e) (s.dev.schedTarget e)) = true) :
    exec (.schedCmdCancel e) s = .next { s with dev := s.dev.schedCancel e } := by
  have hrun : s.dev.cancelWrite e = s.dev.schedCancel e := by
    unfold Dev.cancelWrite
    dsimp only
    rw [Nat.mod_eq_of_lt he]
    exact Dev.bar0Cmd_open s.dev _ _ _ hopen
  exact next_congr s hrun

/-- What the obligation says of an ARM of an entry that is not pending. -/
theorem Dev.armEntry_shows (d : Dev) (e : Nat) (he : e < d.tmb.sched.length) (x : Dev) (hx : x = d.arm e none) :
    x.rw = d.rw ∧ x.tmb.now = d.tmb.now ∧ (d.armCode e ≠ 0 → (x.sched e).st = 5 ∧ (x.sched e).result = d.armCode e ∧ x.sys = d.sys) ∧
    (d.armCode e = 0 → d.schedKind e = 4 → d.schedT e < d.tmb.now + 100 * nsU → (x.sched e).st = 4 ∧ x.sys = d.sys ∧
      (d.schedTarget e < d.tmb.tt.length → (x.tt (d.schedTarget e)).missed = sat16 (d.tt (d.schedTarget e)).missed 1)) ∧
    (d.armCode e = 0 → ¬(d.schedKind e = 4 ∧ d.schedT e < d.tmb.now + 100 * nsU) → (x.sched e).st = 1 ∧ (x.sched e).prog = d.stampNow ∧
      x.sys.commitReqs = if d.schedKind e = 1 then d.sys.commitReqs ++ [⟨false, none, .entry e, d.stampNow⟩] else d.sys.commitReqs) := by
  have hplen : e < (d.programmed e none).tmb.sched.length := by
    rw [show (d.programmed e none).tmb.sched.length = d.tmb.sched.length from d.setSched_length e _]
    exact he
  have hprog : (d.programmed e none).sched e = { d.sched e with ref := none, prog := d.stampNow, late := false, lateNs := 0, result := 0 } := d.setSched_sched e _ he
  by_cases hcode : d.armCode e = 0
  case neg =>
    have hrun := d.armEntry_refused e none hcode
    obtain ⟨hsys, hrw, -⟩ := (d.programmed e none).schedFinal_frame e 5 (d.armCode e) 0 0
    have hsched := (d.programmed e none).schedFinal_sched e 5 (d.armCode e) 0 0 hplen
    have hnow : ((d.programmed e none).schedFinal e 5 (d.armCode e) 0 0).tmb.now = d.tmb.now := by
      rw [Dev.schedFinal_only]
      rfl
    rw [hx, hrun]
    exact ⟨hrw, hnow, fun _ => ⟨congrArg Sched.st hsched, congrArg Sched.result hsched, hsys⟩, fun h => absurd h hcode, fun h => absurd h hcode⟩
  case pos =>
    by_cases htime : d.schedKind e = 4 ∧ d.schedT e < d.tmb.now + 100 * nsU
    · obtain ⟨hst, hsys, hrw, hnow, hmissed⟩ := (d.programmed e none).ttMissed_shows e hplen
      rw [hx, d.armEntry_missed e none hcode htime]
      exact ⟨hrw, hnow, fun h => absurd hcode h, fun _ _ _ => ⟨hst, hsys, hmissed⟩, fun _ h => absurd htime h⟩
    · obtain ⟨hst, -, hrw, -, hreqs⟩ := d.armEntry_pending e none hcode htime he
      have hprogst : ((d.arm e none).sched e).prog = d.stampNow ∧ (d.arm e none).tmb.now = d.tmb.now := by
        have hset := (d.programmed e none).setSched_sched e { (d.programmed e none).sched e with st := 1 } hplen
        have hstamp : ((d.programmed e none).sched e).prog = d.stampNow := by rw [hprog]
        rw [d.armEntry_waits e none hcode htime]
        split
        · exact ⟨(congrArg Sched.prog hset).trans hstamp, rfl⟩
        · exact ⟨(congrArg Sched.prog hset).trans hstamp, rfl⟩
      obtain ⟨hstamp, hnow⟩ := hprogst
      rw [hx]
      exact ⟨hrw, hnow, fun h => absurd hcode h, fun _ hkind hnear => absurd ⟨hkind, hnear⟩ htime, fun _ _ => ⟨hst, hstamp, hreqs⟩⟩

/-- Settles O49. -/
theorem scheduledActionsAndPulses : Obligations.ScheduledActionsAndPulses := by
  refine ⟨fun s e he hlen hopen hst => ?arm, fun s e he hopen hst => ?again, fun s e he hlen hopen hst => ?cancel, fun s n t hn hlen hmode hnext hdue => ?periodic,
    fun s n e hn hlen helen hmode hfind => ?oneShot, fun s n hn hlen => ?ends⟩
  case arm =>
    exact ⟨_, (exec_schedCmdArm s e he hopen).trans (next_congr s (if_neg hst)), s.dev.armEntry_shows e hlen _ rfl⟩
  case again =>
    obtain ⟨honly, hofs, -⟩ := s.dev.accessFault_shows none 5 R.TMB_SCHED_CMD true (by decide) (by decide)
    exact ⟨_, (exec_schedCmdArm s e he hopen).trans (next_congr s (if_pos hst)), honly, hofs⟩
  case cancel =>
    obtain ⟨hended, hreqs, -⟩ := s.dev.schedCancel_pending e hlen hst
    refine ⟨_, exec_schedCmdCancel s e he hopen, hended, ?_, hreqs⟩
    have hrun : s.dev.schedCancel e = { s.dev.schedFinal e 6 0 0 0 with
        sys := { (s.dev.schedFinal e 6 0 0 0).sys with commitReqs := (s.dev.schedFinal e 6 0 0 0).sys.commitReqs.filter (fun r => r.origin != .entry e) } } := if_pos hst
    rw [hrun, (s.dev.schedFinal_frame e 6 0 0 0).1]
  case periodic =>
    have hnow : (s.dev.ttAdvanced n t).tt n = { s.dev.tt n with next := some (t + (s.dev.act (R.TMB_TTn_PERIOD n)).toNat * nsU) } := s.dev.setTt_tt n _ hlen
    have hlen' : n < (s.dev.ttAdvanced n t).tmb.tt.length := (length_setAt s.dev.tmb.tt n _).symm ▸ hlen
    obtain ⟨hends, hnext', hsys, hother, -⟩ := (s.dev.ttAdvanced n t).ttBegin_shows n t (s.dev.act (R.TMB_TTn_WIDTH n)).toNat hlen'
    refine ⟨_, (exec_ttPulseStart s n hn).trans (next_congr s (s.dev.ttStart_periodic n t hmode hnext hdue)), ?_, ?_, hsys, fun m hm => ?_⟩
    · rw [hnext', hnow]
    · rw [hends, hnow]
      rfl
    · rw [hother m hm]
      exact s.dev.setTt_tt_ne n m _ hm
  case oneShot =>
    obtain ⟨d, hd⟩ : ∃ d, d = s.dev.schedFinal e 2 0 0 s.dev.tmb.epoch := ⟨_, rfl⟩
    have honly := s.dev.schedFinal_only e 2 0 0 s.dev.tmb.epoch
    rw [← hd] at honly
    have hlen' : n < d.tmb.tt.length := by rw [honly]; exact hlen
    obtain ⟨hends, -, hsys, -, hsched⟩ := d.ttBegin_shows n (s.dev.schedT e) (s.dev.schedValue e).toNat hlen'
    have hrun := s.dev.ttStart_oneShot n e hmode hfind
    rw [← hd] at hrun
    refine ⟨_, (exec_ttPulseStart s n hn).trans (next_congr s hrun), ?_, ?_, ?_⟩
    · rw [hsched e, hd]
      exact congrArg Sched.st (s.dev.schedFinal_sched e 2 0 0 s.dev.tmb.epoch helen)
    · rw [hends, honly]
      rfl
    · rw [hsys, honly]
      rfl
  case ends =>
    obtain ⟨y, hy⟩ : ∃ y, y = s.dev.setTt n { s.dev.tt n with ends := (s.dev.tt n).ends.filter (fun t => decide (s.dev.tmb.up < t)), coarse := s.dev.clk.fallback } := ⟨_, rfl⟩
    have hrun : s.dev.ttEnd n = y.ttEdge s.dev n := by rw [hy]; rfl
    obtain ⟨htmb, hsys⟩ := y.ttEdge_frame s.dev n
    have hpulse : y.tt n = { s.dev.tt n with ends := (s.dev.tt n).ends.filter (fun t => decide (s.dev.tmb.up < t)), coarse := s.dev.clk.fallback } := by rw [hy, s.dev.setTt_tt n _ hlen]
    refine ⟨_, (exec_ttPulseEnd s n hn).trans (next_congr s hrun), ?_⟩
    rw [Dev.tt_congr htmb n, hpulse, hsys]
    refine ⟨rfl, rfl, by rw [hy]; rfl, fun m hm => ?_⟩
    rw [Dev.tt_congr htmb m, hy, s.dev.setTt_tt_ne n m _ hm]

end Sys2Proof.Machine
end

section
/-! SUPPORT. O57. The vault's commands: admission in order (R556), what an admitted one does (R555–R563), and its completion. -/
namespace Sys2Proof.Machine

-- Admission ----------------------------------------------------------------------------------------------------------------------------------

theorem Dev.vltWrite_up (d : Dev) (run : Dev → Dev) (hup : d.hostUp = true) (hshown : d.bootHidden R.VLT_CMD = false) : d.vltWrite run = run d :=
  if_neg (by simp [hup, hshown])

theorem Dev.vltCmd_busy (d : Dev) (op lvl : Nat) (modeOk stateOk : Bool) (run : Dev → Dev) (h : d.vlt.running.isSome = true) :
    d.vltCmd op lvl modeOk stateOk run = d.vltResult op 2 := if_pos h

theorem Dev.vltCmd_denied (d : Dev) (op lvl : Nat) (modeOk stateOk : Bool) (run : Dev → Dev) (hfree : d.vlt.running = none) (hlvl : lvl < d.level none) :
    d.vltCmd op lvl modeOk stateOk run = (d.accessFault none 2 R.VLT_CMD true).vltResult op 5 :=
  (if_neg (by simp [hfree])).trans (if_pos (by simp [hlvl]))

/-- What it takes that a command reaches the vault and its level is admitted. -/
theorem Dev.vaultOpen_iff (d : Dev) (lvl : Nat) :
    d.vaultOpen lvl = true ↔ d.hostUp = true ∧ d.bootHidden R.VLT_CMD = false ∧ d.vlt.running = none ∧ d.level none ≤ lvl ∧ d.regionAdmits (d.level none) R.VLT_CMD true = true := by
  simp [Dev.vaultOpen, and_assoc]

theorem Dev.vltCmd_open (d : Dev) (op lvl : Nat) (modeOk stateOk : Bool) (run : Dev → Dev) (h : d.vaultOpen lvl = true) :
    d.vltCmd op lvl modeOk stateOk run = if !modeOk then d.vltResult op 4 else if !stateOk then d.vltResult op 3 else run d := by
  obtain ⟨-, -, hfree, hlvl, hregion⟩ := (d.vaultOpen_iff lvl).1 h
  exact (if_neg (by simp [hfree])).trans (if_neg (by simp [hlvl, hregion]))

theorem Dev.vltCmd_runs (d : Dev) (op lvl : Nat) (modeOk stateOk : Bool) (run : Dev → Dev) (h : d.vaultOpen lvl = true) (hmode : modeOk = true) (hstate : stateOk = true) :
    d.vltCmd op lvl modeOk stateOk run = run d := by
  rw [d.vltCmd_open op lvl modeOk stateOk run h, hmode, hstate]
  rfl

/-- Each command of the vault is admitted by its opcode, level and modes. -/
theorem exec_vaultCommand (s : State) (c : Instr) (op lvl : Nat) (modeOk : Bool) (hup : s.dev.hostUp = true) (hshown : s.dev.bootHidden R.VLT_CMD = false)
    (hc : (c, op, lvl, modeOk) ∈ [(Instr.provision, 1, 0, s.dev.mode == .config), (.setOwner, 2, 0, s.dev.mode == .config), (.storeCert 64, 3, 0, s.dev.mode == .config),
      (.ctrInc 5, 4, 0, s.dev.mode == .config || s.dev.mode == .service), (.sealVault, 5, 0, s.dev.mode == .config), (.attest, 6, 2, s.dev.mode != .boot),
      (.challenge, 7, 0, s.dev.mode == .service), (.unlock, 8, 0, s.dev.mode == .service)]) :
    ∃ (stateOk : Bool) (run : Dev → Dev), exec c s = .next { s with dev := s.dev.vltCmd op lvl modeOk stateOk run } := by
  have hwrite : ∀ f : Dev → Dev, s.dev.vltWrite f = f s.dev := fun f => s.dev.vltWrite_up f hup hshown
  simp only [List.mem_cons, List.not_mem_nil, or_false, Prod.mk.injEq] at hc
  obtain ⟨rfl, rfl, rfl, rfl⟩ | ⟨rfl, rfl, rfl, rfl⟩ | ⟨rfl, rfl, rfl, rfl⟩ | ⟨rfl, rfl, rfl, rfl⟩ | ⟨rfl, rfl, rfl, rfl⟩ | ⟨rfl, rfl, rfl, rfl⟩ | ⟨rfl, rfl, rfl, rfl⟩ |
    ⟨rfl, rfl, rfl, rfl⟩ := hc
  · exact ⟨_, _, next_congr s (hwrite Dev.provision)⟩
  · exact ⟨_, _, next_congr s (hwrite Dev.setOwner)⟩
  · exact ⟨_, _, next_congr s (hwrite (fun x => x.storeCert 64))⟩
  · exact ⟨_, _, next_congr s (hwrite (fun x => x.ctrInc 5))⟩
  · exact ⟨_, _, next_congr s (hwrite Dev.sealVault)⟩
  · exact ⟨_, _, next_congr s (hwrite Dev.attest)⟩
  · exact ⟨_, _, next_congr s (hwrite Dev.challenge)⟩
  · exact ⟨_, _, next_congr s (hwrite Dev.unlock)⟩

/-- A refusal for the level changes the fault it records and the result alone. -/
theorem Dev.vltDenied_shows (d : Dev) (op : Nat) (x : Dev) (hx : x = (d.accessFault none 2 R.VLT_CMD true).vltResult op 5) :
    x = { d with apu := x.apu, pci := { d.pci with evq := x.pci.evq }, vlt := { d.vlt with cmdOp := op, cmdResult := 5 } } ∧ x.apu.ofs = R.VLT_CMD := by
  obtain ⟨honly, hofs, -⟩ := d.accessFault_shows none 2 R.VLT_CMD true (by decide) (by decide)
  unfold Dev.onlyFault at honly
  obtain ⟨y, hy⟩ : ∃ y, y = d.accessFault none 2 R.VLT_CMD true := ⟨_, rfl⟩
  rw [← hy] at honly hofs hx
  rw [hx]
  refine ⟨?_, hofs⟩
  unfold Dev.vltResult
  rw [honly]

-- What the commands do -----------------------------------------------------------------------------------------------------------------------

/-- A vault command whose write reaches the vault, admitted, does `run`. -/
theorem vaultWrite_runs (s : State) (op lvl : Nat) (modeOk stateOk : Dev → Bool) (run : Dev → Dev) (x : Dev) (hopen : s.dev.vaultOpen lvl = true) (hmode : modeOk s.dev = true)
    (hstate : stateOk s.dev = true) (hrun : run s.dev = x) :
    onDev (fun d => d.vltWrite (fun y => y.vltCmd op lvl (modeOk y) (stateOk y) run)) s = .next { s with dev := x } := by
  obtain ⟨hup, hshown, -⟩ := (s.dev.vaultOpen_iff lvl).1 hopen
  have hwrite := s.dev.vltWrite_up (fun y => y.vltCmd op lvl (modeOk y) (stateOk y) run) hup hshown
  exact next_congr s (hwrite.trans ((s.dev.vltCmd_runs op lvl _ _ run hopen hmode hstate).trans hrun))

theorem length_take_padded (l : List Nat) (n : Nat) : ((l ++ List.replicate n 0).take n).length = n := by
  simp

/-- The message a challenge's signature covers (R561). -/
def Vlt.unlockMsg (v : Vlt) : List Nat := v.challenge ++ leBytes 4 0x4608305A ++ (v.idPub ++ List.replicate 132 0).take 132

/-- UNLOCK, admitted: late, with a bad signature, or zeroizing (R561, R562). -/
def Dev.unlockRun (x : Dev) : Dev :=
  if x.vlt.challengeEnd ≤ x.tmb.up then { x.vltRun 8 8 with vlt := { (x.vltRun 8 8).vlt with challenge := [] } }
  else if x.vlt.ownerSet && !(Config.ecdsaVerify (hashBytes x.vlt.ownerHash) x.vlt.unlockMsg (x.vltArgs 132)) then
    { x.vltRun 8 6 with vlt := { (x.vltRun 8 6).vlt with challenge := [], unlockFails := min 3 (x.vlt.unlockFails + 1) } }
  else { x.vltRun 8 1 with vlt := (x.vltRun 8 1).vlt.zeroize }

theorem exec_unlock (s : State) (hopen : s.dev.vaultOpen 0 = true) (hmode : s.dev.mode = .service) (hgot : s.dev.vlt.challenge ≠ []) :
    exec .unlock s = .next { s with dev := s.dev.unlockRun } :=
  vaultWrite_runs s 8 0 (fun y => y.mode == .service) (fun y => !y.vlt.challenge.isEmpty) _ _ hopen (by simp [hmode]) (by simpa using hgot) rfl

/-- What the obligation says of an UNLOCK. -/
theorem Dev.unlockRun_shows (d : Dev) (x : Dev) (hx : x = d.unlockRun) :
    x = { d with vlt := x.vlt } ∧ x.vlt.challenge = [] ∧ x.vlt.svcOpen = d.vlt.svcOpen ∧ x.vlt.running = some 8 ∧
    (d.vlt.challengeEnd ≤ d.tmb.up → x.vlt.pendResult = 8 ∧ x.vlt.marker = d.vlt.marker ∧ x.vlt.idPriv = d.vlt.idPriv) ∧
    (d.tmb.up < d.vlt.challengeEnd → d.vlt.ownerSet = false → x.vlt.pendResult = 1 ∧ x.vlt.marker = true ∧ x.vlt.idPriv = [] ∧ x.vlt.sealed = false) ∧
    (x.vlt.pendResult = 6 → x.vlt.unlockFails = min 3 (d.vlt.unlockFails + 1) ∧ x.vlt.idPriv = d.vlt.idPriv) := by
  unfold Dev.unlockRun at hx
  split at hx
  case isTrue hlate =>
    subst hx
    exact ⟨rfl, rfl, rfl, rfl, fun _ => ⟨rfl, rfl, rfl⟩, fun h => absurd hlate (Nat.not_le.2 h), nofun⟩
  case isFalse htime =>
    split at hx
    case isTrue hbad =>
      subst hx
      exact ⟨rfl, rfl, rfl, rfl, fun h => absurd h htime, fun _ hown => absurd hbad (by simp [hown]), fun _ => ⟨rfl, rfl⟩⟩
    case isFalse =>
      subst hx
      exact ⟨rfl, rfl, rfl, rfl, fun h => absurd h htime, fun _ _ => ⟨rfl, rfl, rfl, rfl⟩, nofun⟩

/-- STORE_CERT, admitted. A LEN outside 1 to 2,048 completes with RANGE: the model's choice (log 120). -/
def Dev.storeRun (x : Dev) (len : Nat) : Dev :=
  if len = 0 ∨ 2048 < len then x.vltRun 3 7 else { x.vltRun 3 1 with vlt := { (x.vltRun 3 1).vlt with cert := x.vltArgs len } }

theorem exec_storeCert (s : State) (len : Nat) (hopen : s.dev.vaultOpen 0 = true) (hmode : s.dev.mode = .config) (hst : s.dev.vlt.st = 1) (hfree : s.dev.vlt.sealed = false) :
    exec (.storeCert len) s = .next { s with dev := s.dev.storeRun len } :=
  vaultWrite_runs s 3 0 (fun y => y.mode == .config) (fun y => y.vlt.st == 1 && !y.vlt.sealed) _ _ hopen (by simp [hmode]) (by simp [hst, hfree]) rfl

theorem Dev.storeRun_shows (d : Dev) (len : Nat) (x : Dev) (hx : x = d.storeRun len) :
    x = { d with vlt := x.vlt } ∧ x.vlt.running = some 3 ∧ (1 ≤ len → len ≤ 2048 → x.vlt.cert = d.vltArgs len ∧ x.vlt.pendResult = 1) ∧
    (len = 0 ∨ 2048 < len → x.vlt.cert = d.vlt.cert ∧ x.vlt.pendResult = 7) := by
  unfold Dev.storeRun at hx
  split at hx
  case isTrue hout =>
    subst hx
    exact ⟨rfl, rfl, fun _ _ => by omega, fun _ => ⟨rfl, rfl⟩⟩
  case isFalse hin =>
    subst hx
    exact ⟨rfl, rfl, fun _ _ => ⟨rfl, rfl⟩, fun h => absurd h hin⟩

/-- CTR_INC, admitted (R555). -/
def Dev.ctrIncRun (x : Dev) (i : Nat) : Dev :=
  if i < 2 ∨ 15 < i ∨ 0xFFFFFFFF ≤ nth x.vlt.ctrs i 0 then x.vltRun 4 7
  else { x.vltRun 4 1 with vlt := { (x.vltRun 4 1).vlt with ctrs := modAt (x.vltRun 4 1).vlt.ctrs i (· + 1) } }

theorem exec_ctrInc (s : State) (i : Nat) (hopen : s.dev.vaultOpen 0 = true) (hmode : s.dev.mode = .config) : exec (.ctrInc i) s = .next { s with dev := s.dev.ctrIncRun i } :=
  vaultWrite_runs s 4 0 (fun y => y.mode == .config || y.mode == .service) (fun _ => true) _ _ hopen (by simp [hmode]) rfl rfl

theorem Dev.ctrIncRun_shows (d : Dev) (i : Nat) (x : Dev) (hx : x = d.ctrIncRun i) :
    x = { d with vlt := x.vlt } ∧ x.vlt.running = some 4 ∧
    (2 ≤ i → i ≤ 15 → nth d.vlt.ctrs i 0 < 0xFFFFFFFF → x.vlt.ctrs = modAt d.vlt.ctrs i (· + 1) ∧ x.vlt.pendResult = 1) ∧
    (i < 2 ∨ 15 < i ∨ 0xFFFFFFFF ≤ nth d.vlt.ctrs i 0 → x.vlt.ctrs = d.vlt.ctrs ∧ x.vlt.pendResult = 7) := by
  unfold Dev.ctrIncRun at hx
  split at hx
  case isTrue hout =>
    subst hx
    exact ⟨rfl, rfl, fun _ _ _ => by omega, fun _ => ⟨rfl, rfl⟩⟩
  case isFalse hin =>
    subst hx
    exact ⟨rfl, rfl, fun _ _ _ => ⟨rfl, rfl⟩, fun h => absurd h hin⟩

/-- The completion of a command other than SEAL and ATTEST, before UNLOCK ends zeroization. -/
def Dev.vltCompleted (d : Dev) (op : Nat) : Dev := { d with vlt := { d.vlt with running := none, cmdOp := op, cmdResult := d.vlt.pendResult } }

theorem Dev.vltComplete_runs (d : Dev) (op : Nat) (hrun : d.vlt.running = some op) (h5 : op ≠ 5) (h6 : op ≠ 6) :
    d.vltComplete = if op = 8 ∧ d.vlt.marker then
        (if d.mode = .service then
          ({ d.vltCompleted op with vlt := { (d.vltCompleted op).vlt.zeroized with svcOpen := true } } : Dev).raise Sub.vlt 0 R.VLT_STATE 0x02000000 []
        else { d.vltCompleted op with vlt := (d.vltCompleted op).vlt.zeroized })
      else d.vltCompleted op := by
  unfold Dev.vltComplete
  simp only [hrun]
  rw [if_neg (by simp [h5, h6])]
  rfl

theorem Dev.vltComplete_shows (d : Dev) (op : Nat) (hrun : d.vlt.running = some op) (h5 : op ≠ 5) (h6 : op ≠ 6) (x : Dev) (hx : x = d.vltComplete) :
    x = { d with vlt := x.vlt, pci := x.pci } ∧ x.vlt.running = none ∧ x.vlt.cmdOp = op ∧ x.vlt.cmdResult = d.vlt.pendResult ∧
    (op = 8 → d.vlt.marker = true → x.vlt.st = 2 ∧ x.vlt.marker = false ∧ (d.mode = .service → x.vlt.svcOpen = true)) ∧ (op ≠ 8 → x.vlt.svcOpen = d.vlt.svcOpen) := by
  rw [d.vltComplete_runs op hrun h5 h6] at hx
  split at hx
  case isTrue hends =>
    obtain ⟨hop, hmarker⟩ := hends
    split at hx
    case isTrue =>
      subst hx
      exact ⟨rfl, rfl, rfl, rfl, fun _ _ => ⟨rfl, rfl, fun _ => rfl⟩, fun h => absurd hop h⟩
    case isFalse hmode =>
      subst hx
      exact ⟨rfl, rfl, rfl, rfl, fun _ _ => ⟨rfl, rfl, fun h => absurd h hmode⟩, fun h => absurd hop h⟩
  case isFalse hother =>
    subst hx
    exact ⟨rfl, rfl, rfl, rfl, fun hop hmarker => absurd ⟨hop, hmarker⟩ hother, fun _ => rfl⟩

/-- Settles O57. That STORE_CERT with a LEN outside 1 to 2,048 completes with RANGE is the model's choice (log 120). -/
theorem vaultCommandsAreAdmittedAndRun : Obligations.VaultCommandsAreAdmittedAndRun := by
  refine ⟨fun s c op lvl modeOk hup hshown hc => ?admission, fun s hopen hmode => ⟨fun hst => ?provision, fun hfree => ?owner, fun len hst hfree => ?store, fun i => ?ctr,
    fun hst hown hver => ?sealing⟩, fun s hopen hmode hst => ?attest, fun s hwait => ?report, fun s hopen hmode hpolicy hfails => ?challenge, fun s hgot hend => ?expiry,
    fun s hopen hmode hgot => ?unlock, fun s op hrun h5 h6 => ⟨_, rfl, s.dev.vltComplete_shows op hrun h5 h6 _ rfl⟩⟩
  case admission =>
    obtain ⟨stateOk, run, hrun⟩ := exec_vaultCommand s c op lvl modeOk hup hshown hc
    refine ⟨fun hbusy => ?_, fun hfree hlvl => ?_, fun hopen hmode => ?_, fun hopen hmode hown => ?_⟩
    · exact hrun.trans (next_congr s (s.dev.vltCmd_busy op lvl modeOk stateOk run hbusy))
    · exact ⟨_, hrun.trans (next_congr s (s.dev.vltCmd_denied op lvl modeOk stateOk run hfree hlvl)), s.dev.vltDenied_shows op _ rfl⟩
    · refine hrun.trans (next_congr s ((s.dev.vltCmd_open op lvl modeOk stateOk run hopen).trans (if_pos ?_)))
      rw [hmode]
      rfl
    · have howner : s.dev.setOwner = s.dev.vltResult 2 3 := by
        refine (s.dev.vltCmd_open 2 0 _ _ _ hopen).trans ((if_neg (by simp [hmode])).trans (if_pos (by simp [hown])))
      exact next_congr s ((s.dev.vltWrite_up Dev.setOwner hup hshown).trans howner)
  case provision =>
    refine ⟨_, vaultWrite_runs s 1 0 (fun y => y.mode == .config) (fun y => y.vlt.st == 0 || y.vlt.st == 2) _ _ hopen (by simp [hmode]) (by simpa using hst) rfl, rfl, rfl, ?_, ?_,
      rfl, rfl, rfl, rfl⟩
    · exact length_forN 66 _
    · exact length_take_padded _ 132
  case owner =>
    exact ⟨_, vaultWrite_runs s 2 0 (fun y => y.mode == .config) (fun y => !y.vlt.ownerSet) _ _ hopen (by simp [hmode]) (by simp [hfree]) rfl, rfl, rfl, rfl, rfl, rfl⟩
  case store => exact ⟨_, exec_storeCert s len hopen hmode hst hfree, s.dev.storeRun_shows len _ rfl⟩
  case ctr => exact ⟨_, exec_ctrInc s i hopen hmode, s.dev.ctrIncRun_shows i _ rfl⟩
  case sealing =>
    exact ⟨_, vaultWrite_runs s 5 0 (fun y => y.mode == .config) (fun y => y.vlt.st == 1 && y.vlt.ownerSet && y.vlt.cfgVerified) _ _ hopen (by simp [hmode])
      (by simp [hst, hown, hver]) rfl, rfl, rfl, rfl, rfl⟩
  case attest =>
    exact ⟨_, vaultWrite_runs s 6 2 (fun y => y.mode != .boot) (fun y => y.vlt.st == 1) _ _ hopen (by simpa using hmode) (by simp [hst]) rfl, rfl, rfl, rfl, rfl⟩
  case report =>
    exact ⟨_, _, next_congr s (if_neg (not_not.2 hwait)), rfl, rfl, length_take_padded _ 132, rfl, rfl, rfl⟩
  case challenge =>
    refine ⟨_, vaultWrite_runs s 7 0 (fun y => y.mode == .service) (fun y => y.vlt.svcPolicy == 0 && decide (y.vlt.unlockFails < 3)) _ _ hopen (by simp [hmode])
      (by simp [hpolicy, hfails]) rfl, rfl, ?_, rfl, rfl, rfl⟩
    exact length_forN 64 _
  case expiry =>
    refine next_congr s (if_pos ?_)
    rw [decide_eq_true hend, Bool.and_true]
    simpa using hgot
  case unlock => exact ⟨_, exec_unlock s hopen hmode hgot, s.dev.unlockRun_shows _ rfl⟩

end Sys2Proof.Machine
end

section
/-! SUPPORT. O38. Discovery: what starts it, the answers to its probes, and the end of their waits (R329, R330). -/
namespace Sys2Proof.Machine

-- Starting a discovery -----------------------------------------------------------------------------------------------------------------------

theorem Dev.startDisc_probes (d : Dev) (full : Bool) (n : Nat) (h : d.laneOn n = true) : ({ lane := n, depth := 1, route := 0 } : Probe) ∈ (d.startDisc full).ikl.probes := by
  have hlane : n ∈ (List.range 12).filter d.laneOn := List.mem_filter.2 ⟨List.mem_range.2 (d.laneOn_lt n h), h⟩
  exact List.mem_append_right _ (List.mem_map_of_mem hlane)

theorem exec_rebuild (s : State) (hopen : s.dev.bar0Open R.IKL_DISC 3 = true) :
    exec .rebuild s = .next { s with dev := if s.dev.mode = .standby then s.dev.startDisc true else s.dev.accessFault none 5 R.IKL_DISC true } :=
  onDev_bar0Cmd_open s R.IKL_DISC 3 _ hopen

theorem exec_scan (s : State) (hopen : s.dev.bar0Open R.IKL_DISC 3 = true) :
    exec .scan s = .next { s with dev := if !s.dev.scanMode then s.dev.accessFault none 5 R.IKL_DISC true
      else if s.dev.ikl.disc ≠ 0 then s.dev else { s.dev with ikl := { s.dev.ikl with scanReq := true } } } :=
  onDev_bar0Cmd_open s R.IKL_DISC 3 _ hopen

theorem Dev.discFault_shows (d : Dev) : d.onlyFault (d.accessFault none 5 R.IKL_DISC true) ∧ (d.accessFault none 5 R.IKL_DISC true).apu.ofs = R.IKL_DISC := by
  obtain ⟨honly, hofs, -⟩ := d.accessFault_shows none 5 R.IKL_DISC true (by decide) (by decide)
  exact ⟨honly, hofs⟩

-- Answers ------------------------------------------------------------------------------------------------------------------------------------

/-- The device with other probes. -/
def Dev.withProbes (d : Dev) (ps : List Probe) : Dev := { d with ikl := { d.ikl with probes := ps } }

/-- Its probes with the one at a place replaced by `q`. -/
def Dev.probed (d : Dev) (lane depth route : Nat) (q : Probe) : List Probe := d.ikl.probes.map (fun x => if x.isAt lane depth route then q else x)

/-- An identity in time, of a port below depth 16 in a full discovery, is noted, and its downstream ports are probed (R330). -/
theorem Dev.discAnswer_ident (d : Dev) (lane depth route rtt : Nat) (bs : List Dword) (p : Probe) (m : MFrame) (i : Ident)
    (hout : outstanding d.ikl.probes lane depth route = some p) (hparse : parseFrame bs = some m) (htime : p.answered m.tag d.tmb.now = true) (hnone : p.ident = none)
    (hown : p.own = none) (hop : m.opcode = 0x81) (hident : parseIdent m.data = some i) (hdepth : depth < 16) (hdisc : d.ikl.disc ≠ 2) :
    d.discAnswer lane depth route rtt bs = d.withProbes (d.probed lane depth route { p with sent := none, ended := none, ident := some i, echoes := d.afld R.IKL_SCAN 31 16 } ++
      (List.range i.downs).map (fun k => { lane := lane, depth := depth + 1, route := route + k * 2 ^ (depth - 1) })) := by
  have hkids : ¬(p.own.isSome = true ∨ 16 ≤ depth) := by simp [hown, hdepth]
  have hknown : (p.own.isNone && d.ikl.disc == 2 && (d.ikl.nodes.any (fun x => x.2.serial == i.serial) || d.ikl.refused.contains i.serial)) = false := by simp [hdisc]
  unfold Dev.discAnswer
  simp only [hout, hparse, htime, Bool.not_true, Bool.false_eq_true, if_false, hnone, hop, ne_eq, not_true_eq_false, hident, hkids, hknown]
  rfl

/-- A further echo in time raises the measured round trip (R330). -/
theorem Dev.discAnswer_echo (d : Dev) (lane depth route rtt : Nat) (bs : List Dword) (p : Probe) (m : MFrame) (hout : outstanding d.ikl.probes lane depth route = some p)
    (hparse : parseFrame bs = some m) (htime : p.answered m.tag d.tmb.now = true) (hsome : p.ident.isSome = true) (hop : m.opcode = 0x82) (hmore : 2 ≤ p.echoes) :
    d.discAnswer lane depth route rtt bs = 
      d.withProbes (d.probed lane depth route { p with sent := none, ended := none, echoes := p.echoes - 1, rtt := max p.rtt rtt }) := by
  obtain ⟨i, hi⟩ := Option.isSome_iff_exists.1 hsome
  have hleft : ¬(p.echoes - 1 = 0) := by omega
  unfold Dev.discAnswer
  simp only [hout, hparse, htime, Bool.not_true, Bool.false_eq_true, if_false, hi, hop, ne_eq, not_true_eq_false, hleft]
  rfl

-- The end of the waits -----------------------------------------------------------------------------------------------------------------------

theorem Dev.discTimeout_due (d : Dev) (lane depth route k : Nat) (p : Probe) (hout : outstanding d.ikl.probes lane depth route = some p) (hsent : p.sent = some k)
    (hdue : k + 2 ≤ d.tmb.epoch) (hended : p.ended = none) :
    d.discTimeout lane depth route = { d with ikl := { d.ikl with
      probes := d.ikl.probes.map (fun x => if x.isAt lane depth route then { x with ended := some (d.tmb.sync + d.tc) } else x) } } := by
  unfold Dev.discTimeout
  simp only [hout]
  exact if_pos (by simp [hsent, hended, waitEnds, hdue])

theorem Dev.enqueue_probes (d : Dev) (lane : Nat) (m : MFrame) : (d.enqueue lane m).ikl.probes = d.ikl.probes := rfl

theorem Dev.sendAdmit_probes (d : Dev) (e : NodeEnt) (eff : Nat) : (d.sendAdmit e eff).ikl.probes = d.ikl.probes := rfl

theorem Dev.refuseNode_probes (d : Dev) (i : Ident) (p : Probe) (code : Nat) : (d.refuseNode i p code).ikl.probes = d.ikl.probes := rfl

/-- A discovery that concludes leaves the probes that are left. -/
theorem Dev.concludeDisc_probes (d : Dev) : d.concludeDisc.ikl.probes = d.ikl.probes := by
  unfold Dev.concludeDisc
  extract_lets full eff dec s0 s d1 d2 k
  have h1 : d1.ikl.probes = d.ikl.probes := foldl_same (fun x : Dev => x.ikl.probes) _ (fun x r => x.refuseNode_probes r.1 r.2.1 r.2.2) s.refused d
  have h2 : d2.ikl.probes = d1.ikl.probes := by
    refine foldl_same (fun x : Dev => x.ikl.probes) _ (fun x a => ?_) s.fresh d1
    split <;> rfl
  split
  · exact h2.trans h1
  · exact h2.trans h1

theorem Dev.checkDisc_probes (d : Dev) : d.checkDisc.ikl.probes = d.ikl.probes := by
  unfold Dev.checkDisc
  split
  · exact d.concludeDisc_probes
  · rfl

/-- The probes that stand after the waits of the boundary: those whose wait had not ended before it, one that ends with it marked. -/
theorem Dev.probeStep_probes (d : Dev) : d.probeStep.ikl.probes = (d.ikl.probes.filter (fun p => !(p.ended.any (fun t => decide (t < d.tmb.now))))).map (fun (p : Probe) =>
    if p.ended.isNone && (p.sent.map (fun k => waitEnds k (d.tmb.epoch - 1))).getD false then { p with ended := some d.tmb.now } else p) := by
  unfold Dev.probeStep
  extract_lets gone dead left x d1
  rw [Dev.checkDisc_probes]
  refine foldl_same (fun x : Dev => x.ikl.probes) _ (fun x p => ?_) dead d1
  split <;> rfl

/-- A probe whose wait ended before the boundary is gone with it. -/
theorem Dev.probeStep_drops (d : Dev) (p : Probe) (t : Nat) (hended : p.ended = some t) (hpast : t < d.tmb.now) : p ∉ d.probeStep.ikl.probes := by
  intro hmem
  rw [d.probeStep_probes] at hmem
  obtain ⟨q, hq, hmark⟩ := List.mem_map.1 hmem
  obtain ⟨-, hwaits⟩ := List.mem_filter.1 hq
  split at hmark
  case isTrue =>
    rw [← hmark] at hended
    have hnow := Option.some.inj hended
    omega
  case isFalse =>
    rw [hmark, hended] at hwaits
    simp [hpast] at hwaits

/-- Settles O38. -/
theorem discoveryProbesThePorts : Obligations.DiscoveryProbesThePorts := by
  refine ⟨fun s hopen hmode => ?rebuild, fun s hopen hmode => ?noRebuild, fun s hopen hscan hfree => ?scan, fun s hopen hscan => ?noScan, fun s hon hscan hfree hdue => ?interval,
    fun s lane depth route rtt bs p m i hout hparse htime hnone hown hop hident hdepth hdisc => ?ident, fun s lane depth route rtt bs p m hout hparse htime hsome hop hmore => ?echo,
    fun s lane depth route k p hout hsent hdue hended => next_congr s (s.dev.discTimeout_due lane depth route k p hout hsent hdue hended),
    fun d p t hended hpast => d.probeStep_drops p t hended hpast⟩
  case rebuild =>
    exact ⟨_, (exec_rebuild s hopen).trans (next_congr s (if_pos hmode)), rfl, rfl, rfl, rfl, rfl, fun n hn => s.dev.startDisc_probes true n hn⟩
  case noRebuild => exact ⟨_, (exec_rebuild s hopen).trans (next_congr s (if_neg hmode)), s.dev.discFault_shows⟩
  case scan =>
    refine (exec_scan s hopen).trans (next_congr s ?_)
    rw [hscan, if_neg (by simp), if_neg (not_not.2 hfree)]
  case noScan =>
    refine ⟨_, (exec_scan s hopen).trans (next_congr s (if_pos ?_)), s.dev.discFault_shows⟩
    rw [hscan]
    rfl
  case interval =>
    refine next_congr s (if_pos ?_)
    simp [hon, hscan, hfree, hdue]
  case ident =>
    exact ⟨_, next_congr s (s.dev.discAnswer_ident lane depth route rtt bs p m i hout hparse htime hnone hown hop hident hdepth hdisc), rfl, rfl⟩
  case echo =>
    exact ⟨_, next_congr s (s.dev.discAnswer_echo lane depth route rtt bs p m hout hparse htime hsome hop hmore), rfl, rfl⟩

end Sys2Proof.Machine
end

section
/-! SUPPORT. O45. The root clock: loss of lock, lock, the reference, and the alignment loop (R416–R431). -/
namespace Sys2Proof.Machine

-- Loss of lock -------------------------------------------------------------------------------------------------------------------------------

/-- The clock after a gated frequency change, its loss of lock counted (R422, R424). -/
def Dev.clkLost (d : Dev) : Clk := { d.gatedChange.clk with lockLoss := sat16 d.clk.lockLoss 1 }

theorem Dev.lossOfLock_shows (d : Dev) (h : d.clk.lock = true) : ({ d with clk := d.clkLost } : Dev).onlyCause d.lossOfLock ∧ d.lossOfLock.causeUp Cause.clock = true := by
  have hrun : d.lossOfLock = (({ d with clk := d.clkLost } : Dev).raiseT 7 23 Sub.clk 0 R.CLK_STATUS 0x80000000 []).raiseCause Cause.clock := if_neg (by simp [h])
  rw [hrun]
  exact ⟨Dev.onlyCause_trans (Dev.raiseT_cause ..) (Dev.raiseCause_cause ..), Dev.raiseCause_up ..⟩

/-- The lanes fall silent: block lock is lost on each, and nothing but the lanes and the link of the pair moves. -/
theorem Dev.lanesDark_shows (d o : Dev) :
    (d.lanesDark o).ikl = { d.ikl with lanes := d.ikl.lanes.map (fun (l : Lane) => { l with lock := false }) } ∧ (d.lanesDark o).rdn.mirLock = [false, false] ∧
    (d.lanesDark o).clk = d.clk ∧ (d.lanesDark o).sys = d.sys ∧ (d.lanesDark o).tmb = d.tmb ∧ (d.lanesDark o).active = d.active := by
  unfold Dev.lanesDark Dev.linkLost
  dsimp only
  split <;> exact ⟨rfl, rfl, rfl, rfl, rfl, rfl⟩

/-- What loss of lock does (R420, R424). -/
theorem Dev.lockLost_shows (d : Dev) (h : d.clk.lock = true) (x : Dev) (hx : x = d.lockLost) :
    x.clk = d.clkLost ∧ x.causeUp Cause.clock = true ∧ (∀ l ∈ x.ikl.lanes, l.lock = false) ∧ x.rdn.mirLock = [false, false] ∧ x.tmb = d.tmb ∧ x.active = d.active ∧
    x.sys.mode = d.sys.mode := by
  obtain ⟨y, hy⟩ : ∃ y, y = d.lossOfLock := ⟨_, rfl⟩
  obtain ⟨honly, hup⟩ := d.lossOfLock_shows h
  rw [← hy] at honly hup
  unfold Dev.onlyCause at honly
  have hkept : y.clk = d.clkLost ∧ y.tmb = d.tmb ∧ y.active = d.active ∧ y.sys.mode = d.sys.mode := by
    rw [honly]
    exact ⟨rfl, rfl, rfl, rfl⟩
  obtain ⟨hclk, htmb, hactive, hmode⟩ := hkept
  have hrun : d.lockLost = y.lanesDark d := by
    rw [hy]
    exact if_pos h
  obtain ⟨likl, lmir, lclk, lsys, ltmb, lactive⟩ := y.lanesDark_shows d
  rw [hx, hrun, likl, lmir, lclk, ltmb, lactive, Dev.causeUp, lsys]
  refine ⟨hclk, hup, fun l hl => ?_, rfl, htmb, hactive, hmode⟩
  obtain ⟨m, -, rfl⟩ := List.mem_map.1 hl
  rfl

theorem Dev.lockLost_free (d : Dev) (h : d.clk.lock = false) : d.lockLost = d := if_neg (by simp [h])

-- Lock ---------------------------------------------------------------------------------------------------------------------------------------

theorem Dev.pllLock_shows (d : Dev) (href : d.clk.refOk = true) (hlock : d.clk.lock = false) :
    d.pllLock = { d with clk := { d.clk with lock := true, relock := d.clk.fallback, lfsr := (d.act R.CLK_PLL_SEED).toNat, pstep := 0, lastStep := some d.tmb.up } } :=
  if_neg (by simp [href, hlock])

theorem Dev.bootOn_later (d : Dev) (h : 2 < d.boot.step) : d.bootOn = d := by
  unfold Dev.bootOn
  rw [if_neg (by omega), if_neg (by omega)]

/-- A failed self-test ends step 2 of BOOT with its lock (R92). -/
theorem Dev.bootOn_failed (d : Dev) (hstep : d.boot.step = 2) (hlock : d.clk.lock = true) (hbad : d.boot.selfTestGood = false) :
    d.bootOn = { d with boot := { d.boot with step := 3 } } := by
  unfold Dev.bootOn
  rw [if_neg (by omega), if_pos ⟨hstep, hlock⟩]
  exact if_neg (by simp [hbad])

theorem exec_lock (s : State) (hpow : s.dev.unpowered = false) (hdom : s.dev.domOn 2 = true) : exec .lock s = .next { s with dev := s.dev.pllLock.bootOn } :=
  next_congr s (if_neg (by simp [hpow, hdom]))

-- The alignment loop -------------------------------------------------------------------------------------------------------------------------

/-- The root cycles' time since the last phase step. -/
def Dev.sinceStep (d : Dev) : Nat :=
  match d.clk.lastStep with
  | some t => d.tmb.up - t
  | none => 0

/-- A step of the alignment loop: the phase by one, the multiplier to one within 200 ppm (R431). -/
theorem Dev.phaseStep_steps (d : Dev) (hon : d.abit R.CLK_PLL_CFG 12 = true) (hlock : d.clk.lock = true) (hroot : d.clk.fallback = false)
    (hfar : (163 : Rat) / 100 < rabs (d.clk.err * 1250 / 3)) (htime : 256 * rootU ≤ d.sinceStep) (x : Dev) (hx : x = d.phaseStep) :
    x = { d with clk := x.clk, pci := x.pci, free := x.free } ∧ x.clk.pstep = d.clk.pstep + (if 0 < d.clk.err then 1 else -1) ∧ x.clk.lastStep = some d.tmb.up ∧
    d.multNom - d.multLim ≤ x.clk.mult ∧ x.clk.mult ≤ d.multNom + d.multLim := by
  have hgo : (!(d.abit R.CLK_PLL_CFG 12) || !d.clk.lock || d.clk.fallback || !(decide ((163 : Rat) / 100 < rabs (d.clk.err * 1250 / 3))) ||
      decide (d.sinceStep < 256 * rootU)) = false := by
    simp [hon, hlock, hroot, hfar, htime]
  obtain ⟨m, clamp, d1, hd1, hlow, hhigh, hrun⟩ : ∃ (m : Nat) (clamp : Bool) (d1 : Dev), d1 = { d.tookFree with clk :=
        { d.clk with pstep := d.clk.pstep + (if 0 < d.clk.err then 1 else -1), lastStep := some d.tmb.up, mult := m, freqClamp := clamp } } ∧
      d.multNom - d.multLim ≤ m ∧ m ≤ d.multNom + d.multLim ∧
      d.phaseStep = if clamp && !d.clk.freqClamp then d1.raise Sub.clk 0 R.CLK_STATUS 0x04000000 [] else d1 := by
    refine ⟨_, _, _, rfl, ?_, ?_, if_neg (Bool.eq_false_iff.1 hgo)⟩
    · exact Nat.le_max_left _ _
    · exact Nat.max_le.2 ⟨by omega, Nat.min_le_left _ _⟩
  rw [hx, hrun]
  split
  · rw [hd1]
    exact ⟨rfl, rfl, rfl, hlow, hhigh⟩
  · rw [hd1]
    exact ⟨rfl, rfl, rfl, hlow, hhigh⟩

theorem Dev.phaseStep_early (d : Dev) (h : d.sinceStep < 256 * rootU) : d.phaseStep = d := if_pos (Bool.or_eq_true_iff.2 (Or.inr (decide_eq_true h)))

/-- Settles O45. -/
theorem clockFollowsTheReference : Obligations.ClockFollowsTheReference := by
  refine ⟨fun s hlock => ?loss, fun s hpow hdom href hlock hstep => ?lock, fun s hpow hdom href hlock hstep hbad => ?lockBoot,
    fun s hpow => ⟨fun hlock => ?refFree, fun hlock => ?refLost, ?refBack⟩, fun s hpow hlock => ?failed, fun s hrun => next_congr s (if_pos hrun),
    fun s hrun => next_same s _ (if_neg (Nat.not_le.2 hrun)), fun s hon hlock hroot hfar => ?step⟩
  case loss =>
    obtain ⟨hclk, hup, hlanes, hmir, htmb, hactive, hmode⟩ := s.dev.lockLost_shows hlock _ rfl
    refine ⟨_, rfl, ?_, ?_, ?_, ?_, hup, hlanes, hmir, htmb, hactive, hmode⟩
    · rw [hclk]
      rfl
    · rw [hclk]
      rfl
    · rw [hclk]
      rfl
    · rw [hclk]
      rfl
  case lock =>
    have hrun : s.dev.pllLock.bootOn = s.dev.pllLock := Dev.bootOn_later _ (by rw [s.dev.pllLock_shows href hlock]; exact hstep)
    refine ⟨_, (exec_lock s hpow hdom).trans (next_congr s hrun), ?_⟩
    rw [s.dev.pllLock_shows href hlock]
    exact ⟨rfl, rfl, rfl, rfl, rfl⟩
  case lockBoot =>
    have hrun := Dev.bootOn_failed s.dev.pllLock (by rw [s.dev.pllLock_shows href hlock]; exact hstep) (by rw [s.dev.pllLock_shows href hlock])
      (by rw [s.dev.pllLock_shows href hlock]; exact hbad)
    refine ⟨_, (exec_lock s hpow hdom).trans (next_congr s hrun), ?_⟩
    rw [s.dev.pllLock_shows href hlock]
    exact ⟨rfl, rfl⟩
  case refFree =>
    have hrun : s.dev.refLost = s.dev.refLoss := congrArg Dev.refLoss (s.dev.lockLost_free hlock)
    exact next_congr s ((Dev.powered_on s.dev Dev.refLost hpow).trans hrun)
  case refLost =>
    obtain ⟨hclk, hup, -, -, htmb, -, hmode⟩ := s.dev.lockLost_shows hlock _ rfl
    obtain ⟨y, hy⟩ : ∃ y, y = s.dev.lockLost := ⟨_, rfl⟩
    have hrun : s.dev.refLost = { y with clk := { y.clk with refOk := false, freeRun := true } } := by
      rw [hy]
      rfl
    rw [← hy] at hclk hup htmb hmode
    refine ⟨_, next_congr s ((Dev.powered_on s.dev Dev.refLost hpow).trans hrun), rfl, ?_, ?_, rfl, ?_, hup, htmb, hmode⟩
    · dsimp only
      rw [hclk]
      rfl
    · dsimp only
      rw [hclk]
      rfl
    · dsimp only
      rw [hclk]
      rfl
  case refBack => exact next_congr s (Dev.powered_on s.dev Dev.refReturn hpow)
  case failed =>
    have hrun : s.dev.lockFailed = s.dev.gatedChange := if_neg (by simp [hlock])
    exact ⟨_, next_congr s ((Dev.powered_on s.dev Dev.lockFailed hpow).trans hrun), rfl, rfl, rfl, rfl, rfl⟩
  case step =>
    refine ⟨_, fun hlast => ?_, fun hlast => ?_, rfl⟩
    · refine s.dev.phaseStep_early ?_
      unfold Dev.sinceStep
      split
      case h_1 t ht => exact hlast t ht
      case h_2 => decide
    · obtain ⟨t, ht, htime⟩ := hlast
      refine s.dev.phaseStep_steps hon hlock hroot hfar ?_ _ rfl
      unfold Dev.sinceStep
      simp only [ht]
      exact htime

end Sys2Proof.Machine
end

section
/-! SUPPORT. O33, O34. The engines' own conditions and reads (R173, R200–R202, R571), and the loop slots and pulse inputs (R209–R213). -/
namespace Sys2Proof.Machine

-- O33: errors in an engine's reads -----------------------------------------------------------------------------------------------------------

theorem insertEv_length (e : Ev) (l : List Ev) : (insertEv e l).length = l.length + 1 := by
  induction l with
  | nil => rfl
  | cons x l ih =>
    unfold insertEv
    split
    · rw [List.length_cons, ih, List.length_cons]
    · rfl

/-- The jobs with a single-bit error counted by those whose range holds the word (R571). -/
def Dev.countedJobs (d : Dev) (e : ReadErr) : Dev :=
  { d with jobs := forN 8 (fun j => let x := d.job j; if d.jobHolds j e.space e.addr then { x with corrected := sat16 x.corrected 1 } else x) }

/-- The first uncorrectable error of the epoch, its event raised. Which subsystem and register the event names is the model's choice (log 77). -/
def Dev.engineFailed (d : Dev) (n : Nat) (e : ReadErr) : Dev := ({ d with sys := { d.sys with engineErr := true } }).raise n 0 R.SYS_OVERRUN 0 [word e.space, word e.addr]

theorem Dev.engineRead_eq (d : Dev) (n : Nat) (e : ReadErr) (hpow : d.unpowered = false) (hmode : d.mode ≠ .boot) :
    d.engineRead n (some e) = if e.single then d.countedJobs e else if d.sys.engineErr then d else d.engineFailed n e :=
  if_neg (by simp [hpow, hmode])

theorem Dev.countedJobs_corrected (d : Dev) (e : ReadErr) (j : Nat) (hj : j < 8) :
    ((d.countedJobs e).job j).corrected = if d.jobHolds j e.space e.addr then sat16 (d.job j).corrected 1 else (d.job j).corrected := by
  unfold Dev.countedJobs
  rw [Dev.job, nth_forN 8 j _ _ hj]
  dsimp only
  split <;> rfl

/-- With an uncorrectable error of the epoch the period is an overrun. -/
theorem Dev.isOverrun_of_engineErr (d : Dev) (late : Bool) (hrun : d.lanesRun = true) (herr : d.sys.engineErr = true) : d.isOverrun late = true := by
  simp [Dev.isOverrun, hrun, herr]

theorem Dev.tblkEnd_due (d : Dev) (h : d.gc.c.tblk = true ∧ qdiv ((d.afld R.CCE_DCF_TIMING 31 16 : Rat) / 1000000) d.tcs ≤ (d.gc.c.tblkRun : Rat)) : d.tblkEnd = d.tblkRelease :=
  if_pos h

theorem Dev.clampBlock_due (d : Dev) (h : d.mode = .frt ∧ d.frt.causeDc = true ∧ d.afld R.CCE_CTRL 13 12 = 1 ∧ d.afld R.CCE_DCF_TIMING 7 0 ≤ d.gc.c.clampRun) :
    d.clampBlock = { d with gc := { d.gc with c := { d.gc.c with tblk := true, armLim := 63 } } } :=
  congrArg (fun c => ({ d with gc := { d.gc with c := c } } : Dev)) (if_pos h)

/-- Settles O33. Which subsystem and register the event of an uncorrectable read names is the model's choice (log 77). -/
theorem engineConditionsTakeEffect : Obligations.EngineConditionsTakeEffect := by
  refine ⟨fun s hmode hctrl hstate hneed => next_congr s (if_pos ⟨hmode, hctrl, hstate, hneed⟩), fun s hmode hdc hlaw hclamp => next_congr s (s.dev.clampBlock_due ⟨hmode, hdc, hlaw, hclamp⟩),
    fun s hblk hrun => ⟨_, next_congr s (s.dev.tblkEnd_due ⟨hblk, hrun⟩), rfl, rfl, rfl, rfl⟩, fun d n e hpow hmode => ⟨fun hsingle => ?single, fun hdouble => ?double⟩,
    fun s e => ⟨rfl, rfl, rfl⟩⟩
  case single =>
    have hrun : d.engineRead n (some e) = d.countedJobs e := (d.engineRead_eq n e hpow hmode).trans (if_pos hsingle)
    rw [hrun]
    exact ⟨rfl, fun j hj => d.countedJobs_corrected e j hj⟩
  case double =>
    rw [d.engineRead_eq n e hpow hmode, hdouble, if_neg Bool.false_ne_true]
    by_cases herr : d.sys.engineErr = true
    · rw [if_pos herr]
      exact ⟨herr, rfl, fun hrun late => d.isOverrun_of_engineErr late hrun herr, fun _ => rfl, fun h => absurd (herr.symm.trans h) (by simp)⟩
    · rw [if_neg herr]
      exact ⟨rfl, rfl, fun hrun late => (d.engineFailed n e).isOverrun_of_engineErr late hrun rfl, fun h => absurd h herr, fun _ => insertEv_length _ _⟩

-- O34: loop slots and pulse inputs -----------------------------------------------------------------------------------------------------------

/-- The device with the result of slot `n` for the next epoch. -/
def Dev.slotPut (d : Dev) (n : Nat) (x : Slot) : Dev := { d with lpe := { d.lpe with next := setAt d.lpe.next n x } }

/-- A source of slot `n` scaled by its kind (R210). -/
def Dev.lpeScaled (d : Dev) (n hi lo gain ofs : Nat) : Option Rat :=
  (d.lpeSource n (fld (d.act (R.LPE_SLOTn_SRC n)) lo (lo - 15))).map (scaleSrc (fld (d.act (R.LPE_SLOTn_SRC n)) hi (hi - 3)) (d.aval gain) (d.aval ofs))

/-- A slot that is due: its evaluation, or its hold with an invalid source (R211, R213). -/
theorem Dev.lpeEval_due (d : Dev) (n : Nat) (hn : n < 64) (hmode : d.mode ≠ .boot) (hon : (nth d.lpe.slots n {}).on = true)
    (hdue : d.tmb.epoch % fld (d.act (R.LPE_SLOTn_CTRL n)) 9 0 = 0) :
    ((d.lpeSource n (fld (d.act (R.LPE_SLOTn_SRC n)) 31 16) = none ∨ d.lpeSource n (fld (d.act (R.LPE_SLOTn_SRC n)) 15 0) = none) →
      d.lpeEval n = d.slotPut n (slotInvalid d.act n d.tmb.epoch (nth d.lpe.slots n {}))) ∧
    (∀ x y, d.lpeSource n (fld (d.act (R.LPE_SLOTn_SRC n)) 31 16) = some x → d.lpeSource n (fld (d.act (R.LPE_SLOTn_SRC n)) 15 0) = some y →
      ∃ z : Slot, d.lpeEval n = d.slotPut n z ∧ z.srcInvalid = false ∧ z.first = false) := by
  have hgo : (d.mode == .boot || decide (64 ≤ n) || !(nth d.lpe.slots n {}).on || decide (d.tmb.epoch % fld (d.act (R.LPE_SLOTn_CTRL n)) 9 0 ≠ 0)) = false := by
    rw [hon]
    simp [hn, hmode, hdue]
  unfold Dev.lpeEval
  extract_lets s ctrl st src sp pv put1
  rw [if_neg (Bool.eq_false_iff.1 hgo)]
  refine ⟨fun hbad => ?_, fun x y hx hy => ?_⟩
  · have hnone : sp = none ∨ pv = none := hbad.imp (fun h => congrArg (Option.map _) h) (fun h => congrArg (Option.map _) h)
    clear_value sp pv
    rcases hnone with rfl | rfl
    · rfl
    · cases sp <;> rfl
  · obtain ⟨x', hsp⟩ : ∃ x', sp = some x' := ⟨_, congrArg (Option.map _) hx⟩
    obtain ⟨y', hpv⟩ : ∃ y', pv = some y' := ⟨_, congrArg (Option.map _) hy⟩
    clear_value sp pv
    subst hsp hpv
    exact ⟨_, rfl, rfl, rfl⟩

theorem exec_lpeEvaluation (s : State) (n : Nat) (hn : n < 64) : exec (.lpeEvaluation n) s = .next { s with dev := s.dev.lpeEval n } := next_congr s (if_pos hn)

theorem Dev.slotPut_shows (d : Dev) (n : Nat) (x : Slot) (hlen : n < d.lpe.next.length) :
    d.slotPut n x = { d with lpe := { d.lpe with next := setAt d.lpe.next n (nth (d.slotPut n x).lpe.next n {}) } } ∧ nth (d.slotPut n x).lpe.next n {} = x := by
  have hself : nth (d.slotPut n x).lpe.next n {} = x := nth_setAt_self _ n x _ hlen
  rw [hself]
  exact ⟨rfl, rfl⟩

/-- A pulse input takes the level of its edge (R212). -/
theorem pulseEdge_level (enabled falling : Bool) (hz : Nat → Rat) (t : Nat) (level : Bool) (p : Pulse) : (pulseEdge enabled falling hz t level p).level = level := by
  unfold pulseEdge
  split
  case isTrue h => exact h.symm
  split
  · rfl
  extract_lets isStart p1
  split
  · rfl
  split <;> rfl

theorem pulseEdge_same (enabled falling : Bool) (hz : Nat → Rat) (t : Nat) (p : Pulse) : pulseEdge enabled falling hz t p.level p = p := if_pos rfl

/-- `b` is `a` but for the measurement cores. -/
def Dev.onlyAdc (a b : Dev) : Prop := b = { a with adc := b.adc }

theorem Dev.onlyAdc_trans {a b c : Dev} (hab : a.onlyAdc b) (hbc : b.onlyAdc c) : a.onlyAdc c := by
  unfold Dev.onlyAdc at *
  rw [hbc, hab]

theorem Dev.injTrigger_adc (d : Dev) (c : Nat) : d.onlyAdc (d.injTrigger c) := by
  unfold Dev.injTrigger
  dsimp only
  split
  · rfl
  split <;> rfl

theorem Dev.injTriggers_adc (d : Dev) (code : Nat) : d.onlyAdc (d.injTriggers code) := by
  refine foldl_keeps (fun y => d.onlyAdc y) _ (fun y c hy => ?_) (List.range 4) d rfl
  split
  · exact Dev.onlyAdc_trans hy (y.injTrigger_adc c)
  · exact hy

/-- The device with pulse input `n` after an edge to `level`, before what it triggers. -/
def Dev.pulseTaken (d : Dev) (n : Nat) (level : Bool) : Dev :=
  { d with lpe := { d.lpe with pulses := setAt d.lpe.pulses n (pulseEdge (d.abit (R.LPE_PIn_CFG n) 0) (d.abit (R.LPE_PIn_CFG n) 1) (fun c => qdiv 200000000 (c : Rat))
    (d.tmb.up / (5 * nsU)) level (nth d.lpe.pulses n {})) } }

theorem Dev.pulse_shows (d : Dev) (n : Nat) (level : Bool) :
    (d.pulseTaken n level).onlyAdc (d.pulse n level) ∧ (level = (nth d.lpe.pulses n {}).level → d.pulse n level = d.pulseTaken n level) := by
  refine ⟨?_, fun h => if_pos (Or.inr (Or.inl h))⟩
  unfold Dev.pulse
  extract_lets cfg p tick hz _ d1
  split
  · rfl
  · exact d1.injTriggers_adc _

theorem setAt_nth {α : Type} (l : List α) (n : Nat) (d : α) (h : n < l.length) : setAt l n (nth l n d) = l := by
  simp [setAt, nth, List.getElem?_eq_getElem h]

/-- A level that is already there changes nothing. -/
theorem Dev.pulseTaken_same (d : Dev) (n : Nat) (hlen : n < d.lpe.pulses.length) : d.pulseTaken n (nth d.lpe.pulses n {}).level = d := by
  unfold Dev.pulseTaken
  rw [pulseEdge_same, setAt_nth _ _ _ hlen]

theorem exec_pulseEdge (s : State) (n : Nat) (level : Bool) (hn : n < 8) : exec (.pulseEdge n level) s = .next { s with dev := s.dev.pulse n level } := next_congr s (if_pos hn)

/-- Settles O34. -/
theorem loopsAndPulseInputsEvaluate : Obligations.LoopsAndPulseInputsEvaluate := by
  refine ⟨fun s n hn hnext hmode hon hdue => ?slot, fun s n level hn hlen => ?edge, fun s n t hn hlen hon hstart hdue => ?timeout⟩
  case slot =>
    have hlen : n < s.dev.lpe.next.length := hnext ▸ hn
    obtain ⟨hbad, hgood⟩ := s.dev.lpeEval_due n hn hmode hon hdue
    have hput : ∃ x, s.dev.lpeEval n = s.dev.slotPut n x := by
      cases hx : s.dev.lpeSource n (fld (s.dev.act (R.LPE_SLOTn_SRC n)) 31 16) with
      | none => exact ⟨_, hbad (Or.inl hx)⟩
      | some x => cases hy : s.dev.lpeSource n (fld (s.dev.act (R.LPE_SLOTn_SRC n)) 15 0) with
        | none => exact ⟨_, hbad (Or.inr hy)⟩
        | some y =>
          obtain ⟨z, hz, -⟩ := hgood x y hx hy
          exact ⟨z, hz⟩
    refine ⟨_, exec_lpeEvaluation s n hn, ?_, fun hnone => ?_, fun x y hx hy => ?_⟩
    · obtain ⟨x, hx⟩ := hput
      rw [hx]
      exact (s.dev.slotPut_shows n x hlen).1
    · rw [hbad hnone, (s.dev.slotPut_shows n _ hlen).2]
      exact ⟨rfl, rfl, rfl⟩
    · obtain ⟨z, hz, hvalid, hfirst⟩ := hgood x y hx hy
      rw [hz, (s.dev.slotPut_shows n z hlen).2]
      exact ⟨hvalid, hfirst⟩
  case edge =>
    obtain ⟨honly, hsame⟩ := s.dev.pulse_shows n level
    unfold Dev.onlyAdc at honly
    refine ⟨_, exec_pulseEdge s n level hn, ?_, ?_, fun m hm => ?_, fun hlevel => ?_⟩
    · rw [honly]
      rfl
    · rw [honly]
      exact (congrArg Pulse.level (nth_setAt_self _ n _ _ hlen)).trans (pulseEdge_level ..)
    · rw [honly]
      exact nth_setAt_ne _ n m _ _ (Ne.symm hm)
    · rw [hsame hlevel, hlevel]
      exact s.dev.pulseTaken_same n hlen
  case timeout =>
    have hrun : s.dev.pulseTimeout n = { s.dev with lpe := { s.dev.lpe with pulses := setAt s.dev.lpe.pulses n { nth s.dev.lpe.pulses n {} with timedOut := true, valid := false } } } := by
      unfold Dev.pulseTimeout
      simp only [hstart]
      exact if_pos (Bool.and_eq_true_iff.2 ⟨hon, decide_eq_true hdue⟩)
    refine ⟨_, next_congr s ((if_pos hn).trans hrun), rfl, ?_⟩
    dsimp only
    rw [nth_setAt_self _ n _ _ hlen]
    exact ⟨rfl, rfl⟩

end Sys2Proof.Machine
end

section
/-! SUPPORT. O48. Station Ethernet frames and the requests answered at once: what a completion leaves of the host interface, and the slot it writes (R511, R524, R525). -/
namespace Sys2Proof.Machine

-- What a completion moves --------------------------------------------------------------------------------------------------------------------

/-- `b` has the host interface of `a` but for the queues and the MSI-X messages. -/
def Pci.onlyRings (a b : Pci) : Prop := b = { a with queues := b.queues, msixPending := b.msixPending, msixSent := b.msixSent }

theorem Pci.onlyRings_trans {a b c : Pci} (hab : a.onlyRings b) (hbc : b.onlyRings c) : a.onlyRings c := by
  unfold Pci.onlyRings at *
  rw [hbc, hab]

theorem Dev.signal_rings (d : Dev) (q : Nat) : d.pci.onlyRings (d.signal q).pci := by
  unfold Dev.signal Dev.msix
  split <;> rfl

theorem Dev.deliver_rings (d : Dev) (q t : Nat) (recs : List (List Word)) : d.pci.onlyRings (d.deliver q t recs).pci := by
  unfold Dev.deliver
  extract_lets x y d1
  have hd1 : d.pci.onlyRings d1.pci := rfl
  split
  · exact Pci.onlyRings_trans hd1 (d1.signal_rings q)
  · exact hd1

theorem Dev.complete_rings (d : Dev) (r : CompRef) (status result epoch : Nat) (data : List Word) : d.pci.onlyRings (d.complete r status result epoch data).pci := by
  unfold Dev.complete
  dsimp only
  split
  · exact Pci.onlyRings_trans (b := (d.setQueue r.q _).pci) rfl (Dev.deliver_rings ..)
  · rfl

theorem Dev.complete_buffers (d : Dev) (r : CompRef) (status result epoch : Nat) (data : List Word) :
    (d.complete r status result epoch data).pci.rxbufs = d.pci.rxbufs ∧ (d.complete r status result epoch data).pci.txq = d.pci.txq ∧
    (d.complete r status result epoch data).pci.ethNoBuf = d.pci.ethNoBuf := by
  have hrings := d.complete_rings r status result epoch data
  unfold Pci.onlyRings at hrings
  rw [hrings]
  exact ⟨rfl, rfl, rfl⟩

-- Frames -------------------------------------------------------------------------------------------------------------------------------------

theorem Dev.ethRx_rejected (d : Dev) (f : EthFrame) (hon : d.domOn 6 = true) (hport : f.port < 4) (hbad : f.good = false) :
    d.ethRx f = { d with pci := { d.pci with ethRejected := sat16 d.pci.ethRejected 1 } } :=
  (if_neg (by simp [hon, hport])).trans (if_pos (by simp [hbad]))

/-- The completion a received frame gives the buffer it takes (R525). -/
def Dev.ethData (d : Dev) (f : EthFrame) : List Word :=
  word (put 31 16 f.bytes.length + put 15 15 (b2n (etherType f.bytes).2) + put 14 14 (b2n ((etherType f.bytes).1 == 0x88F7))) :: stampWords (d.rxStamp f.port f.cyc)

/-- A multicast frame that is accepted. That the lowest bit of the first octet tells a multicast address is the model's choice (log 122). -/
theorem Dev.ethRx_accepted (d : Dev) (f : EthFrame) (hon : d.domOn 6 = true) (hport : f.port < 4) (hgood : f.good = true) (hmulti : nth f.bytes 0 0 % 2 = 1)
    (hlen : f.bytes.length ≤ 2040) (hen : d.abit R.PCI_ETH_CFG (8 * f.port + 7) = true) :
    d.ethRx f = match d.pci.rxbufs.find? (fun b => b.port == f.port) with
      | none => { d with pci := { d.pci with ethNoBuf := sat16 d.pci.ethNoBuf 1 } }
      | some b => ({ d with pci := { d.pci with rxbufs := d.pci.rxbufs.erase b } } : Dev).complete b.ref 0 1 d.tmb.epoch (d.ethData f) := by
  refine (if_neg (by simp [hon, hport])).trans ((if_neg (by simp [hgood, hmulti, hlen, hen])).trans ?_)
  cases d.pci.rxbufs.find? (fun b => b.port == f.port) with
  | none => rfl
  | some b => rfl

theorem Dev.ethSent_some (d : Dev) (p : Nat) (b : EthReq) (hon : d.domOn 6 = true) (hfind : d.pci.txq.find? (fun x => x.port == p) = some b) :
    d.ethSent p = ({ d.tookFree with pci := { d.pci with txq := d.pci.txq.erase b } } : Dev).complete b.ref 0 1 d.tmb.epoch (stampWords (d.txStamp p)) := by
  unfold Dev.ethSent
  rw [hon]
  simp only [hfind, Bool.not_true, Bool.false_eq_true, if_false]

-- Requests answered at once ------------------------------------------------------------------------------------------------------------------

theorem Dev.fetched_queue (d : Dev) (q : Nat) (hq : q < d.pci.queues.length) :
    (d.fetched q).queue q = { d.queue q with sqHead := ((d.queue q).sqHead + 1) % d.sqSize q, reserved := (d.queue q).reserved + 1 } := d.setQueue_queue q _ hq

theorem Dev.takesEntry_running (d : Dev) (q op : Nat) (e : SqEntry) (h : d.takesEntry q op e = true) : (d.queue q).st = 1 := by
  simp only [Dev.takesEntry, Dev.canFetch, Bool.and_eq_true, beq_iff_eq] at h
  exact h.1.1.1.1.1.2

/-- A queue after one record of one slot. -/
def Queue.wrote (x : Queue) (size type : Nat) (ws : List Word) : Queue := writeSlots size type 1 0 [ws] x

theorem Queue.wrote_shows (x : Queue) (size type : Nat) (ws : List Word) :
    (x.wrote size type ws).slots = x.slots ++ [slotWords x.phase type 1 0 ws] ∧ (x.wrote size type ws).sqHead = x.sqHead ∧ (x.wrote size type ws).reserved = x.reserved :=
  ⟨rfl, rfl, rfl⟩

/-- One record of one slot delivered: the slot, and nothing that the requests see. -/
theorem Dev.deliver_one (d : Dev) (q type : Nat) (ws : List Word) (hq : q < d.pci.queues.length) :
    ((d.deliver q type [ws]).queue q).slots = (d.queue q).slots ++ [slotWords (d.queue q).phase type 1 0 ws] ∧ ((d.deliver q type [ws]).queue q).sqHead = (d.queue q).sqHead ∧
    ((d.deliver q type [ws]).queue q).reserved = (d.queue q).reserved := by
  obtain ⟨hslots, hhead, hres⟩ := (d.queue q).wrote_shows (d.cqSize q) type ws
  obtain ⟨y, hy, yslots, yhead, yres⟩ : ∃ y : Queue, d.deliver q type [ws] = (if d.afld (R.PCI_Qq_COAL q) 7 0 ≤ y.unsig then (d.setQueue q y).signal q else d.setQueue q y) ∧
      y.slots = ((d.queue q).wrote (d.cqSize q) type ws).slots ∧ y.sqHead = ((d.queue q).wrote (d.cqSize q) type ws).sqHead ∧
      y.reserved = ((d.queue q).wrote (d.cqSize q) type ws).reserved := ⟨_, rfl, rfl, rfl, rfl⟩
  have hset := d.setQueue_queue q y hq
  have hlen : q < (d.setQueue q y).pci.queues.length := by simpa [length_setAt] using hq
  rw [hy, ← hslots, ← hhead, ← hres, ← yslots, ← yhead, ← yres]
  split
  · rw [(d.setQueue q y).signal_queue q hlen, hset]
    exact ⟨rfl, rfl, rfl⟩
  · rw [hset]
    exact ⟨rfl, rfl, rfl⟩

/-- The first words of a completion (R519). -/
def compWords (tag opcode status result head epoch : Nat) : List Word := [word (put 31 16 tag + put 15 8 opcode + put 7 4 status), word result, word head, lo32 epoch, hi32 epoch]

/-- The completion of an entry just fetched: its slot, and the reservation it gives back. -/
theorem Dev.complete_fetched (d : Dev) (q op : Nat) (e : SqEntry) (status result epoch : Nat) (hq : q < d.pci.queues.length) (hst : (d.queue q).st = 1) (x : Dev)
    (hx : x = (d.fetched q).complete (d.entryRef q op e) status result epoch []) :
    (x.queue q).sqHead = ((d.queue q).sqHead + 1) % d.sqSize q ∧ (x.queue q).reserved = (d.queue q).reserved ∧
    (x.queue q).slots = (d.queue q).slots ++ [slotWords (d.queue q).phase 1 1 0 (compWords e.tag op status result (((d.queue q).sqHead + 1) % d.sqSize q) epoch)] := by
  have hqueue := d.fetched_queue q hq
  have hlen : q < (d.fetched q).pci.queues.length := by
    rw [show (d.fetched q).pci.queues.length = d.pci.queues.length from length_setAt ..]
    exact hq
  obtain ⟨f, hf⟩ : ∃ f, f = d.fetched q := ⟨_, rfl⟩
  rw [← hf] at hx hqueue hlen
  have hrun : x = (f.setQueue q { f.queue q with reserved := (f.queue q).reserved - 1 }).deliver q 1 [compWords e.tag op status result (f.queue q).sqHead epoch] := by
    rw [hx]
    unfold Dev.complete
    rw [if_pos (by rw [Dev.entryRef, hqueue]; exact ⟨rfl, hst⟩), List.append_nil]
    rfl
  have hset := f.setQueue_queue q { f.queue q with reserved := (f.queue q).reserved - 1 } hlen
  have hlen' : q < (f.setQueue q { f.queue q with reserved := (f.queue q).reserved - 1 }).pci.queues.length := by simpa [length_setAt] using hlen
  obtain ⟨hslots, hhead, hres⟩ := (f.setQueue q { f.queue q with reserved := (f.queue q).reserved - 1 }).deliver_one q 1
    (compWords e.tag op status result (f.queue q).sqHead epoch) hlen'
  rw [hrun, hhead, hres, hslots, hset, hqueue]
  exact ⟨rfl, Nat.add_sub_cancel _ 1, rfl⟩

/-- The first words of the completion of a NOP. RESULT 1 and EPOCH 0 of it are the model's choice (log 40). -/
theorem compWords_nop (tag head : Nat) : compWords tag Op.nop 0 1 head 0 = [word (put 31 16 tag), 1, word head, 0, 0] := by
  have hput : put 31 16 tag + put 15 8 Op.nop + put 7 4 0 = put 31 16 tag := by simp [put, Op.nop]
  unfold compWords
  rw [hput]
  rfl

/-- A REG_READ of admitted, aligned offsets is answered with what reads see. -/
theorem Dev.regRead_admitted (d v : Dev) (dram : List Host.Cell) (e : SqEntry) (r : CompRef)
    (h : ∀ i, i < sqF e 1 3 0 → sqF e (2 + i) 23 0 % 4 = 0 ∧ d.regionAdmits (d.level (some r.q)) (sqF e (2 + i) 23 0) false = true) :
    d.regRead v dram e r = d.complete r 0 1 v.tmb.epoch (forN (sqF e 1 3 0) (fun i => readOffset d v dram (sqF e (2 + i) 23 0))) := by
  have hmem : ∀ o ∈ forN (sqF e 1 3 0) (fun i => sqF e (2 + i) 23 0), o % 4 = 0 ∧ d.regionAdmits (d.level (some r.q)) o false = true := by
    intro o ho
    obtain ⟨i, hi, rfl⟩ := List.mem_map.1 ho
    exact h i (List.mem_range.1 hi)
  unfold Dev.regRead
  extract_lets offs d1
  have hfind : offs.find? (fun o => !(d.regionAdmits (d.level (some r.q)) o false)) = none :=
    List.find?_eq_none.2 (fun o ho => by simp [(hmem o ho).2])
  have hfold : ∀ (l : List Nat), (∀ o ∈ l, o % 4 = 0) → l.foldl (fun (x : Dev) (o : Nat) => if o % 4 = 0 then x else x.accessFault (some r.q) 0 o false) d = d := by
    intro l hl
    induction l with
    | nil => rfl
    | cons o l ih =>
      rw [List.foldl_cons, if_pos (hl o List.mem_cons_self)]
      exact ih (fun a ha => hl a (List.mem_cons_of_mem o ha))
  simp only [hfind]
  rw [show d1 = d from hfold offs (fun o ho => (hmem o ho).1)]
  refine congrArg _ ?_
  simp [offs, forN]

/-- Settles O48. The test for a multicast address is the model's choice (log 122), and so are RESULT and EPOCH of a NOP (log 40). -/
theorem framesAndImmediateRequests : Obligations.FramesAndImmediateRequests := by
  refine ⟨fun s f hon hport hbad => next_congr s (s.dev.ethRx_rejected f hon hport hbad), fun s f hon hport hgood hmulti hlen hen => ?frame, fun s p b hon hfind => ?sent,
    fun s q e htakes hq => ?nop, fun s q e htakes hreads => ?read⟩
  case frame =>
    have hrun := s.dev.ethRx_accepted f hon hport hgood hmulti hlen hen
    cases hfind : s.dev.pci.rxbufs.find? (fun x => x.port == f.port) with
    | none =>
      rw [hfind] at hrun
      exact ⟨_, next_congr s hrun, rfl, fun _ => rfl, fun b hb => absurd hb (by simp)⟩
    | some b =>
      rw [hfind] at hrun
      obtain ⟨x, hx⟩ : ∃ x : Dev, x = { s.dev with pci := { s.dev.pci with rxbufs := s.dev.pci.rxbufs.erase b } } := ⟨_, rfl⟩
      obtain ⟨hbufs, -, hcount⟩ := x.complete_buffers b.ref 0 1 s.dev.tmb.epoch (s.dev.ethData f)
      have honly := x.complete_only b.ref 0 1 s.dev.tmb.epoch (s.dev.ethData f)
      dsimp only at hrun
      rw [← hx] at hrun
      refine ⟨_, next_congr s hrun, ?_, fun hnone => ?_, fun c hc => ?_⟩
      · rw [honly, hx]
      · exact absurd (List.find?_some hfind) (by simpa using hnone b (List.mem_of_find?_eq_some hfind))
      · obtain rfl := Option.some.inj hc
        rw [hbufs, hcount, hx]
        exact ⟨rfl, rfl⟩
  case sent =>
    obtain ⟨x, hx⟩ : ∃ x : Dev, x = { s.dev.tookFree with pci := { s.dev.pci with txq := s.dev.pci.txq.erase b } } := ⟨_, rfl⟩
    have hrun := s.dev.ethSent_some p b hon hfind
    rw [← hx] at hrun
    obtain ⟨-, htxq, -⟩ := x.complete_buffers b.ref 0 1 s.dev.tmb.epoch (stampWords (s.dev.txStamp p))
    have honly := x.complete_only b.ref 0 1 s.dev.tmb.epoch (stampWords (s.dev.txStamp p))
    refine ⟨_, next_congr s hrun, ?_, ?_⟩
    · rw [honly, hx]
      rfl
    · rw [htxq, hx]
  case nop =>
    obtain ⟨hhead, hres, hslots⟩ := s.dev.complete_fetched q Op.nop e 0 1 0 hq (s.dev.takesEntry_running q Op.nop e htakes) _ rfl
    rw [compWords_nop] at hslots
    refine ⟨_, onDev_fetch_takes s q Op.nop e (fun x r => x.complete r 0 1 0 []) htakes, ?_, hhead, hres, hslots⟩
    rw [Dev.complete_only]
    rfl
  case read =>
    exact ⟨_, (onDev_fetch_takes s q Op.regRead e (fun x r => x.regRead s.view s.dram e r) htakes).trans
      (next_congr s ((s.dev.fetched q).regRead_admitted s.view s.dram e (s.dev.entryRef q Op.regRead e) hreads)), rfl⟩

end Sys2Proof.Machine
end

section
/-! SUPPORT. The redundant pair: what a role change, a timing failure and a PAIR block alter; O43. -/
namespace Sys2Proof.Machine

/-- At most the pair's own state, the drive pairs, the queues and the recorder's triggers change. -/
def Dev.onlyRdn (a b : Dev) : Prop := b = { a with rdn := b.rdn, ddp := { a.ddp with pairs := b.ddp.pairs }, pci := b.pci, recd := b.recd }

theorem Dev.onlyRdn_trans {a b c : Dev} (hab : a.onlyRdn b) (hbc : b.onlyRdn c) : a.onlyRdn c := by
  unfold Dev.onlyRdn at *
  rw [hbc, hab]

theorem Dev.onlyRdn_of_onlyPairs {a b : Dev} (h : a.onlyPairs b) : a.onlyRdn b := by
  unfold Dev.onlyRdn
  rw [h]

theorem Dev.onlyPairs_rdn {a b : Dev} (h : a.onlyPairs b) : b.rdn = a.rdn := by rw [h]

theorem Dev.raiseT_onlyRdn (d : Dev) (b c s i r m : Nat) (w : List Word) : d.onlyRdn (d.raiseT b c s i r m w) := by
  unfold Dev.onlyRdn
  rw [d.raiseT_only b c s i r m w]

/-- A role change sets the role, and leaves what the partner told as it was (R348, R366, R367). -/
theorem Dev.setRole_shows (d : Dev) (role : Nat) :
    d.onlyRdn (d.setRole role) ∧ (d.setRole role).rdn.role = role ∧ (d.setRole role).rdn.pClaim = d.rdn.pClaim ∧ (d.setRole role).rdn.pUnit = d.rdn.pUnit ∧
      (d.setRole role).rdn.pMode = d.rdn.pMode ∧ (d.setRole role).rdn.pState = d.rdn.pState ∧ (d.setRole role).rdn.unitConflict = d.rdn.unitConflict ∧
      (d.setRole role).rdn.pEpoch = d.rdn.pEpoch := by
  by_cases h : d.rdn.role = role
  · have hsame : d.setRole role = d := if_pos h
    rw [hsame]
    exact ⟨rfl, h, rfl, rfl, rfl, rfl, rfl, rfl⟩
  · unfold Dev.setRole
    extract_lets r st r1
    rw [if_neg h]
    have hrel := (Dev.released_shows ({ d with rdn := r1 } : Dev) d).1
    have hown : d.onlyRdn ({ d with rdn := r1 } : Dev) := rfl
    refine ⟨Dev.onlyRdn_trans (Dev.onlyRdn_trans hown (Dev.onlyRdn_of_onlyPairs hrel)) (Dev.raiseT_onlyRdn _ ..), ?_⟩
    rw [Dev.raiseT_rdn, Dev.onlyPairs_rdn hrel]
    exact ⟨rfl, rfl, rfl, rfl, rfl, rfl, rfl⟩

/-- A timing failure is noted, and may raise an event (R354, R359). -/
theorem Dev.timingFail_shows (d : Dev) : d.timingFail.rdn = { d.rdn with timingNow := true } ∧ d.timingFail = { d with rdn := d.timingFail.rdn, pci := d.timingFail.pci } := by
  unfold Dev.timingFail
  extract_lets r d1
  split
  · exact ⟨rfl, rfl⟩
  · exact ⟨rfl, rfl⟩

theorem Dev.timingFail_onlyRdn (d : Dev) : d.onlyRdn d.timingFail := by
  unfold Dev.onlyRdn
  rw [(d.timingFail_shows).2]

/-- An event raised or not leaves all but the queues. -/
theorem Dev.raiseIf_only (c : Bool) (d : Dev) (s i r m : Nat) (w : List Word) :
    (if c then d.raise s i r m w else d) = { d with pci := (if c then d.raise s i r m w else d).pci } := by
  cases c <;> rfl

/-- What a valid PAIR block tells, before the role is settled (R347, R354). -/
def Dev.partnerTold (d : Dev) (b : Dword) : Rdn :=
  let seqOk := decide (bfld b 55 40 = d.tmb.epoch % 65536)
  let base := bfld b 39 24 / 256
  { d.rdn with pClaim := bfld b 39 24, pUnit := bfld b 23 23, pMode := bfld b 22 19, pState := bfld b 18 16, pBase := if base = 0 then d.rdn.pBase else base, pEpoch := if seqOk then some d.tmb.epoch else d.rdn.pEpoch, baseEqual := if base = 0 then d.rdn.baseEqual else decide (base = d.afld R.RDN_CFG 31 24), unitConflict := decide (bfld b 23 23 = d.unitNo) }

theorem Dev.pairBlock_valid (d : Dev) (lane : Nat) (b : Dword) (hen : d.pairEn = true) (hok : d.mirOk lane = true) (htype : blockType b = 0x99) (hcrc : crcOk b = true) :
    ∃ x : Dev, x = { d with rdn := d.partnerTold b, pci := x.pci } ∧
      d.pairBlock lane b = if bfld b 55 40 = d.tmb.epoch % 65536 then x.setRole (if bfld b 39 24 < d.rdn.own then 1 else 2) else x.timingFail := by
  unfold Dev.pairBlock
  rw [if_neg (by simp [hen, hok]), if_neg (by simp [htype, hcrc])]
  extract_lets seqOk claim unit base r eq uc d1 d2 d3
  refine ⟨d3, ?_, ?_⟩
  · have h2 : d2 = { d1 with pci := d2.pci } := Dev.raiseIf_only _ d1 ..
    have h3 : d3 = { d2 with pci := d3.pci } := Dev.raiseIf_only _ d2 ..
    rw [h3, h2]
    rfl
  · by_cases hseq : bfld b 55 40 = d.tmb.epoch % 65536
    · rw [if_pos hseq, if_pos (decide_eq_true hseq)]
    · rw [if_neg hseq, if_neg (by simpa [seqOk] using hseq)]

theorem exec_pairBlock (s : State) (lane : Nat) (b : Dword) (hlane : lane < 2) : exec (.pairBlock lane b) s = .next { s with dev := s.dev.pairBlock lane b } :=
  next_congr s (if_pos hlane)

theorem exec_escrowReceived (s : State) (lane : Nat) (bs : List (Nat × Dword)) (hlane : lane < 2) :
    exec (.escrowReceived lane bs) s = .next { s with dev := s.dev.escrowIn lane bs } :=
  next_congr s (if_pos hlane)

theorem Dev.escrowIn_torn (d : Dev) (lane : Nat) (bs : List (Nat × Dword)) (hen : d.pairEn = true) (hok : d.mirOk lane = true) (huc : d.rdn.unitConflict = false)
    (hgot : d.rdn.escGot = false) (hbad : escrowComplete bs = false) (htorn : d.rdn.escTorn = false) :
    d.escrowIn lane bs = { d with rdn := { d.rdn with escTorn := true, torn := if d.rdn.cutPassed then sat32 d.rdn.torn 1 else d.rdn.torn } } := by
  unfold Dev.escrowIn
  rw [if_neg (by simp [hen, hok, huc, hgot]), if_pos (by simp [hbad]), if_neg (by simp [htorn])]

/-- What an accepted escrow run leaves in the pair's state (R359, R360). -/
def Dev.escrowTaken (d : Dev) (e : Escrow) : Rdn :=
  let cut : Int := ((d.tmb.syncUp + d.tc : Nat) : Int) - 50 * (nsU : Int)
  { d.rdn with esc := some e, escAt := d.tmb.up, escGot := true, escIn := !d.rdn.cutPassed, margin := (cut - (d.tmb.up : Int)) / (nsU : Int), late := if d.rdn.cutPassed then sat32 d.rdn.late 1 else d.rdn.late }

theorem Dev.escrowIn_complete (d : Dev) (lane : Nat) (bs : List (Nat × Dword)) (e : Escrow) (hen : d.pairEn = true) (hok : d.mirOk lane = true) (huc : d.rdn.unitConflict = false)
    (hgot : d.rdn.escGot = false) (hgood : escrowComplete bs = true) (he : e = readEscrow (bs.map (fun x => x.2))) :
    d.escrowIn lane bs = if e.epoch + 1 = d.tmb.epoch ∧ e.tc = d.cycles ∧ e.origin * secU = d.origin then { d with rdn := d.escrowTaken e } else d.timingFail := by
  unfold Dev.escrowIn
  rw [if_neg (by simp [hen, hok, huc, hgot]), if_neg (by simp [hgood])]
  have horigin : e.origin * secU = d.origin ↔ e.origin = (d.act R.TMB_EPOCH_ORIGIN_HI).toNat * 2 ^ 32 + (d.act R.TMB_EPOCH_ORIGIN_LO).toNat :=
    Nat.mul_left_inj (by decide)
  subst he
  by_cases hfit : (readEscrow (bs.map (fun x => x.2))).epoch + 1 = d.tmb.epoch ∧ (readEscrow (bs.map (fun x => x.2))).tc = d.cycles ∧
      (readEscrow (bs.map (fun x => x.2))).origin * secU = d.origin
  · obtain ⟨hepoch, htc, horg⟩ := hfit
    refine Eq.trans (if_neg ?_) (if_pos ⟨hepoch, htc, horg⟩).symm
    rintro (h | h | h)
    · exact h hepoch
    · exact h htc
    · exact h (horigin.1 horg)
  · refine Eq.trans (if_pos ?_) (if_neg hfit).symm
    by_contra hnone
    push Not at hnone
    obtain ⟨hepoch, htc, horg⟩ := hnone
    exact hfit ⟨hepoch, htc, horigin.2 horg⟩

/-- Moving to an instant moves the timebase's clocks and the slew that remains alone. -/
theorem Dev.timeTo_only (d : Dev) (t : Nat) :
    d.timeTo t = { d with tmb := { d.tmb with now := (d.timeTo t).tmb.now, up := (d.timeTo t).tmb.up, age := (d.timeTo t).tmb.age }, ptp := { d.ptp with rem := (d.timeTo t).ptp.rem } } := by
  unfold Dev.timeTo
  split
  · rfl
  · rfl

theorem Dev.escrowCut_only (d : Dev) (h : d.rdn.cutPassed = false) : d.escrowCut = { d with rdn := { d.rdn with cutPassed := true, torn := d.escrowCut.rdn.torn } } := by
  unfold Dev.escrowCut
  rw [if_neg (by simp [h])]

/-- Settles O43. A block of another number still tells claim, unit, mode and state, a torn run counts once an epoch, at the cut-off (log 48), and the cut-off moves time
to its own instant (log 17): the model's choices. -/
theorem pairBlocksAndEscrowAreChecked : Obligations.PairBlocksAndEscrowAreChecked := by
  unfold Obligations.PairBlocksAndEscrowAreChecked
  refine ⟨?pair, ?invalid, ?torn, ?complete, ?cutoff⟩
  case pair =>
    intro s lane b hlane hen hok htype hcrc
    obtain ⟨x, hx, hd⟩ := s.dev.pairBlock_valid lane b hen hok htype hcrc
    refine ⟨_, exec_pairBlock s lane b hlane, ?_⟩
    have hxr : x.rdn = s.dev.partnerTold b := by rw [hx]
    have hxo : s.dev.onlyRdn x := by unfold Dev.onlyRdn; rw [hx]
    rw [hd]
    by_cases hseq : bfld b 55 40 = s.dev.tmb.epoch % 65536
    · rw [if_pos hseq]
      obtain ⟨honly, hrole, hclaim, hunit, hmode, hstate, huc, hep⟩ := x.setRole_shows (if bfld b 39 24 < s.dev.rdn.own then 1 else 2)
      refine ⟨Dev.onlyRdn_trans hxo honly, by rw [hclaim, hxr]; rfl, by rw [hunit, hxr]; rfl, by rw [hmode, hxr]; rfl, by rw [hstate, hxr]; rfl, by rw [huc, hxr]; rfl,
        fun _ => ⟨?_, hrole⟩, fun h => absurd hseq h⟩
      rw [hep, hxr]
      exact if_pos (decide_eq_true hseq)
    · rw [if_neg hseq]
      refine ⟨Dev.onlyRdn_trans hxo x.timingFail_onlyRdn, ?_⟩
      rw [x.timingFail_shows.1, hxr]
      exact ⟨rfl, rfl, rfl, rfl, rfl, fun h => absurd h hseq, fun _ => ⟨if_neg (by simpa using hseq), rfl, rfl⟩⟩
  case invalid =>
    intro s lane b hlane hen hok hbad
    refine (exec_pairBlock s lane b hlane).trans (next_congr s ?_)
    unfold Dev.pairBlock
    rw [if_neg (by simp [hen, hok]), if_pos (by by_cases ht : blockType b = 0x99 <;> simp_all)]
    rfl
  case torn =>
    intro s lane bs hlane hen hok huc hgot hbad htorn
    refine ⟨_, exec_escrowReceived s lane bs hlane, ?_⟩
    rw [s.dev.escrowIn_torn lane bs hen hok huc hgot hbad htorn]
    exact ⟨rfl, rfl⟩
  case complete =>
    intro s lane bs e hlane hen hok huc hgot hgood he
    refine ⟨_, exec_escrowReceived s lane bs hlane, ?_⟩
    rw [s.dev.escrowIn_complete lane bs e hen hok huc hgot hgood he]
    by_cases hfit : e.epoch + 1 = s.dev.tmb.epoch ∧ e.tc = s.dev.cycles ∧ e.origin * secU = s.dev.origin
    · rw [if_pos hfit]
      refine ⟨rfl, fun _ _ _ => ⟨rfl, rfl, rfl, rfl, rfl, rfl⟩, ?_⟩
      obtain ⟨hepoch, htc, horg⟩ := hfit
      rintro (h | h | h)
      · exact absurd hepoch h
      · exact absurd htc h
      · exact absurd horg h
    · rw [if_neg hfit]
      exact ⟨s.dev.timingFail_shows.2, fun h1 h2 h3 => absurd ⟨h1, h2, h3⟩ hfit, fun _ => s.dev.timingFail_shows.1⟩
  case cutoff =>
    intro s hmode hrun hcut
    obtain ⟨x, hx⟩ : ∃ x, x = s.dev.timeTo (s.dev.tmb.sync + (s.dev.tc - 50 * nsU) + s.dev.advance1.toNat) := ⟨_, rfl⟩
    have hrow : exec .escrowCutoff s = .next { s with dev := x.escrowCut } := by
      rw [hx]
      exact next_congr s (if_neg (by simp [hmode, hrun]))
    have hxo := Dev.timeTo_only s.dev (s.dev.tmb.sync + (s.dev.tc - 50 * nsU) + s.dev.advance1.toNat)
    rw [← hx] at hxo
    have hxc : x.rdn.cutPassed = false := by rw [hxo]; exact hcut
    have hnow : x.escrowCut.tmb = x.tmb := by rw [Dev.escrowCut_only x hxc]
    refine ⟨_, hrow, ?_, ?_⟩
    · rw [Dev.escrowCut_only x hxc, hxo]
    · rw [hnow, hx, Dev.timeTo_now]

end Sys2Proof.Machine
end

section
/-! SUPPORT. Precision time: what a used Sync and a peer-delay measurement alter, and the messages of the two domains one after the other; O47. -/
namespace Sys2Proof.Machine

/-- At most the PTP state, the latched flags, the queues and the recorder's triggers change. -/
def Dev.onlyPtp (a b : Dev) : Prop := b = { a with ptp := b.ptp, sticky := b.sticky, clears := b.clears, pci := b.pci, recd := b.recd }

theorem Dev.onlyPtp_trans {a b c : Dev} (hab : a.onlyPtp b) (hbc : b.onlyPtp c) : a.onlyPtp c := by
  unfold Dev.onlyPtp at *
  rw [hbc, hab]

theorem Dev.takes_congr {a b : Dev} (h : a.onlyPtp b) (m : PtpMsg) (x : Nat) : b.takes m x = a.takes m x := by
  rw [h]; rfl

-- One operation and what it leaves --------------------------------------------------------------------------------------------------------

/-- `b` comes from `a` with the domains and the ports as they were. -/
def Dev.keepsDoms (a b : Dev) : Prop := a.onlyPtp b ∧ b.ptp.doms = a.ptp.doms ∧ b.ptp.ports = a.ptp.ports

theorem Dev.keepsDoms_trans {a b c : Dev} (hab : a.keepsDoms b) (hbc : b.keepsDoms c) : a.keepsDoms c := by
  obtain ⟨hab1, hab2, hab3⟩ := hab
  obtain ⟨hbc1, hbc2, hbc3⟩ := hbc
  exact ⟨Dev.onlyPtp_trans hab1 hbc1, hbc2.trans hab2, hbc3.trans hab3⟩

theorem Dev.ptpSwitch_only (d : Dev) (x : Nat) : d.ptpSwitch x = { d with ptp := (d.ptpSwitch x).ptp } ∧ (d.ptpSwitch x).ptp.doms = d.ptp.doms ∧
    (d.ptpSwitch x).ptp.ports = d.ptp.ports := by
  unfold Dev.ptpSwitch
  split <;> exact ⟨rfl, rfl, rfl⟩

theorem Dev.ptpAuto_only (d : Dev) : d.ptpAuto = { d with ptp := d.ptpAuto.ptp } ∧ d.ptpAuto.ptp.doms = d.ptp.doms ∧ d.ptpAuto.ptp.ports = d.ptp.ports := by
  unfold Dev.ptpAuto
  extract_lets a
  split
  · exact d.ptpSwitch_only (1 - a)
  · exact ⟨rfl, rfl, rfl⟩

theorem Dev.ptpAuto_keeps (d : Dev) : d.keepsDoms d.ptpAuto := by
  obtain ⟨honly, hdoms, hports⟩ := d.ptpAuto_only
  refine ⟨?_, hdoms, hports⟩
  unfold Dev.onlyPtp
  rw [honly]

theorem Dev.keepsDoms_of_onlyPci {a b : Dev} (h : a.onlyPci b) : a.keepsDoms b := by
  unfold Dev.onlyPci at h
  refine ⟨?_, ?_, ?_⟩
  · unfold Dev.onlyPtp; rw [h]
  · rw [h]
  · rw [h]

theorem Dev.timeSample_keeps (d : Dev) (x seq t2 : Nat) : d.keepsDoms (d.timeSample x seq t2) := by
  refine Dev.keepsDoms_of_onlyPci ?_
  unfold Dev.timeSample
  extract_lets y q act w
  split
  · exact Dev.deliver_only d q 4 [w]
  · rfl

theorem Dev.crossCheck_keeps (d : Dev) : d.keepsDoms d.crossCheck := by
  unfold Dev.crossCheck
  split
  · exact ⟨rfl, rfl, rfl⟩
  · dsimp only
    split
    · exact ⟨rfl, rfl, rfl⟩
    · exact ⟨rfl, rfl, rfl⟩

theorem Dev.ethRx_onlyPci (d : Dev) (f : EthFrame) : d.onlyPci (d.ethRx f) := by
  unfold Dev.ethRx
  extract_lets p dst ok
  split
  · rfl
  · split
    · rfl
    · split
      · rfl
      · dsimp only
        rw [Dev.complete_only]
        rfl

-- A domain changed by an operation -----------------------------------------------------------------------------------------------------------

/-- `b` comes from `a` by a new value of domain `x`, of which `P` holds. -/
def Dev.domMoves (a b : Dev) (x : Nat) (P : Dom → Prop) : Prop := a.onlyPtp b ∧ b.ptp.ports = a.ptp.ports ∧ ∃ z, P z ∧ b.ptp.doms = setAt a.ptp.doms x z

theorem Dev.setDom_moves (d : Dev) (x : Nat) (z : Dom) (P : Dom → Prop) (h : P z) : d.domMoves (d.setDom x z) x P := ⟨rfl, rfl, z, h, rfl⟩

theorem Dev.domMoves_keeps {a b c : Dev} {x : Nat} {P : Dom → Prop} (hab : a.domMoves b x P) (hbc : b.keepsDoms c) : a.domMoves c x P := by
  obtain ⟨honly, hports, z, hz, hdoms⟩ := hab
  obtain ⟨honly', hdoms', hports'⟩ := hbc
  exact ⟨Dev.onlyPtp_trans honly honly', hports'.trans hports, z, hz, hdoms'.trans hdoms⟩

theorem Dev.domMoves_dom {a b : Dev} {x : Nat} {P : Dom → Prop} (h : a.domMoves b x P) (hx : x < a.ptp.doms.length) : P (b.dom x) := by
  obtain ⟨_, _, z, hz, hdoms⟩ := h
  have hdom : b.dom x = z := by rw [Dev.dom, hdoms]; exact nth_setAt_self _ x z _ hx
  rwa [hdom]

theorem Dev.domMoves_dom_ne {a b : Dev} {x y : Nat} {P : Dom → Prop} (h : a.domMoves b x P) (hne : x ≠ y) : b.dom y = a.dom y := by
  obtain ⟨_, _, z, _, hdoms⟩ := h
  rw [Dev.dom, hdoms]
  exact nth_setAt_ne _ x y z _ hne

theorem Dev.domMoves_length {a b : Dev} {x : Nat} {P : Dom → Prop} (h : a.domMoves b x P) : b.ptp.doms.length = a.ptp.doms.length := by
  obtain ⟨_, _, z, _, hdoms⟩ := h
  rw [hdoms, length_setAt]

/-- What a used Sync leaves of its domain: tracked unless SUSPECT, its Sync just now, none waiting (R438, R439). -/
def Dev.synced (d : Dev) (y z : Dom) : Prop := z.st = (if y.st = 3 then 3 else 2) ∧ z.lastSync = d.tmb.up ∧ z.wait = none

theorem Dev.useSync_moves (d : Dev) (x seq t1 t2 : Nat) (corr : Int) : d.domMoves (d.useSync x seq t1 t2 corr) x (d.synced (d.dom x)) := by
  unfold Dev.useSync
  extract_lets y ofs z
  have hz : d.domMoves (d.setDom x z) x (d.synced (d.dom x)) := d.setDom_moves x z _ ⟨rfl, rfl, rfl⟩
  exact Dev.domMoves_keeps (Dev.domMoves_keeps (Dev.domMoves_keeps hz (Dev.crossCheck_keeps _)) (Dev.ptpAuto_keeps _)) (Dev.timeSample_keeps ..)

theorem Dev.raiseT_keepsDoms (d : Dev) (b c s i r m : Nat) (w : List Word) : d.keepsDoms (d.raiseT b c s i r m w) := by
  have h := d.raiseT_only b c s i r m w
  refine ⟨?_, by rw [Dev.raiseT_ptp], by rw [Dev.raiseT_ptp]⟩
  unfold Dev.onlyPtp
  rw [h]

theorem Dev.measure_moves (d : Dev) (x : Nat) (m : Int) : d.domMoves (d.measure x m) x (fun z => z.mpd = m) := by
  unfold Dev.measure
  extract_lets y far
  split
  · exact d.setDom_moves x _ _ rfl
  · split
    · exact d.setDom_moves x _ _ rfl
    · split
      · exact d.setDom_moves x _ _ rfl
      · exact Dev.domMoves_keeps (Dev.domMoves_keeps (d.setDom_moves x _ _ rfl) (Dev.raiseT_keepsDoms ..)) (Dev.ptpAuto_keeps _)

-- A message at both domains ------------------------------------------------------------------------------------------------------------------

/-- A Sync message at domain `x`. -/
def Dev.syncMsgAt (m : PtpMsg) (t2 : Nat) (y : Dev) (x : Nat) : Dev :=
  if !(y.takes m x) then y
  else if m.twoStep then y.setDom x { y.dom x with wait := some ⟨m.seq, t2, m.corr⟩ }
  else y.useSync x m.seq (tOf m.sec m.ns) t2 m.corr

theorem Dev.ptpSync_eq (d : Dev) (m : PtpMsg) :
    d.ptpSync m = (Dev.syncMsgAt m (d.rxStamp m.eth.port m.eth.cyc) (Dev.syncMsgAt m (d.rxStamp m.eth.port m.eth.cyc) d 0) 1).ethRx m.eth := rfl

theorem Dev.syncMsgAt_none (m : PtpMsg) (t2 : Nat) (y : Dev) (x : Nat) (h : y.takes m x = false) : y.syncMsgAt m t2 x = y := if_pos (by simp [h])

theorem Dev.syncMsgAt_two (m : PtpMsg) (t2 : Nat) (y : Dev) (x : Nat) (h : y.takes m x = true) (htwo : m.twoStep = true) :
    y.syncMsgAt m t2 x = y.setDom x { y.dom x with wait := some ⟨m.seq, t2, m.corr⟩ } := (if_neg (by simp [h])).trans (if_pos htwo)

theorem Dev.syncMsgAt_one (m : PtpMsg) (t2 : Nat) (y : Dev) (x : Nat) (h : y.takes m x = true) (htwo : m.twoStep = false) :
    y.syncMsgAt m t2 x = y.useSync x m.seq (tOf m.sec m.ns) t2 m.corr := (if_neg (by simp [h])).trans (if_neg (by simp [htwo]))

theorem Dev.syncMsgAt_onlyPtp (m : PtpMsg) (t2 : Nat) (y : Dev) (x : Nat) : y.onlyPtp (y.syncMsgAt m t2 x) := by
  unfold Dev.syncMsgAt
  split
  · rfl
  · split
    · rfl
    · exact (y.useSync_moves x m.seq _ t2 m.corr).1

/-- A two-step Sync changes the domains alone. -/
theorem Dev.syncMsgAt_two_only (m : PtpMsg) (t2 : Nat) (y : Dev) (x : Nat) (htwo : m.twoStep = true) : y.syncMsgAt m t2 x = { y with ptp := (y.syncMsgAt m t2 x).ptp } := by
  cases h : y.takes m x
  · rw [Dev.syncMsgAt_none m t2 y x h]
  · rw [Dev.syncMsgAt_two m t2 y x h htwo]; rfl

/-- A Sync that the other domain does not take acts at one domain alone. -/
theorem Dev.syncMsgBoth (d : Dev) (m : PtpMsg) (t2 x : Nat) (hx : x < 2) (h : d.takes m (1 - x) = false) : Dev.syncMsgAt m t2 (Dev.syncMsgAt m t2 d 0) 1 = Dev.syncMsgAt m t2 d x := by
  obtain rfl | rfl : x = 0 ∨ x = 1 := by omega
  · exact Dev.syncMsgAt_none m t2 _ 1 ((Dev.takes_congr (Dev.syncMsgAt_onlyPtp m t2 d 0) m 1).trans h)
  · rw [Dev.syncMsgAt_none m t2 d 0 h]

/-- A Follow_Up message at domain `x`. -/
def Dev.followMsgAt (m : PtpMsg) (y : Dev) (x : Nat) : Dev :=
  match (y.dom x).wait with
  | some w => if y.takes m x && w.seq == m.seq then y.useSync x m.seq (tOf m.sec m.ns) w.t2 (w.corr + m.corr) else y
  | none => y

theorem Dev.ptpFollow_eq (d : Dev) (m : PtpMsg) : d.ptpFollow m = (Dev.followMsgAt m (Dev.followMsgAt m d 0) 1).ethRx m.eth := rfl

theorem Dev.followMsgAt_none (m : PtpMsg) (y : Dev) (x : Nat) (h : (y.dom x).wait = none) : y.followMsgAt m x = y := by
  unfold Dev.followMsgAt; rw [h]

theorem Dev.followMsgAt_moves (m : PtpMsg) (y : Dev) (x : Nat) (w : SyncWait) (h : y.takes m x = true) (hwait : (y.dom x).wait = some w) (hseq : w.seq = m.seq) :
    y.domMoves (y.followMsgAt m x) x (y.synced (y.dom x)) := by
  unfold Dev.followMsgAt
  rw [hwait]
  dsimp only
  rw [if_pos (by simp [h, hseq])]
  exact y.useSync_moves ..

/-- A Follow_Up that only one domain waits for acts at that domain alone. -/
theorem Dev.followMsgBoth (d : Dev) (m : PtpMsg) (x : Nat) (w : SyncWait) (hx : x < 2) (h : d.takes m x = true) (hwait : (d.dom x).wait = some w) (hseq : w.seq = m.seq)
    (hother : (d.dom (1 - x)).wait = none) : Dev.followMsgAt m (Dev.followMsgAt m d 0) 1 = Dev.followMsgAt m d x := by
  obtain rfl | rfl : x = 0 ∨ x = 1 := by omega
  · refine Dev.followMsgAt_none m _ 1 ?_
    rw [Dev.domMoves_dom_ne (d.followMsgAt_moves m 0 w h hwait hseq) (by decide)]
    exact hother
  · rw [Dev.followMsgAt_none m d 0 hother]

theorem Dev.takes_lt {d : Dev} {m : PtpMsg} {x : Nat} (h : d.takes m x = true) : x < 2 := by
  simp only [Dev.takes, Dev.domEn, Bool.and_eq_true, decide_eq_true_eq] at h
  exact h.1.1.1.1.1.1

-- Peer delay ---------------------------------------------------------------------------------------------------------------------------------

theorem Dev.setPdel_pdel (d : Dev) (p : Nat) (x : Pdel) (h : p < d.ptp.ports.length) : (d.setPdel p x).pdel p = x := nth_setAt_self _ p x _ h

theorem Dev.ethRx_pdel (d : Dev) (f : EthFrame) (p : Nat) : (d.ethRx f).pdel p = d.pdel p := by rw [d.ethRx_onlyPci f]; rfl

theorem Dev.ethRx_dom (d : Dev) (f : EthFrame) (x : Nat) : (d.ethRx f).dom x = d.dom x := by rw [d.ethRx_onlyPci f]; rfl

theorem Dev.awaited_inFlight (d : Dev) (p t : Nat) (h : (d.pdel p).t1 = some t) : d.awaited p = d.pdel p := by
  unfold Dev.awaited
  dsimp only
  rw [h]

/-- A request given up in this very instant is still the one awaited (R67). -/
theorem Dev.awaited_givenUp (d : Dev) (p t : Nat) (h : (d.pdel p).t1 = none) (hgave : (d.pdel p).gaveUp = some (d.tmb.up, t)) : d.awaited p = { d.pdel p with t1 := some t } := by
  unfold Dev.awaited
  extract_lets x
  have hx1 : x.t1 = none := h
  have hx2 : x.gaveUp = some (d.tmb.up, t) := hgave
  rw [hx1, hx2]
  exact if_pos rfl

theorem Dev.awaited_shows (d : Dev) (p t : Nat) (h : (d.pdel p).t1 = some t ∨ ((d.pdel p).t1 = none ∧ (d.pdel p).gaveUp = some (d.tmb.up, t))) :
    d.awaited p = { d.pdel p with t1 := some t } := by
  obtain h | ⟨h, hgave⟩ := h
  · rw [d.awaited_inFlight p t h, ← h]
  · exact d.awaited_givenUp p t h hgave

/-- A peer-delay measurement of port `p` at domain `i` (R440). -/
def Dev.measureAt (p : Nat) (v : Int) (y : Dev) (i : Nat) : Dev := if y.domEn i && y.afld (R.PTP_DOMx_CFG i) 17 16 == p then y.measure i v else y

/-- A measurement changes at most its domain, which then holds it when it is enabled on the port. -/
theorem Dev.measureAt_shows (p : Nat) (v : Int) (y : Dev) (i : Nat) :
    y.onlyPtp (y.measureAt p v i) ∧ (y.measureAt p v i).ptp.ports = y.ptp.ports ∧ (y.measureAt p v i).ptp.doms.length = y.ptp.doms.length ∧
      (∀ j, i ≠ j → (y.measureAt p v i).dom j = y.dom j) ∧
      (i < y.ptp.doms.length → y.domEn i = true → y.afld (R.PTP_DOMx_CFG i) 17 16 = p → ((y.measureAt p v i).dom i).mpd = v) := by
  by_cases h : (y.domEn i && y.afld (R.PTP_DOMx_CFG i) 17 16 == p) = true
  · have hm : y.measureAt p v i = y.measure i v := if_pos h
    have hmoves := y.measure_moves i v
    rw [hm]
    exact ⟨hmoves.1, hmoves.2.1, Dev.domMoves_length hmoves, fun j hj => Dev.domMoves_dom_ne hmoves hj, fun hlen _ _ => Dev.domMoves_dom hmoves hlen⟩
  · have hm : y.measureAt p v i = y := if_neg h
    rw [hm]
    exact ⟨rfl, rfl, rfl, fun _ _ => rfl, fun _ hen hport => absurd (by simp [hen, hport]) h⟩

theorem Dev.onDom_congr {a b : Dev} (h : a.onlyPtp b) (i p : Nat) : (b.domEn i = true ↔ a.domEn i = true) ∧ (b.afld (R.PTP_DOMx_CFG i) 17 16 = p ↔ a.afld (R.PTP_DOMx_CFG i) 17 16 = p) := by
  rw [h]; exact ⟨Iff.rfl, Iff.rfl⟩

/-- Both domains of the port hold the measurement. -/
theorem Dev.measureBoth_shows (p : Nat) (v : Int) (d : Dev) :
    d.onlyPtp ((d.measureAt p v 0).measureAt p v 1) ∧ ((d.measureAt p v 0).measureAt p v 1).ptp.ports = d.ptp.ports ∧
      ∀ x, x < 2 → x < d.ptp.doms.length → d.domEn x = true → d.afld (R.PTP_DOMx_CFG x) 17 16 = p → (((d.measureAt p v 0).measureAt p v 1).dom x).mpd = v := by
  obtain ⟨honly0, hports0, hlen0, _, hset0⟩ := d.measureAt_shows p v 0
  obtain ⟨honly1, hports1, _, hother1, hset1⟩ := (d.measureAt p v 0).measureAt_shows p v 1
  refine ⟨Dev.onlyPtp_trans honly0 honly1, hports1.trans hports0, ?_⟩
  intro x hx hlen hen hport
  obtain rfl | rfl : x = 0 ∨ x = 1 := by omega
  · rw [hother1 0 (by decide)]
    exact hset0 hlen hen hport
  · obtain ⟨hcen, hcport⟩ := Dev.onDom_congr honly0 1 p
    exact hset1 (hlen0 ▸ hlen) (hcen.2 hen) (hcport.2 hport)

/-- The delay a complete exchange measures, 2⁻¹⁷ ns (R437). -/
def Dev.delayOf (d : Dev) (m : PtpMsg) (t1 t2 : Nat) : Int :=
  let x := d.pdel m.eth.port
  ((((x.t4 : Nat) : Int) - (t1 : Nat)) - (((tOf m.sec m.ns : Nat) : Int) - (t2 : Nat))) * 65536 / (nsU : Int) - 2 * (x.corr + m.corr)

theorem Dev.pdelayFollow_complete (d : Dev) (m : PtpMsg) (t1 t2 : Nat) (hp : d.p2p m.eth.port = true) (hgood : m.eth.good = true) (h1 : (d.pdel m.eth.port).t1 = some t1)
    (h2 : (d.pdel m.eth.port).t2 = some t2) (hseq : (d.pdel m.eth.port).seq = m.seq) :
    d.pdelayFollow m = (((d.setPdel m.eth.port { d.pdel m.eth.port with t1 := none, t2 := none, gaveUp := none }).measureAt m.eth.port (d.delayOf m t1 t2) 0).measureAt
      m.eth.port (d.delayOf m t1 t2) 1).ethRx m.eth := by
  unfold Dev.pdelayFollow
  dsimp only
  rw [d.awaited_inFlight m.eth.port t1 h1]
  rw [h1, h2]
  dsimp only
  rw [if_pos (by simp [hp, hgood, hseq])]
  rfl

theorem Dev.pdelayTimeout_inFlight (d : Dev) (p t : Nat) (h : (d.pdel p).t1 = some t) :
    d.pdelayTimeout p = d.setPdel p { d.pdel p with t1 := none, gaveUp := some (d.tmb.up, t) } := by
  unfold Dev.pdelayTimeout
  rw [h]

theorem exec_accept (s : State) (x : Nat) : exec (.accept x) s = .next { s with dev := s.dev.domWrite x true } := rfl

theorem exec_keep (s : State) (x : Nat) : exec (.keep x) s = .next { s with dev := s.dev.domWrite x false } := rfl

/-- A command of a SUSPECT domain. -/
theorem Dev.domWrite_open (d : Dev) (x : Nat) (accept : Bool) (hx : x < 2) (hopen : d.bar0Open (R.PTP_DOMx_CMD x) 1 = true) (hst : (d.dom x).st = 3) :
    d.domWrite x accept = d.setDom x { d.dom x with st := 2, unfreeze := true, hist := if accept then (d.dom x).kept else (d.dom x).hist, kept := [], cand := none } := by
  unfold Dev.domWrite
  rw [if_pos hx, Dev.bar0Cmd_open _ _ _ _ hopen]
  exact if_neg (by simp [hst])

/-- Settles O47. The time-out acts on any outstanding request, and a response waits for its follow-up whether it is of one step or of two (log 56): the model's
choices. -/
theorem ptpMessagesAreUsed : Obligations.PtpMessagesAreUsed := by
  unfold Obligations.PtpMessagesAreUsed
  refine ⟨?twoStep, ?oneStep, ?followUp, ?timeout, ?command, ?send, ?answer, ?response, ?completes, ?givenUp⟩
  case twoStep =>
    intro s m x hx hlen htakes htwo
    refine ⟨s.dev.ptpSync m, rfl, ?_, ?_⟩
    · have h0 := Dev.syncMsgAt_two_only m (s.dev.rxStamp m.eth.port m.eth.cyc) s.dev 0 htwo
      have h1 := Dev.syncMsgAt_two_only m (s.dev.rxStamp m.eth.port m.eth.cyc) (Dev.syncMsgAt m (s.dev.rxStamp m.eth.port m.eth.cyc) s.dev 0) 1 htwo
      rw [Dev.ptpSync_eq, Dev.ethRx_onlyPci, h1, h0]
    · intro hother
      rw [Dev.ptpSync_eq, Dev.syncMsgBoth s.dev m _ x hx hother, Dev.syncMsgAt_two m _ s.dev x htakes htwo, Dev.ethRx_dom, Dev.ethRx_dom]
      exact ⟨nth_setAt_self _ x _ _ hlen, nth_setAt_ne _ x (1 - x) _ _ (by omega)⟩
  case oneStep =>
    intro s m x hx hlen htakes hother htwo
    refine ⟨s.dev.ptpSync m, rfl, ?_⟩
    have hmoves := s.dev.useSync_moves x m.seq (tOf m.sec m.ns) (s.dev.rxStamp m.eth.port m.eth.cyc) m.corr
    obtain ⟨hst, hlast, hwait⟩ := Dev.domMoves_dom hmoves hlen
    rw [Dev.ptpSync_eq, Dev.syncMsgBoth s.dev m _ x hx hother, Dev.syncMsgAt_one m _ s.dev x htakes htwo, Dev.ethRx_dom, Dev.ethRx_dom, Dev.ethRx_onlyPci]
    refine ⟨hst, hlast, hwait, Dev.domMoves_dom_ne hmoves (by omega), ?_, ?_⟩
    · rw [hmoves.1]
    · rw [hmoves.1]
  case followUp =>
    intro s m x w hx hlen htakes hw hseq hother
    refine ⟨s.dev.ptpFollow m, rfl, ?_⟩
    have hmoves := s.dev.followMsgAt_moves m x w htakes hw hseq
    obtain ⟨hst, hlast, hwait⟩ := Dev.domMoves_dom hmoves hlen
    rw [Dev.ptpFollow_eq, Dev.followMsgBoth s.dev m x w hx htakes hw hseq hother, Dev.ethRx_dom, Dev.ethRx_dom]
    exact ⟨hst, hlast, hwait, Dev.domMoves_dom_ne hmoves (by omega)⟩
  case timeout =>
    intro s x hen hlen hst hdue
    have hd : s.dev.syncTimeout x = (s.dev.setDom x { s.dev.dom x with st := 1 }).ptpAuto := if_pos (by simp [hen, hst, hdue])
    obtain ⟨honly, hdoms, _⟩ := (s.dev.setDom x { s.dev.dom x with st := 1 }).ptpAuto_only
    refine ⟨s.dev.syncTimeout x, rfl, ?_, ?_⟩
    · rw [hd, honly]; rfl
    · rw [hd, Dev.dom, hdoms]
      exact nth_setAt_self _ x _ _ hlen
  case command =>
    intro s x hx _ hopen hst
    rw [exec_accept, exec_keep, s.dev.domWrite_open x true hx hopen hst, s.dev.domWrite_open x false hx hopen hst]
    exact ⟨rfl, rfl⟩
  case send =>
    intro s p hp _ hdue
    refine ⟨{ s.dev.pdel p with seq := ((s.dev.pdel p).seq + 1) % 65536, t1 := some (s.dev.txStamp p), t2 := none, gaveUp := none, nextReq := s.dev.tmb.up + s.dev.pdInterval, sent := sat32 (s.dev.pdel p).sent 1 },
      next_congr s (if_neg ?_), rfl, rfl, rfl, rfl, rfl, rfl, rfl⟩
    simpa [hp] using hdue
  case answer =>
    intro s m hp hlen hgood
    refine ⟨s.dev.pdelayReq m, rfl, ?_⟩
    unfold Dev.pdelayReq
    extract_lets p _ d1
    have hd1 : d1 = s.dev.tookFree.setPdel p { s.dev.pdel p with answered := sat32 (s.dev.pdel p).answered 1, lastReq := some ⟨m.seq, s.dev.clockId, s.dev.rxStamp p m.eth.cyc, s.dev.txStamp p⟩ } :=
      if_pos (by simp [p, hp, hgood])
    clear_value d1
    have hpdel := Dev.setPdel_pdel s.dev.tookFree p { s.dev.pdel p with answered := sat32 (s.dev.pdel p).answered 1, lastReq := some ⟨m.seq, s.dev.clockId, s.dev.rxStamp p m.eth.cyc, s.dev.txStamp p⟩ } hlen
    refine ⟨?_, ?_, ?_⟩
    · rw [Dev.ethRx_onlyPci, hd1]; rfl
    · rw [Dev.ethRx_pdel, hd1, hpdel]
    · rw [Dev.ethRx_pdel, hd1, hpdel]
  case response =>
    intro s m t1 hp hlen hgood hseq hinFlight
    refine ⟨s.dev.pdelayResp m, rfl, ?_⟩
    unfold Dev.pdelayResp
    extract_lets p x d1
    have hx : x = { s.dev.pdel p with t1 := some t1 } := s.dev.awaited_shows p t1 hinFlight
    clear_value x
    subst hx
    have hd1 : d1 = s.dev.setPdel p { s.dev.pdel p with t1 := some t1, t2 := some (tOf m.sec m.ns), t4 := s.dev.rxStamp p m.eth.cyc, corr := m.corr } :=
      if_pos (by simp [p, hp, hgood, hseq])
    clear_value d1
    refine ⟨?_, ?_⟩
    · rw [Dev.ethRx_onlyPci, hd1]; rfl
    · rw [Dev.ethRx_pdel, hd1]
      exact Dev.setPdel_pdel s.dev p _ hlen
  case completes =>
    intro s m t1 t2 hp hlen hgood h1 h2 hseq
    refine ⟨s.dev.pdelayFollow m, rfl, ?_⟩
    rw [s.dev.pdelayFollow_complete m t1 t2 hp hgood h1 h2 hseq]
    obtain ⟨honly, hports, hmpd⟩ := Dev.measureBoth_shows m.eth.port (s.dev.delayOf m t1 t2)
      (s.dev.setPdel m.eth.port { s.dev.pdel m.eth.port with t1 := none, t2 := none, gaveUp := none })
    refine ⟨?_, ?_, ?_⟩
    · rw [Dev.ethRx_pdel, Dev.pdel, hports]
      exact Dev.setPdel_pdel s.dev m.eth.port _ hlen
    · rw [Dev.ethRx_onlyPci, honly]; rfl
    · intro x hx hdlen hen hport
      rw [Dev.ethRx_dom]
      exact hmpd x hx hdlen hen hport
  case givenUp =>
    intro s p t hp h
    exact next_congr s ((if_pos hp).trans (s.dev.pdelayTimeout_inFlight p t h))

end Sys2Proof.Machine
end

section
/-! SUPPORT. The measurement cores: triggers, conversions and the cut-off (R372–R387); O27, O26. -/
namespace Sys2Proof.Machine

-- A core ---------------------------------------------------------------------------------------------------------------------------------------

theorem Dev.setCore_core (d : Dev) (c : Nat) (x : AdcCore) (h : c < d.adc.cores.length) : (d.setCore c x).core c = x := nth_setAt_self _ c x _ h

theorem Dev.setCore_core_ne (d : Dev) (c n : Nat) (x : AdcCore) (h : n ≠ c) : (d.setCore c x).core n = d.core n := nth_setAt_ne _ c n x _ (Ne.symm h)

theorem Dev.setCore_core_out (d : Dev) (c : Nat) (x : AdcCore) (h : d.adc.cores.length ≤ c) : d.setCore c x = d := by
  unfold Dev.setCore setAt
  rw [List.set_eq_of_length_le h]

theorem Dev.coreOn_lt {d : Dev} {c : Nat} (h : d.coreOn c = true) : c < 4 := by
  simp only [Dev.coreOn, Bool.and_eq_true, decide_eq_true_eq] at h
  exact h.1.1.1

-- Triggers -------------------------------------------------------------------------------------------------------------------------------------

theorem Dev.injTrigger_overruns (d : Dev) (c : Nat) (hon : d.coreOn c = true) (h : (d.core c).inj.isSome = true ∨ (d.core c).trig = true) :
    d.injTrigger c = d.setCore c { d.core c with injOvr := satAdd 255 (d.core c).injOvr 1 } :=
  (if_neg (by simp [hon])).trans (if_pos (Bool.or_eq_true_iff.2 h))

theorem Dev.injTrigger_pends (d : Dev) (c : Nat) (hon : d.coreOn c = true) (hinj : (d.core c).inj = none) (htrig : (d.core c).trig = false) :
    d.injTrigger c = d.setCore c { d.core c with trig := true, startAt := d.tmb.up + (if (d.core c).pd then 500 * nsU else d.tickU) } :=
  (if_neg (by simp [hon])).trans (if_neg (by simp [hinj, htrig]))

/-- No pending trigger whose time has come starts its sequence now. -/
def Dev.noStart (d : Dev) (c : Nat) : Prop := (d.core c).trig = false ∨ d.tmb.up < (d.core c).startAt

theorem Dev.startInjected_none (d : Dev) (c : Nat) (h : d.noStart c) : d.startInjected c = d := by
  refine if_neg ?_
  obtain h | h := h
  · simp [h]
  · simp [h]

theorem Dev.startInjected_off (d : Dev) (c : Nat) (h : d.coreOn c = false) : d.startInjected c = d := if_neg (by simp [h])

theorem Dev.startInjected_starts (d : Dev) (c : Nat) (hon : d.coreOn c = true) (htrig : (d.core c).trig = true) (hpd : (d.core c).pd = false)
    (hdue : (d.core c).startAt ≤ d.tmb.up) :
    d.startInjected c = d.setCore c { d.core c with trig := false, inj := some 0, injAcc := [], conv := 0, gbad := false, moved := (d.core c).moved || (d.core c).run.isSome } :=
  if_pos (by simp [hon, htrig, hpd, hdue])

/-- A trigger that has taken effect does so no more. -/
theorem Dev.startInjected_idem (d : Dev) (c : Nat) : (d.startInjected c).startInjected c = d.startInjected c := by
  by_cases h : (d.coreOn c && (d.core c).trig && !(d.core c).pd && decide ((d.core c).startAt ≤ d.tmb.up)) = true
  · simp only [Bool.and_eq_true, Bool.not_eq_true', decide_eq_true_eq] at h
    obtain ⟨⟨⟨hon, htrig⟩, hpd⟩, hdue⟩ := h
    rw [d.startInjected_starts c hon htrig hpd hdue]
    by_cases hlen : c < d.adc.cores.length
    · refine Dev.startInjected_none _ c (Or.inl ?_)
      rw [Dev.setCore_core d c _ hlen]
    · rw [Dev.setCore_core_out d c _ (Nat.le_of_not_lt hlen), d.startInjected_starts c hon htrig hpd hdue, Dev.setCore_core_out d c _ (Nat.le_of_not_lt hlen)]
  · have hsame : d.startInjected c = d := if_neg h
    rw [hsame, hsame]

theorem Dev.startInjected_adc (d : Dev) (c : Nat) : d.onlyAdc (d.startInjected c) := by
  unfold Dev.startInjected
  extract_lets x
  split <;> rfl

theorem exec_injectedTrigger (s : State) (c : Nat) (hc : c < 4) : exec (.injectedTrigger c) s = .next { s with dev := s.dev.startInjected c } := next_congr s (if_pos hc)

/-- The row runs for a core of the device alone, and a core that is not one is never on. -/
theorem exec_injectedTrigger_none (s : State) (c : Nat) (h : s.dev.startInjected c = s.dev) : exec (.injectedTrigger c) s = .next s := by
  refine next_same s _ ?_
  unfold Dev.unit
  split
  · exact h
  · rfl

theorem exec_adcConversion (s : State) (c : Nat) (v : Rat) (hc : c < 4) : exec (.adcConversion c v) s = .next { s with dev := s.dev.conversion c v } := next_congr s (if_pos hc)

/-- Settles O27. -/
theorem triggersStartInjectedSequences : Obligations.TriggersStartInjectedSequences := by
  unfold Obligations.TriggersStartInjectedSequences
  refine ⟨?soft, ?early, ?starts, ?wakes, ?warm⟩
  case soft =>
    intro s c hopen hcfg hon hlen
    have hrow : exec (.adcCorecSoft c) s = .next { s with dev := s.dev.injTrigger c } := by
      refine next_congr s ((if_pos (Dev.coreOn_lt hon)).trans ?_)
      rw [Dev.bar0Cmd_open _ _ _ _ hopen]
      exact if_pos hcfg
    refine ⟨_, hrow, s.dev.injTrigger_adc c, ?_, ?_⟩
    · intro hinj htrig
      rw [s.dev.injTrigger_pends c hon hinj htrig]
      exact Dev.setCore_core _ c _ hlen
    · intro h
      rw [s.dev.injTrigger_overruns c hon h]
      exact Dev.setCore_core _ c _ hlen
  case early =>
    intro s c h
    exact exec_injectedTrigger_none s c (s.dev.startInjected_none c (Or.inr h))
  case starts =>
    intro s c hon hlen htrig hpd hdue
    refine ⟨_, exec_injectedTrigger s c (Dev.coreOn_lt hon), s.dev.startInjected_adc c, ?_⟩
    rw [s.dev.startInjected_starts c hon htrig hpd hdue, Dev.setCore_core _ c _ hlen]
    exact ⟨rfl, rfl, rfl, fun hrun => by simp [hrun]⟩
  case wakes =>
    intro s c hc hpd hdue
    refine next_congr s ((if_pos hc).trans (if_pos ?_))
    obtain ⟨htrig, hat⟩ | hnext := hdue
    · simp [hpd, htrig, hat]
    · simp [hpd, hnext]
  case warm =>
    intro s c t hc hend hdue
    have hd : s.dev.adcWarmEnd c = s.dev.setCore c { s.dev.core c with ready := true, warmEnd := none } := by
      unfold Dev.adcWarmEnd
      rw [hend]
      exact if_pos hdue
    exact next_congr s ((if_pos hc).trans hd)

-- Conversions ----------------------------------------------------------------------------------------------------------------------------------

/-- A conversion of a regular entry that needs more of them (R380). -/
theorem Dev.regularConversion_more (d : Dev) (c e : Nat) (v : Rat) (h : (d.core c).conv + 1 < d.afld (R.ADC_COREc_REGe c e) 20 16) :
    ∃ y : AdcCore, d.regularConversion c e v = d.setCore c y ∧ y.run = (d.core c).run ∧ y.conv = (d.core c).conv + 1 ∧ y.res = (d.core c).res :=
  ⟨_, if_pos h, rfl, rfl, rfl⟩

/-- The last conversion of a regular entry (R375, R377). -/
theorem Dev.regularConversion_last (d : Dev) (c e : Nat) (v : Rat) (h : d.afld (R.ADC_COREc_REGe c e) 20 16 ≤ (d.core c).conv + 1) :
    ∃ z : AdcCore, d.regularConversion c e v = d.setCore c z ∧ z.run = (if e + 1 < d.regLen c then some (e + 1) else none) ∧ z.conv = 0 ∧
      z.done = (if !(d.core c).late && !d.adc.cut then setAt (d.core c).done e true else (d.core c).done) ∧ (d.adc.cut = true → z.res = (d.core c).res) := by
  have hend : ¬(d.core c).conv + 1 < d.afld (R.ADC_COREc_REGe c e) 20 16 := Nat.not_lt.2 h
  by_cases hgo : e + 1 < d.regLen c
  · refine ⟨_, (if_neg hend).trans (if_pos hgo), (if_pos hgo).symm, rfl, rfl, fun hcut => if_neg (by simp [hcut])⟩
  · refine ⟨_, (if_neg hend).trans (if_neg hgo), (if_neg hgo).symm, rfl, rfl, fun hcut => if_neg (by simp [hcut])⟩

/-- A conversion of the injected sequence (R384). -/
theorem Dev.injectedConversion_shows (d : Dev) (c e : Nat) (v : Rat) :
    ∃ y : AdcCore, d.injectedConversion c e v = d.setCore c y ∧ y.run = (d.core c).run ∧
      (e + 1 < d.injLen c → y.inj = some (e + 1) ∧ y.injSeqs = (d.core c).injSeqs) ∧ (d.injLen c ≤ e + 1 → y.inj = none ∧ y.injSeqs = (d.core c).injSeqs + 1) := by
  by_cases hgo : e + 1 < d.injLen c
  · exact ⟨_, if_pos hgo, rfl, fun _ => ⟨rfl, rfl⟩, fun h => absurd hgo (Nat.not_lt.2 h)⟩
  · exact ⟨_, if_neg hgo, rfl, fun h => absurd h hgo, fun _ => ⟨rfl, rfl⟩⟩

theorem Dev.conversion_regular (d : Dev) (c e : Nat) (v : Rat) (hon : d.coreOn c = true) (hstart : d.noStart c) (hinj : (d.core c).inj = none)
    (hrun : (d.core c).run = some e) : d.conversion c v = d.regularConversion c e v := by
  unfold Dev.conversion
  rw [if_neg (by simp [hon]), d.startInjected_none c hstart]
  dsimp only
  rw [hinj, hrun]

theorem Dev.conversion_injected (d : Dev) (c e : Nat) (v : Rat) (hon : d.coreOn c = true) (hstart : d.noStart c) (hinj : (d.core c).inj = some e) :
    d.conversion c v = d.injectedConversion c e v := by
  unfold Dev.conversion
  rw [if_neg (by simp [hon]), d.startInjected_none c hstart]
  dsimp only
  rw [hinj]

theorem Dev.coreOn_congr {a b : Dev} (h : a.onlyAdc b) (c : Nat) : b.coreOn c = a.coreOn c := by rw [h]; rfl

/-- A trigger whose time has come acts ahead of the conversion (R382). -/
theorem Dev.conversion_startInjected (d : Dev) (c : Nat) (v : Rat) : (d.startInjected c).conversion c v = d.conversion c v := by
  cases hon : d.coreOn c
  · rw [d.startInjected_off c hon]
  · have hon' : (d.startInjected c).coreOn c = true := (Dev.coreOn_congr (d.startInjected_adc c) c).trans hon
    unfold Dev.conversion
    rw [if_neg (by simp [hon']), if_neg (by simp [hon]), d.startInjected_idem c]

-- The cut-off ----------------------------------------------------------------------------------------------------------------------------------

/-- The results of a core at the cut-off: what the epoch has none of is held (R377). -/
def Dev.cutResults (d : Dev) (c : Nat) : List Word :=
  forN 16 (fun e => if decide (e < d.regLen c) && !(nth (d.core c).done e false) then heldWord (wAt (d.core c).res e) else wAt (d.core c).res e)

/-- The cut-off at core `c`. -/
def Dev.cutCore (d : Dev) (c : Nat) : Dev := if !(d.coreOn c) then d else d.setCore c { d.core c with res := d.cutResults c }

theorem Dev.adcCutoff_open (d : Dev) (h : d.adc.cut = false) :
    d.adcCutoff = { (List.range 4).foldl Dev.cutCore d with adc := { ((List.range 4).foldl Dev.cutCore d).adc with cut := true } } :=
  if_neg (by simp [h])

theorem Dev.cutCore_adc (d : Dev) (c : Nat) : d.onlyAdc (d.cutCore c) := by
  unfold Dev.cutCore
  split <;> rfl

theorem Dev.cutCore_length (d : Dev) (c : Nat) : (d.cutCore c).adc.cores.length = d.adc.cores.length := by
  unfold Dev.cutCore
  split
  · rfl
  · exact length_setAt _ c _

theorem Dev.cutCore_ne (d : Dev) (c n : Nat) (h : n ≠ c) : (d.cutCore c).core n = d.core n := by
  unfold Dev.cutCore
  split
  · rfl
  · exact Dev.setCore_core_ne d c n _ h

theorem Dev.cutCore_self (d : Dev) (c : Nat) (hon : d.coreOn c = true) (hlen : c < d.adc.cores.length) : ((d.cutCore c).core c).res = d.cutResults c := by
  have h : d.cutCore c = d.setCore c { d.core c with res := d.cutResults c } := if_neg (by simp [hon])
  rw [h, Dev.setCore_core d c _ hlen]

theorem Dev.cutResults_congr {a b : Dev} (h : a.onlyAdc b) (c : Nat) (hcore : b.core c = a.core c) : b.cutResults c = a.cutResults c := by
  have hlen : b.regLen c = a.regLen c := by rw [h]; rfl
  unfold Dev.cutResults
  rw [hlen, hcore]

/-- The cut-off at cores one after another: each core of the list that is on has its results cut, whatever the others are. -/
theorem Dev.cutCores_shows (cs : List Nat) (d : Dev) (hnodup : cs.Nodup) :
    d.onlyAdc (cs.foldl Dev.cutCore d) ∧ (∀ c, c ∉ cs → (cs.foldl Dev.cutCore d).core c = d.core c) ∧
      (∀ c, c ∈ cs → d.coreOn c = true → c < d.adc.cores.length → ((cs.foldl Dev.cutCore d).core c).res = d.cutResults c) := by
  induction cs generalizing d with
  | nil => exact ⟨rfl, fun _ _ => rfl, fun c hc => absurd hc (List.not_mem_nil)⟩
  | cons n cs ih =>
    obtain ⟨hn, hcs⟩ := List.nodup_cons.1 hnodup
    obtain ⟨honly, hother, hcut⟩ := ih (d.cutCore n) hcs
    refine ⟨Dev.onlyAdc_trans (d.cutCore_adc n) honly, ?_, ?_⟩
    · intro c hc
      rw [List.mem_cons, not_or] at hc
      exact (hother c hc.2).trans (d.cutCore_ne n c hc.1)
    · intro c hc hon hlen
      obtain rfl | hc := List.mem_cons.1 hc
      · rw [List.foldl_cons, hother c hn]
        exact d.cutCore_self c hon hlen
      · have hne : c ≠ n := fun h => hn (h ▸ hc)
        refine (hcut c hc ((Dev.coreOn_congr (d.cutCore_adc n) c).trans hon) (by rwa [Dev.cutCore_length])).trans ?_
        exact Dev.cutResults_congr (d.cutCore_adc n) c (d.cutCore_ne n c hne)

/-- Moving to an instant never takes elapsed time back. -/
theorem Dev.timeTo_up (d : Dev) (t : Nat) : d.tmb.up ≤ (d.timeTo t).tmb.up := by
  unfold Dev.timeTo
  split
  · exact Nat.le_refl _
  · exact Nat.le_add_right _ _

/-- Settles O26. The cut-off moves time to its own instant, and acts late when that has passed (log 17): the model's choice. -/
theorem conversionsAdvanceTheSequences : Obligations.ConversionsAdvanceTheSequences := by
  unfold Obligations.ConversionsAdvanceTheSequences
  refine ⟨?regular, ?injected, ?ahead, ?cutoff⟩
  case regular =>
    intro s c e v hon hlen hinj hrun hstart hdone
    refine ⟨_, exec_adcConversion s c v (Dev.coreOn_lt hon), ?_⟩
    rw [s.dev.conversion_regular c e v hon hstart hinj hrun]
    by_cases hmore : (s.dev.core c).conv + 1 < s.dev.afld (R.ADC_COREc_REGe c e) 20 16
    · obtain ⟨y, hy, hyrun, hyconv, hyres⟩ := s.dev.regularConversion_more c e v hmore
      rw [hy, Dev.setCore_core _ c _ hlen]
      exact ⟨rfl, fun n hn => Dev.setCore_core_ne _ c n _ hn, fun _ => ⟨hyrun.trans hrun, hyconv, hyres⟩, fun h => absurd hmore (Nat.not_lt.2 h)⟩
    · obtain ⟨z, hz, hzrun, hzconv, hzdone, hzres⟩ := s.dev.regularConversion_last c e v (Nat.not_lt.1 hmore)
      rw [hz, Dev.setCore_core _ c _ hlen]
      refine ⟨rfl, fun n hn => Dev.setCore_core_ne _ c n _ hn, fun h => absurd h hmore, fun _ => ⟨hzrun, hzconv, ?_, hzres⟩⟩
      intro hlate hcut
      rw [hzdone, if_pos (by simp [hlate, hcut])]
      exact nth_setAt_self _ e true _ hdone
  case injected =>
    intro s c e v hon hlen hinj hstart
    refine ⟨_, exec_adcConversion s c v (Dev.coreOn_lt hon), ?_⟩
    obtain ⟨y, hy, hyrun, hmore, hlast⟩ := s.dev.injectedConversion_shows c e v
    rw [s.dev.conversion_injected c e v hon hstart hinj, hy, Dev.setCore_core _ c _ hlen]
    exact ⟨rfl, hyrun, hmore, hlast⟩
  case ahead =>
    intro s c v hc
    refine ⟨_, exec_injectedTrigger s c hc, ?_⟩
    rw [exec_adcConversion _ c v hc, exec_adcConversion _ c v hc, s.dev.conversion_startInjected c v]
  case cutoff =>
    intro s hmode hrun hcut hcores
    obtain ⟨x, hx⟩ : ∃ x, x = s.dev.timeTo (s.dev.tmb.sync + s.dev.tc / 2 + s.dev.advance1.toNat) := ⟨_, rfl⟩
    have hrow : exec .adcCutoff s = .next { s with dev := x.adcCutoff } := by
      rw [hx]
      exact next_congr s (if_neg (by simp [hmode, hrun]))
    have hxo := s.dev.timeTo_only (s.dev.tmb.sync + s.dev.tc / 2 + s.dev.advance1.toNat)
    have hnow := s.dev.timeTo_now (s.dev.tmb.sync + s.dev.tc / 2 + s.dev.advance1.toNat)
    have hup := s.dev.timeTo_up (s.dev.tmb.sync + s.dev.tc / 2 + s.dev.advance1.toNat)
    rw [← hx] at hxo hnow hup
    have hxcut : x.adc.cut = false := by rw [hxo]; exact hcut
    obtain ⟨y, hy⟩ : ∃ y, y = (List.range 4).foldl Dev.cutCore x := ⟨_, rfl⟩
    obtain ⟨honly, _, hres⟩ := Dev.cutCores_shows (List.range 4) x List.nodup_range
    rw [← hy] at honly hres
    have hd : x.adcCutoff = { y with adc := { y.adc with cut := true } } := by rw [hy]; exact x.adcCutoff_open hxcut
    have hytmb : y.tmb = x.tmb := by rw [honly]
    rw [hd] at hrow
    refine ⟨_, hrow, ?_, rfl, hytmb ▸ hnow, hytmb ▸ hup, ?_⟩
    · rw [honly, hxo]
    · intro c e hon he
      have hxon : x.coreOn c = true := (Dev.coreOn_congr honly c).symm.trans hon
      have hxlen : c < x.adc.cores.length := by
        have := Dev.coreOn_lt hxon
        rw [hxo, hcores]
        exact this
      have hwords : wAt (y.core c).res e = wAt (x.cutResults c) e := by rw [hres c (List.mem_range.2 (Dev.coreOn_lt hxon)) hxon hxlen]
      refine hwords.trans ?_
      have hsame : x.cutResults c = s.dev.cutResults c := by rw [hxo]; rfl
      rw [hsame]
      exact nth_forN 16 e _ _ he

end Sys2Proof.Machine
end

section
/-! SUPPORT. Sampled-value frames at their stream (R392–R396), and conditioning once an epoch (R377, R401, R404); O28, O29. -/
namespace Sys2Proof.Machine

-- Sampled values -------------------------------------------------------------------------------------------------------------------------------

theorem Dev.setStream_stream (d : Dev) (n : Nat) (x : SvStream) (h : n < d.svi.length) : (d.setStream n x).stream n = x := nth_setAt_self _ n x _ h

theorem Dev.setStream_stream_ne (d : Dev) (n m : Nat) (x : SvStream) (h : m ≠ n) : (d.setStream n x).stream m = d.stream m := nth_setAt_ne _ n m x _ (Ne.symm h)

theorem Dev.sampledValue_matched (d : Dev) (f : SvFrame) (n : Nat) (hon : d.domOn 6 = true) (hgood : f.eth.good = true) (htype : (etherType f.eth.bytes).1 = 0x88BA)
    (hmatch : (List.range 16).find? (fun m => d.svMatch f m) = some n) : d.sampledValue f = d.svFrame n f := by
  unfold Dev.sampledValue
  rw [if_neg (by simp [hon]), if_pos (by simp [hgood, htype]), hmatch]

/-- A frame that no stream matches is an Ethernet frame like any other. -/
theorem Dev.sampledValue_unmatched (d : Dev) (f : SvFrame) (hon : d.domOn 6 = true) (hnone : ∀ n, n < 16 → d.svMatch f n = false) : d.sampledValue f = d.ethRx f.eth := by
  have hfind : (List.range 16).find? (fun m => d.svMatch f m) = none := List.find?_eq_none.2 (fun n hn => by simp [hnone n (List.mem_range.1 hn)])
  unfold Dev.sampledValue
  rw [if_neg (by simp [hon]), hfind, ite_self]

theorem Dev.svFrame_single (d : Dev) (n : Nat) (f : SvFrame) (a : Asdu) (h : f.asdus = [a]) : d.svFrame n f = d.svAsdu n (d.rxStamp f.eth.port f.eth.cyc) a := by
  unfold Dev.svFrame
  rw [h]
  rfl

/-- An ASDU of its stream's shape: enough values, and a count within the rate (R393, R394). -/
def Dev.svFits (d : Dev) (n : Nat) (a : Asdu) : Prop := d.afld (R.SVI_STRs_CFG n) 27 24 ≤ a.vals.length ∧ a.smpCnt < d.afld (R.SVI_STRs_RATE n) 16 0

theorem Dev.svAsdu_discarded (d : Dev) (n rx : Nat) (a : Asdu) (h : a.vals.length < d.afld (R.SVI_STRs_CFG n) 27 24 ∨ d.afld (R.SVI_STRs_RATE n) 16 0 ≤ a.smpCnt) :
    d.svAsdu n rx a = d.setStream n { d.stream n with disc := sat32 (d.stream n).disc 1 } := if_pos h

theorem Dev.not_discarded {d : Dev} {n : Nat} {a : Asdu} (h : d.svFits n a) :
    ¬(a.vals.length < d.afld (R.SVI_STRs_CFG n) 27 24 ∨ d.afld (R.SVI_STRs_RATE n) 16 0 ≤ a.smpCnt) := by
  obtain ⟨hvals, hcnt⟩ := h
  rintro (h | h)
  · exact Nat.not_lt.2 hvals h
  · exact Nat.not_lt.2 h hcnt

/-- The sample time of an ASDU of stream `n` received at `rx` (R394). -/
def Dev.svSec (d : Dev) (n rx : Nat) (a : Asdu) : Nat := sampleSec (d.afld (R.SVI_STRs_RATE n) 16 0) a.smpCnt rx

theorem Dev.svAsdu_repeated (d : Dev) (n rx : Nat) (a : Asdu) (h : d.svFits n a)
    (hseen : (d.stream n).hasSeen (d.svSec n rx a) a.smpCnt (d.afld (R.SVI_STRs_RATE n) 16 0) = true) :
    d.svAsdu n rx a = d.setStream n { d.stream n with dup := sat32 (d.stream n).dup 1 } :=
  (if_neg (Dev.not_discarded h)).trans (if_pos hseen)

theorem SvStream.hasSeen_front (x : SvStream) (sec cnt rate : Nat) (rest : List (Nat × Nat × Nat)) (h : x.seen = (sec, cnt, rate) :: rest) :
    x.hasSeen sec cnt rate = true := by
  unfold SvStream.hasSeen
  rw [h]
  simp

/-- An ASDU of a new sample time is taken: its time counts as received from now on (R396). -/
theorem Dev.svAsdu_new (d : Dev) (n rx : Nat) (a : Asdu) (h : d.svFits n a)
    (hseen : (d.stream n).hasSeen (d.svSec n rx a) a.smpCnt (d.afld (R.SVI_STRs_RATE n) 16 0) = false) :
    ∃ y : SvStream, d.svAsdu n rx a = d.setStream n y ∧ y.hasSeen (d.svSec n rx a) a.smpCnt (d.afld (R.SVI_STRs_RATE n) 16 0) = true ∧
      y.disc = (d.stream n).disc ∧ y.dup = (d.stream n).dup := by
  have hnew : ¬(d.stream n).hasSeen (d.svSec n rx a) a.smpCnt (d.afld (R.SVI_STRs_RATE n) 16 0) = true := by simp [hseen]
  exact ⟨_, (if_neg (Dev.not_discarded h)).trans (if_neg hnew), SvStream.hasSeen_front _ _ _ _ _ rfl, rfl, rfl⟩

/-- An ASDU changes its stream alone. -/
theorem Dev.svAsdu_shows (d : Dev) (n rx : Nat) (a : Asdu) : d.svAsdu n rx a = { d with svi := (d.svAsdu n rx a).svi } ∧ ∀ m, m ≠ n → (d.svAsdu n rx a).stream m = d.stream m := by
  have hset : ∃ y, d.svAsdu n rx a = d.setStream n y := by
    by_cases hfit : a.vals.length < d.afld (R.SVI_STRs_CFG n) 27 24 ∨ d.afld (R.SVI_STRs_RATE n) 16 0 ≤ a.smpCnt
    · exact ⟨_, d.svAsdu_discarded n rx a hfit⟩
    · have hfit' : d.svFits n a := by rw [not_or, Nat.not_lt, Nat.not_le] at hfit; exact hfit
      cases hseen : (d.stream n).hasSeen (d.svSec n rx a) a.smpCnt (d.afld (R.SVI_STRs_RATE n) 16 0)
      · obtain ⟨y, hy, _⟩ := d.svAsdu_new n rx a hfit' hseen
        exact ⟨y, hy⟩
      · exact ⟨_, d.svAsdu_repeated n rx a hfit' hseen⟩
  obtain ⟨y, hy⟩ := hset
  rw [hy]
  exact ⟨rfl, fun m hm => Dev.setStream_stream_ne d n m y hm⟩

theorem exec_sampledValueFrame (s : State) (f : SvFrame) : exec (.sampledValueFrame f) s = .next { s with dev := s.dev.sampledValue f } := rfl

/-- Settles O28. -/
theorem sampledValuesReachTheirStream : Obligations.SampledValuesReachTheirStream := by
  unfold Obligations.SampledValuesReachTheirStream
  refine ⟨?matched, ?other⟩
  case matched =>
    intro s f n sec a hon hgood htype hone hmatch hlen hsec
    obtain ⟨rx, hrx⟩ : ∃ rx, rx = s.dev.rxStamp f.eth.port f.eth.cyc := ⟨_, rfl⟩
    have hsec' : sec = s.dev.svSec n rx a := by rw [hsec, hrx]; rfl
    have hd : s.dev.sampledValue f = s.dev.svAsdu n rx a := by
      rw [s.dev.sampledValue_matched f n hon hgood htype hmatch, s.dev.svFrame_single n f a hone, hrx]
    obtain ⟨honly, hothers⟩ := s.dev.svAsdu_shows n rx a
    refine ⟨_, exec_sampledValueFrame s f, ?_⟩
    rw [hd, hsec']
    refine ⟨honly, hothers, ?_, ?_⟩
    · intro hbad
      rw [s.dev.svAsdu_discarded n rx a hbad]
      exact Dev.setStream_stream _ n _ hlen
    · intro hvals hcnt
      split
      · next hseen =>
        rw [s.dev.svAsdu_repeated n rx a ⟨hvals, hcnt⟩ hseen]
        exact Dev.setStream_stream _ n _ hlen
      · next hseen =>
        obtain ⟨y, hy, hyseen, hydisc, hydup⟩ := s.dev.svAsdu_new n rx a ⟨hvals, hcnt⟩ (Bool.not_eq_true _ ▸ hseen)
        rw [hy, Dev.setStream_stream _ n _ hlen]
        exact ⟨hyseen, hydisc, hydup⟩
  case other =>
    intro s f hon hnone
    rw [exec_sampledValueFrame, s.dev.sampledValue_unmatched f hon hnone]

-- Conditioning ---------------------------------------------------------------------------------------------------------------------------------

theorem Dev.mcdEvents_onlyPci (d : Dev) (before after : List Bool) : d.onlyPci (d.mcdEvents before after) := by
  unfold Dev.mcdEvents
  refine Dev.onlyPci_foldl _ (fun y s => ?_) _ _
  split <;> rfl

/-- `b` is `a` but for the arms' state and the queues. -/
def Dev.onlyMbePci (a b : Dev) : Prop := b = { a with mbe := b.mbe, pci := b.pci }

theorem Dev.onlyMbePci_trans {a b c : Dev} (hab : a.onlyMbePci b) (hbc : b.onlyMbePci c) : a.onlyMbePci c := by
  unfold Dev.onlyMbePci at *
  rw [hbc, hab]

theorem Dev.completeArm_only (d : Dev) (n : Nat) : d.onlyMbePci (d.completeArm n) := by
  unfold Dev.completeArm
  extract_lets a0 a low d1
  split
  · rfl
  · have hd1 : d.onlyMbePci d1 := rfl
    split
    · exact Dev.onlyMbePci_trans hd1 rfl
    · exact hd1

theorem Dev.completeIf_only (d : Dev) (n : Nat) : d.onlyMbePci (d.completeIf n) := by
  unfold Dev.completeIf
  extract_lets a
  split
  · rfl
  · exact d.completeArm_only n

theorem Dev.completeReady_only (d : Dev) : d.onlyMbePci d.completeReady :=
  foldl_keeps (fun y => d.onlyMbePci y) Dev.completeIf (fun y n hy => Dev.onlyMbePci_trans hy (y.completeIf_only n)) (List.range 6) d rfl

theorem Dev.onlyMbePci_of_onlyPci {a b : Dev} (h : a.onlyPci b) : a.onlyMbePci b := by
  unfold Dev.onlyMbePci
  rw [h]

theorem Dev.condition_runs (d : Dev) (hmode : d.mode ≠ .boot) (hnext : d.mcd.next = none) (hready : d.adcDone = true ∨ d.adc.cut = true) :
    ({ d with mcd := { d.mcd with next := some d.mcdEval } } : Dev).onlyMbePci d.condition := by
  have hopen : ¬(d.mode == .boot || d.mcd.next.isSome || !(d.adcDone || d.adc.cut)) = true := by
    simp only [hnext, Option.isSome_none, Bool.or_false, Bool.or_eq_true, beq_iff_eq, Bool.not_eq_true', not_or, Bool.not_eq_false]
    exact ⟨hmode, hready⟩
  unfold Dev.condition
  rw [if_neg hopen]
  exact Dev.onlyMbePci_trans (Dev.onlyMbePci_of_onlyPci (Dev.mcdEvents_onlyPci _ _ _)) (Dev.completeReady_only _)

/-- Conditioning with input `m` marked INVALID when it has been held long enough, and its sets with it (R401, R404). -/
def Dev.inputMarked (d : Dev) (m : Nat) (x : McdSt) : McdSt :=
  let ins := modAt x.ins m d.markInvalid
  { x with ins := ins, inv := forN 6 (fun s => nth x.inv s false || (d.setOn s && (d.setInputs s).any (fun j => (nth ins j {}).invalid))) }

theorem Dev.inputInvalid_shows (d : Dev) (m : Nat) : (d.inputInvalid m).mcdNow = d.inputMarked m d.mcdNow ∧ d.inputInvalid m = { d with mcd := (d.inputInvalid m).mcd, pci := (d.inputInvalid m).pci } := by
  unfold Dev.inputInvalid
  cases hnext : d.mcd.next with
  | some x =>
    have hnow : d.mcdNow = x := by rw [Dev.mcdNow, hnext]; rfl
    dsimp only
    refine ⟨?_, ?_⟩
    · rw [Dev.mcdNow, Dev.mcdEvents_onlyPci, hnow]; rfl
    · rw [Dev.mcdEvents_onlyPci]
  | none =>
    have hnow : d.mcdNow = d.mcd.st := by rw [Dev.mcdNow, hnext]; rfl
    dsimp only
    refine ⟨?_, ?_⟩
    · rw [Dev.mcdNow, Dev.mcdEvents_onlyPci, hnow]
      dsimp only
      rw [hnext]
      rfl
    · rw [Dev.mcdEvents_onlyPci]

theorem Dev.inputMarked_input (d : Dev) (m : Nat) (x : McdSt) (hlen : m < x.ins.length) (hheld : d.afld R.MCD_TIMING 15 0 ≤ (nth x.ins m {}).hold) :
    (nth (d.inputMarked m x).ins m {}).invalid = true := by
  have h : nth (d.inputMarked m x).ins m {} = d.markInvalid (nth x.ins m {}) := nth_modAt_self _ m _ _ hlen
  have hmark : d.markInvalid (nth x.ins m {}) = { nth x.ins m {} with invalid := true } := if_pos hheld
  rw [h, hmark]

theorem Dev.inputMarked_set (d : Dev) (m i : Nat) (x : McdSt) (hi : i < 6) (hon : d.setOn i = true) (hmem : (d.setInputs i).contains m = true)
    (hinv : (nth (d.inputMarked m x).ins m {}).invalid = true) : nth (d.inputMarked m x).inv i false = true := by
  have hany : (d.setInputs i).any (fun j => (nth (d.inputMarked m x).ins j {}).invalid) = true := List.any_eq_true.2 ⟨m, List.contains_iff_mem.1 hmem, hinv⟩
  have hval : nth (d.inputMarked m x).inv i false = (nth x.inv i false || (d.setOn i && (d.setInputs i).any (fun j => (nth (d.inputMarked m x).ins j {}).invalid))) :=
    nth_forN 6 i (fun s => nth x.inv s false || (d.setOn s && (d.setInputs s).any (fun j => (nth (modAt x.ins m d.markInvalid) j {}).invalid))) false hi
  rw [hval, hon, hany, Bool.true_and, Bool.or_true]

/-- Settles O29. -/
theorem conditioningRunsOnceAnEpoch : Obligations.ConditioningRunsOnceAnEpoch := by
  unfold Obligations.ConditioningRunsOnceAnEpoch
  refine ⟨?runs, ?once, ?invalid⟩
  case runs =>
    intro s hmode hnext hready
    refine ⟨s.dev.condition, rfl, ?_⟩
    rw [s.dev.condition_runs hmode hnext hready]
  case once =>
    intro s hnext
    exact next_same s _ (if_pos (by simp [hnext]))
  case invalid =>
    intro s m hm hlen hheld
    obtain ⟨hnow, honly⟩ := s.dev.inputInvalid_shows m
    have hinv := s.dev.inputMarked_input m s.dev.mcdNow hlen hheld
    refine ⟨s.dev.inputInvalid m, next_congr s (if_pos hm), honly, ?_⟩
    rw [hnow]
    exact ⟨hinv, fun n hn => nth_modAt_ne _ m n _ _ (Ne.symm hn), fun _ => rfl, fun i hi hon hmem => s.dev.inputMarked_set m i _ hi hon hmem hinv⟩

end Sys2Proof.Machine
end

section
/-! SUPPORT. The engines' steps on their paths (R138, R183, R224), and the commands of every arm with what sends them (R268–R271, R305); O30, O32. -/
namespace Sys2Proof.Machine

-- The Terord engine ----------------------------------------------------------------------------------------------------------------------------

/-- The paths the Terord engine leaves: the normal one, and in an energized mode every enabled branch (R138, R224). -/
theorem Dev.gfeStep_runs (d : Dev) (hmode : d.mode ≠ .boot) (hcond : d.mcd.next.isSome = true) (hfree : nth d.rae.paths 0 none = none) :
    ∃ ps : List (Option Path), d.gfeStep = { d with rae := { d.rae with paths := ps, front := nth ps 0 none } } ∧
      ∀ p, p < 5 → (nth ps p none).isSome = (p == 0 || (d.mode.energized && d.brEn.testBit (p - 1))) := by
  have hopen : ¬(d.mode == .boot || d.mcd.next.isNone || (nth d.rae.paths 0 none).isSome) = true := by
    obtain ⟨x, hx⟩ := Option.isSome_iff_exists.1 hcond
    simp [hmode, hx, hfree]
  refine ⟨_, if_neg hopen, ?_⟩
  intro p hp
  dsimp only
  cases hen : d.mode.energized with
  | true =>
    rw [if_pos rfl, nth_forN 5 p _ none hp]
    by_cases hrun : p = 0 ∨ d.brEn.testBit (p - 1) = true
    · rw [if_pos hrun]
      exact (by simpa using hrun : (p == 0 || (true && d.brEn.testBit (p - 1))) = true).symm
    · rw [if_neg hrun]
      exact (by simpa using hrun : (p == 0 || (true && d.brEn.testBit (p - 1))) = false).symm
  | false =>
    rw [if_neg (by decide)]
    match p, hp with
    | 0, _ => rfl
    | 1, _ => rfl
    | 2, _ => rfl
    | 3, _ => rfl
    | 4, _ => rfl

-- The converter control engine -----------------------------------------------------------------------------------------------------------------

/-- The ledgers of the six arms are complete. -/
def Dev.ledgersReady (d : Dev) : Prop := ∀ n, n < 6 → (nth d.mbe.arms n {}).complete = true

theorem Dev.completeIf_ready (d : Dev) (n : Nat) (h : (nth d.mbe.arms n {}).complete = true) : d.completeIf n = d := by
  unfold Dev.completeIf
  extract_lets a
  split
  · rfl
  · exact if_pos (Bool.or_eq_true_iff.2 (Or.inl h))

/-- A fold whose every step leaves the start as it is ends there. -/
theorem foldl_fixed {α β : Type} (f : β → α → β) (b : β) (l : List α) (h : ∀ a ∈ l, f b a = b) : l.foldl f b = b := by
  induction l with
  | nil => rfl
  | cons a l ih =>
    rw [List.foldl_cons, h a List.mem_cons_self]
    exact ih (fun x hx => h x (List.mem_cons_of_mem a hx))

theorem Dev.completeReady_ready (d : Dev) (h : d.ledgersReady) : d.completeReady = d :=
  foldl_fixed Dev.completeIf d (List.range 6) (fun n hn => d.completeIf_ready n (h n (List.mem_range.1 hn)))

theorem Dev.ledgersDone_ready (d : Dev) (h : d.ledgersReady) : d.ledgersDone = true := List.all_eq_true.2 (fun n hn => h n (List.mem_range.1 hn))

/-- `b` is `a` but for what a cause alters and the precharge stage. -/
def Dev.onlyPrcCause (a b : Dev) : Prop := ({ a with prc := b.prc } : Dev).onlyCause b

theorem Dev.onlyPrcCause_trans {a b c : Dev} (hab : a.onlyPrcCause b) (hbc : b.onlyPrcCause c) : a.onlyPrcCause c := by
  unfold Dev.onlyPrcCause Dev.onlyCause at *
  rw [hbc, hab]

theorem Dev.onlyPrcCause_of_onlyCause {a b : Dev} (h : a.onlyCause b) : a.onlyPrcCause b := by
  unfold Dev.onlyPrcCause Dev.onlyCause at *
  rw [h]

theorem Dev.armOcEvent_prcCause (d : Dev) (oc : Nat) : d.onlyPrcCause (d.armOcEvent oc) := by
  refine Dev.onlyPrcCause_of_onlyCause ?_
  unfold Dev.armOcEvent
  split
  · rfl
  · exact Dev.raise_cause ..

theorem Dev.prcAbort_prcCause (d : Dev) (cause : Nat) : d.onlyPrcCause (d.prcAbort cause) := by
  unfold Dev.prcAbort
  split
  · exact Dev.onlyPrcCause_trans (b := { d with prc := { d.prc with stage := 4 } }) rfl (Dev.onlyPrcCause_of_onlyCause (Dev.raiseCause_cause _ cause))
  · rfl

theorem Dev.armNodes_prcCause (d : Dev) : d.onlyPrcCause d.armNodes := by
  refine Dev.onlyPrcCause_of_onlyCause ?_
  unfold Dev.armNodes
  split
  · exact d.raiseCause_cause _
  · rfl

/-- A step of the converter control engine keeps the paths there are, and what the Terord engine gave on them (R183). -/
theorem Dev.cceStep_runs (d : Dev) (hmode : d.mode ≠ .boot) (hready : d.ledgersReady) (hfront : d.rae.front.isSome = true) :
    ∃ (ps : List (Option Path)) (c3 : Option (Nat × List Nat)),
      ({ d with rae := { d.rae with paths := ps, front := none, c3 := c3 } } : Dev).onlyPrcCause d.cceStep ∧
      ∀ p, p < 5 → (nth ps p none).isSome = (nth d.rae.paths p none).isSome ∧ (nth ps p none).map Path.g = (nth d.rae.paths p none).map Path.g := by
  have hboot : ¬(d.mode == .boot) = true := by simpa using hmode
  have hopen : ¬(d.mode == .boot || d.rae.front.isNone || !(d.ledgersDone || d.clk.fallback)) = true := by
    obtain ⟨x, hx⟩ := Option.isSome_iff_exists.1 hfront
    simp [hmode, hx, d.ledgersDone_ready hready]
  unfold Dev.cceStep
  rw [if_neg hboot, d.completeReady_ready hready, if_neg hopen]
  extract_lets _ i c3 s _ one ps d1 oc d2
  refine ⟨ps, c3, ?_, ?_⟩
  · have hd1 : d1.onlyPrcCause d2 := by
      unfold d2
      split
      · exact Dev.onlyPrcCause_trans (d1.armOcEvent_prcCause oc) (Dev.prcAbort_prcCause _ _)
      · rfl
    exact Dev.onlyPrcCause_trans hd1 d2.armNodes_prcCause
  · intro p hp
    have hg : ∀ x : Path, (one p x).g = x.g := by
      intro x
      unfold one
      split <;> rfl
    have hps : nth ps p none = (nth d.rae.paths p none).map (one p) := nth_forN 5 p _ none hp
    rw [hps]
    cases nth d.rae.paths p none with
    | none => exact ⟨rfl, rfl⟩
    | some x => exact ⟨rfl, congrArg some (hg x)⟩

/-- Settles O30. -/
theorem enginesStepOnceAnEpoch : Obligations.EnginesStepOnceAnEpoch := by
  unfold Obligations.EnginesStepOnceAnEpoch
  refine ⟨?terord, ?control⟩
  case terord =>
    intro s hmode hcond hfree
    obtain ⟨ps, hd, hps⟩ := s.dev.gfeStep_runs hmode hcond hfree
    refine ⟨s.dev.gfeStep, rfl, ?_⟩
    rw [hd]
    exact ⟨rfl, hps, rfl⟩
  case control =>
    intro s hmode hready hfront
    obtain ⟨ps, c3, honly, hps⟩ := s.dev.cceStep_runs hmode hready hfront
    refine ⟨s.dev.cceStep, rfl, ?_⟩
    unfold Dev.onlyPrcCause Dev.onlyCause at honly
    rw [honly]
    exact ⟨rfl, rfl, rfl, rfl, fun p hp => (hps p hp).1, fun p hp => (hps p hp).2⟩

-- What a period sends --------------------------------------------------------------------------------------------------------------------------

/-- `b` is `a` but for the network's own state and the count of free values. -/
def Dev.onlySends (a b : Dev) : Prop := b = { a with ikl := b.ikl, free := b.free }

theorem Dev.onlySends_refl (a : Dev) : a.onlySends a := rfl

theorem Dev.onlySends_trans {a b c : Dev} (hab : a.onlySends b) (hbc : b.onlySends c) : a.onlySends c := by
  unfold Dev.onlySends at *
  rw [hbc, hab]

theorem Dev.sendFrames_sends (d : Dev) (arms : List Arm) : d.onlySends (d.sendFrames arms) :=
  foldl_keeps (fun y => d.onlySends y) (fun (x : Dev) n => x.laneSend n d.tmb.up (d.cmdFrame arms ((d.tmb.epoch + 1) % 65536) d.rdn.nextClaim n))
    (fun _ _ hy => Dev.onlySends_trans hy rfl) (List.range 12) d rfl

theorem Part.send_sends (p q : Part) (lane : Nat) (m : MFrame) (h : p.send lane m = some q) : p.dev.onlySends q.dev := by
  unfold Part.send at h
  dsimp only at h
  split at h
  · cases h
    rfl
  · cases h

theorem Part.sendQueue_sends (p : Part) : p.dev.onlySends p.sendQueue.dev := by
  unfold Part.sendQueue
  refine foldl_keeps (fun (x : Part) => p.dev.onlySends x.dev) _ (fun x r hx => ?_) _ _ rfl
  split
  · next y hy => exact Dev.onlySends_trans hx (Part.send_sends _ _ _ _ hy)
  · split
    · exact Dev.onlySends_trans hx rfl
    · exact hx

theorem Part.sendProbes_sends (p : Part) : p.dev.onlySends p.sendProbes.dev := by
  unfold Part.sendProbes
  refine foldl_keeps (fun (x : Part) => p.dev.onlySends x.dev) _ (fun x q hx => ?_) _ _ rfl
  dsimp only
  split
  · exact hx
  split
  · next y hy => exact Dev.onlySends_trans (Dev.onlySends_trans hx (Part.send_sends _ _ _ _ hy)) rfl
  · exact hx

theorem Part.sendMgmt_sends (p : Part) : p.dev.onlySends p.sendMgmt.dev := by
  unfold Part.sendMgmt
  dsimp only
  split
  · split
    · next y hy => exact Dev.onlySends_trans (Part.send_sends _ _ _ _ hy) rfl
    · rfl
  · rfl

theorem Dev.sendPart_sends (d : Dev) (start : Nat) : d.onlySends (d.sendPart start) := by
  unfold Dev.sendPart
  split
  · rfl
  · extract_lets free x
    have hsent : d.onlySends x := Dev.onlySends_trans (Part.sendQueue_sends { dev := d, free := free }) (Dev.onlySends_trans (Part.sendProbes_sends _) (Part.sendMgmt_sends _))
    exact Dev.onlySends_trans hsent rfl

-- The commands of an arm -----------------------------------------------------------------------------------------------------------------------

/-- The addresses of an arm's cells, in their order. -/
def Arm.addrs (a : Arm) : List Nat := a.cells.map Cell.addr

/-- A map that keeps every cell's address keeps the arm's. -/
theorem addrs_map (cs : List Cell) (f : Cell → Cell) (h : ∀ c, (f c).addr = c.addr) : (cs.map f).map Cell.addr = cs.map Cell.addr := by
  rw [List.map_map]
  exact List.map_congr_left (fun c _ => h c)

theorem Cell.block_addr (alt : Bool) (c : Cell) : (c.block alt).addr = c.addr := by
  unfold Cell.block
  split <;> rfl

theorem Arm.blocked_addrs (p : SelIn) (a : Arm) : (a.blocked p).addrs = a.addrs := addrs_map a.cells _ (Cell.block_addr p.alt)

theorem Arm.precharge_addrs (p : SelIn) (n : Nat) (a : Arm) : (a.precharge p n).addrs = a.addrs := by
  refine addrs_map a.cells _ (fun c => ?_)
  split <;> rfl

theorem Arm.assumeLost_addrs (missing : List Nat) (a : Arm) : (a.assumeLost missing).addrs = a.addrs := by
  refine addrs_map a.cells _ (fun c => ?_)
  split <;> rfl

theorem Arm.select_addrs (p : SelIn) (v i : Rat) (a : Arm) : (a.select p v i).addrs = a.addrs := by
  refine addrs_map a.cells _ (fun c => ?_)
  split
  · rfl
  · split
    · rfl
    · generalize (if (levels p (decide (v < 0)) (v * p.baseV) a.cells).2 = 0 then none else _ : Option Cell) = pw
      split <;> rfl

theorem Dev.escK_addrs (d : Dev) (n : Nat) (a : Arm) : (d.escK n a).addrs = a.addrs := by
  unfold Dev.escK
  split
  · split
    · rfl
    · exact addrs_map a.cells _ (fun c => rfl)
  · rfl

/-- The commands of an arm are for its cells, in their order. -/
theorem Dev.armCommands_addrs (d : Dev) (n : Nat) : (d.armCommands n).addrs = (nth d.mbe.arms n {}).addrs := by
  unfold Dev.armCommands
  extract_lets a p held v b
  split
  · exact a.precharge_addrs p _
  · split
    · exact ((a.assumeLost _).blocked_addrs p).trans (a.assumeLost_addrs _)
    · have hb : b.addrs = a.addrs := (Arm.select_addrs p v _ _).trans ((Arm.assumeLost_addrs _ _).trans (d.escK_addrs n a))
      refine Eq.trans (addrs_map b.cells _ ?_) hb
      exact fun c => rfl

/-- A blocked cell that is neither LOST nor BYPASSED has every leg at 00 (R271). -/
theorem Cell.block_cmd (alt : Bool) (c : Cell) (h : (c.block alt).gone = false) : (c.block alt).cmd = {} := by
  unfold Cell.block at *
  split at h
  · next hgone => exact absurd (hgone.symm.trans h) (by decide)
  · next hgone => rw [if_neg hgone]

theorem Arm.blocked_cmd (p : SelIn) (a : Arm) (c : Cell) (hc : c ∈ (a.blocked p).cells) (h : c.gone = false) : c.cmd = {} := by
  obtain ⟨x, _, rfl⟩ := List.mem_map.1 hc
  exact x.block_cmd p.alt h

theorem Mode.blocked_dark (m : Mode) (h : m.blocked = true) : m ≠ .precharge ∧ m.energized = false := by
  cases m <;> revert h <;> decide

/-- In a blocked mode every arm is blocked (R271). -/
theorem Dev.armCommands_blocked (d : Dev) (n : Nat) (h : d.mode.blocked = true) : ∃ a : Arm, d.armCommands n = a.blocked (d.selIn n) := by
  obtain ⟨hprc, hen⟩ := Mode.blocked_dark d.mode h
  exact ⟨(nth d.mbe.arms n {}).assumeLost (d.lostBy n), (if_neg (fun hp => hprc hp.1)).trans (if_pos (by simp [hen]))⟩

theorem Dev.assemble_runs (d : Dev) (hmode : d.mode ≠ .boot) (hsel : d.rae.selected = true) (hready : d.ledgersReady) (hnext : d.mbe.next = none) :
    d.assemble = { d with mbe := { d.mbe with next := some (forN 6 d.armCommands) } } := by
  refine if_neg ?_
  simp [hmode, hsel, d.ledgersDone_ready hready, hnext]

/-- The commands assembled leave at once, and with them what the management part of the period has room for. -/
theorem Dev.modulate_runs (d : Dev) (hmode : d.mode ≠ .boot) (hsel : d.rae.selected = true) (hready : d.ledgersReady) (hnext : d.mbe.next = none) :
    ∃ r : Rdn, ({ d with mbe := { d.mbe with next := some (forN 6 d.armCommands) }, rdn := r } : Dev).onlySends d.modulate := by
  obtain ⟨d1, hd1⟩ : ∃ d1, d1 = d.assemble := ⟨_, rfl⟩
  have hasm := hd1.trans (d.assemble_runs hmode hsel hready hnext)
  have hnext1 : d1.mbe.next = some (forN 6 d.armCommands) := by rw [hasm]
  have hmod : d.modulate = (({ d1 with rdn := { d1.rdn with nextClaim := d1.claimNow } } : Dev).sendFrames (forN 6 d.armCommands)).sendPart d1.tmb.up := by
    unfold Dev.modulate
    rw [← hd1]
    dsimp only
    rw [hnext, hnext1]
  have hsent := Dev.onlySends_trans (Dev.sendFrames_sends ({ d1 with rdn := { d1.rdn with nextClaim := d1.claimNow } } : Dev) (forN 6 d.armCommands)) (Dev.sendPart_sends _ d1.tmb.up)
  rw [← hmod] at hsent
  refine ⟨{ d1.rdn with nextClaim := d1.claimNow }, ?_⟩
  unfold Dev.onlySends at *
  rw [hsent]
  dsimp only
  rw [hasm]

/-- Settles O32. -/
theorem modulationCommandsEveryArm : Obligations.ModulationCommandsEveryArm := by
  unfold Obligations.ModulationCommandsEveryArm
  intro s hmode hsel hready hnext
  obtain ⟨r, hsent⟩ := s.dev.modulate_runs hmode hsel hready hnext
  have harm : ∀ n, n < 6 → nth (forN 6 s.dev.armCommands) n {} = s.dev.armCommands n := fun n hn => nth_forN 6 n _ _ hn
  refine ⟨s.dev.modulate, forN 6 s.dev.armCommands, rfl, by rw [hsent], length_forN 6 _, by rw [hsent], by rw [hsent], ?_, ?_⟩
  · intro hblocked n hn c hc hgone
    rw [harm n hn] at hc
    obtain ⟨a, ha⟩ := s.dev.armCommands_blocked n hblocked
    rw [ha] at hc
    exact a.blocked_cmd _ c hc hgone
  · intro n hn
    rw [harm n hn]
    exact s.dev.armCommands_addrs n

end Sys2Proof.Machine
end

section
/-! SUPPORT. Reports of the nodes, the cut-off of a lane and lost nodes (R317, R319, R335, R337); O35. -/
namespace Sys2Proof.Machine

-- What leaves the node table and the lanes -------------------------------------------------------------------------------------------------------

/-- `b` has the node table and the lanes of `a`. -/
def Dev.keepsNet (a b : Dev) : Prop := b.ikl.nodes = a.ikl.nodes ∧ b.ikl.lanes = a.ikl.lanes

theorem Dev.keepsNet_refl (a : Dev) : a.keepsNet a := ⟨rfl, rfl⟩

theorem Dev.keepsNet_trans {a b c : Dev} (hab : a.keepsNet b) (hbc : b.keepsNet c) : a.keepsNet c := ⟨hbc.1.trans hab.1, hbc.2.trans hab.2⟩

theorem Dev.keepsNet_of_ikl {a b : Dev} (h : b.ikl = a.ikl) : a.keepsNet b := ⟨congrArg Ikl.nodes h, congrArg Ikl.lanes h⟩

theorem Dev.ddpTick_net (d : Dev) : d.keepsNet d.ddpTick := by
  have h : d.onlyDrive d.ddpTick := Dev.onlyDrive_foldl Dev.pairTick (fun x n => x.pairTick_drive n) (List.range 12) d
  refine Dev.keepsNet_of_ikl ?_
  rw [h]

theorem Dev.ddpForce_net (d : Dev) (loss : Bool) : d.keepsNet (d.ddpForce loss) :=
  Dev.keepsNet_trans (b := { d with ddp := { d.ddp with loss := d.ddp.loss || loss, blk := d.ddp.blk || !loss } }) ⟨rfl, rfl⟩ (Dev.ddpTick_net _)

theorem Dev.sendEblk_net (d : Dev) (cause : Nat) : d.keepsNet (d.sendEblk cause) := by
  unfold Dev.sendEblk
  split
  · exact d.keepsNet_refl
  · extract_lets _ d1
    refine foldl_keeps (fun x => d.keepsNet x) (fun (x : Dev) n => x.laneSend n d.tmb.up [eblkBlock (d.tmb.epoch % 65536) cause]) ?_ (List.range 12) d1 ⟨rfl, rfl⟩
    exact fun x n hx => Dev.keepsNet_trans hx ⟨rfl, rfl⟩

theorem Dev.raiseT_net (d : Dev) (b c s i r m : Nat) (w : List Word) : d.keepsNet (d.raiseT b c s i r m w) := by
  refine Dev.keepsNet_of_ikl ?_
  rw [d.raiseT_only b c s i r m w]

theorem Dev.raiseCause_net (d : Dev) (bit : Nat) : d.keepsNet (d.raiseCause bit) := by
  unfold Dev.raiseCause
  split
  · exact d.keepsNet_refl
  · extract_lets _ _ d1 d2 d3
    have h1 : d.keepsNet d1 := ⟨rfl, rfl⟩
    have h2 : d1.keepsNet d2 := by
      unfold d2
      split
      · exact d1.ddpForce_net true
      · exact d1.ddpForce_net false
    have h3 : d2.keepsNet d3 := by
      unfold d3
      split
      · exact d2.keepsNet_refl
      · exact d2.sendEblk_net bit
    exact Dev.keepsNet_trans (Dev.keepsNet_trans (Dev.keepsNet_trans h1 h2) h3) (Dev.raiseT_net ..)

theorem Dev.prcAbort_net (d : Dev) (cause : Nat) : d.keepsNet (d.prcAbort cause) := by
  unfold Dev.prcAbort
  split
  · exact Dev.keepsNet_trans (b := { d with prc := { d.prc with stage := 4 } }) ⟨rfl, rfl⟩ (Dev.raiseCause_net _ cause)
  · exact d.keepsNet_refl

theorem Dev.prcOver_net (d : Dev) : d.keepsNet d.prcOver := by
  unfold Dev.prcOver
  extract_lets lim
  split
  · exact d.prcAbort_net _
  · exact d.keepsNet_refl

theorem Dev.prcOver_prcCause (d : Dev) : d.onlyPrcCause d.prcOver := by
  unfold Dev.prcOver
  extract_lets lim
  split
  · exact d.prcAbort_prcCause _
  · rfl

theorem Dev.prcOver_time (d : Dev) : d.prcOver.tmb = d.tmb ∧ d.prcOver.sys.mode = d.sys.mode := by
  have h := d.prcOver_prcCause
  unfold Dev.onlyPrcCause Dev.onlyCause at h
  rw [h]
  exact ⟨rfl, rfl⟩

/-- Overvoltage of a cell acts in PRECHARGE alone (R104). -/
theorem Dev.prcOver_same (d : Dev) (h : d.mode ≠ .precharge) : d.prcOver = d := by
  unfold Dev.prcOver
  extract_lets lim
  split
  · exact if_neg (fun hp => h hp.1)
  · rfl

theorem Dev.completeIf_net (d : Dev) (n : Nat) : d.keepsNet (d.completeIf n) := by
  refine Dev.keepsNet_of_ikl ?_
  rw [d.completeIf_only n]

theorem Dev.completeReady_net (d : Dev) : d.keepsNet d.completeReady := by
  refine Dev.keepsNet_of_ikl ?_
  rw [d.completeReady_only]

-- Reports --------------------------------------------------------------------------------------------------------------------------------------

/-- A lane receives: the lanes run, it is enabled, and in block lock. -/
def Dev.laneHears (d : Dev) (lane : Nat) : Prop := d.lanesRun = true ∧ d.laneOn lane = true ∧ (nth d.ikl.lanes lane {}).lock = true

theorem Dev.laneHears_open {d : Dev} {lane : Nat} (h : d.laneHears lane) : ¬(!(d.lanesRun && d.laneOn lane && (nth d.ikl.lanes lane {}).lock)) = true := by
  obtain ⟨hrun, hon, hlock⟩ := h
  simp [hrun, hon, hlock]

theorem Dev.report_unscheduled (d : Dev) (lane slot : Nat) (b : Dword) (h : d.laneHears lane) (hnone : slotNode d.ikl.nodes lane slot d.tmb.epoch = none) :
    d.report lane slot b = d.laneError lane := by
  unfold Dev.report
  extract_lets l
  rw [if_neg (Dev.laneHears_open h), hnone]

theorem Dev.report_badCrc (d : Dev) (lane slot addr : Nat) (b : Dword) (e : NodeEnt) (h : d.laneHears lane)
    (hnode : slotNode d.ikl.nodes lane slot d.tmb.epoch = some (addr, e)) (hcrc : crcOk b = false) : d.report lane slot b = d.laneError lane := by
  unfold Dev.report
  extract_lets l
  rw [if_neg (Dev.laneHears_open h), hnode]
  exact if_pos (by simp [hcrc])

/-- What a report leaves of a measurement node (R319, R335). -/
def Dev.measured (d : Dev) (b : Dword) (x : NodeEnt) : NodeEnt :=
  { x with value := signed 31 (bfld b 50 20), alarm := bfld b 19 19 == 1, valueEpoch := some d.tmb.epoch, missedRun := 0, adm := 1, away := false }

theorem Dev.report_accepted (d : Dev) (lane slot addr : Nat) (b : Dword) (e : NodeEnt) (h : d.laneHears lane)
    (hnode : slotNode d.ikl.nodes lane slot d.tmb.epoch = some (addr, e)) (hcut : (nth d.ikl.lanes lane {}).cut = false) (hfirst : e.valueEpoch ≠ some d.tmb.epoch)
    (hcrc : crcOk b = true) (haddr : bfld b 63 51 = addr) (hseq : bfld b 18 16 = d.tmb.epoch % 8) :
    d.report lane slot b = if e.sm then d.smReport addr e b else d.modNode addr (d.measured b) := by
  unfold Dev.report
  extract_lets l
  rw [if_neg (Dev.laneHears_open h), hnode]
  exact if_neg (by simp [l, hcut, hfirst, hcrc, haddr, hseq])

/-- What a report leaves of a submodule node: its status, of the epoch; `again` when it had gone and now reappears. -/
def Dev.reported (d : Dev) (b : Dword) (again : Bool) (x : NodeEnt) : NodeEnt :=
  { x with status := bfld b 34 19, valueEpoch := some d.tmb.epoch, away := false, reappeared := x.reappeared || again }

/-- A submodule's report leaves the node table with its status (R319). -/
theorem Dev.smReport_nodes (d : Dev) (addr : Nat) (e : NodeEnt) (b : Dword) :
    ∃ again : Bool, (d.smReport addr e b).ikl.nodes = (d.modNode addr (d.reported b again)).ikl.nodes := by
  unfold Dev.smReport
  extract_lets st gone again d1 own _ d2 d3 d4
  refine ⟨gone && e.away, ?_⟩
  have h3 : d3.ikl.nodes = d2.ikl.nodes := by
    unfold d3
    split <;> rfl
  have h4 : d4.ikl.nodes = d3.ikl.nodes := by
    unfold d4
    split <;> rfl
  exact (d4.completeIf_net e.arm).1.trans (h4.trans h3)

theorem exec_report (s : State) (lane slot : Nat) (b : Dword) : exec (.report lane slot b) s = .next { s with dev := (s.dev.report lane slot b).prcOver } := rfl

theorem Dev.slotNode_found (d : Dev) (lane slot addr epoch : Nat) (e : NodeEnt) (h : slotNode d.ikl.nodes lane slot epoch = some (addr, e)) :
    ∃ x, findNode d.ikl.nodes addr = some x := by
  have hmem : (addr, e) ∈ d.ikl.nodes := List.mem_of_find?_eq_some h
  have hsome : (d.ikl.nodes.find? (fun p => p.1 == addr)).isSome = true := List.find?_isSome.2 ⟨(addr, e), hmem, beq_self_eq_true addr⟩
  obtain ⟨p, hp⟩ := Option.isSome_iff_exists.1 hsome
  exact ⟨p.2, by rw [findNode, hp]; rfl⟩

-- The cut-off ------------------------------------------------------------------------------------------------------------------------------------

/-- The nodes of a lane whose report of the epoch is missing (R309, R335). -/
def Dev.missingOn (d : Dev) (lane : Nat) : List (Nat × NodeEnt) :=
  d.ikl.nodes.filter (fun p => p.2.lane == lane && p.2.adm != 0 && p.2.dueIn d.tmb.epoch && p.2.valueEpoch != some d.tmb.epoch)

/-- One missing report counted. -/
def Dev.countMissed (x : Dev) (p : Nat × NodeEnt) : Dev :=
  let y := x.modNode p.1 (fun e => { e with missedTotal := sat16 e.missedTotal 1, away := true, missedRun := if e.sm then 0 else min 3 (e.missedRun + 1), adm := if !e.sm ∧ 2 ≤ e.missedRun then 2 else e.adm })
  if p.2.sm then
    if (nth y.mbe.arms p.2.arm {}).complete then y
    else y.modCell p.2.arm p.1 (fun c => { c with missed := if c.gone then c.missed else min 3 (c.missed + 1), cut := c.st != 3 })
  else y

theorem Dev.countMissed_lanes (x : Dev) (p : Nat × NodeEnt) : (x.countMissed p).ikl.lanes = x.ikl.lanes := by
  unfold Dev.countMissed
  extract_lets y
  split
  · split <;> rfl
  · rfl

theorem Dev.countMissed_steady (x : Dev) (p : Nat × NodeEnt) : x.steady (x.countMissed p) := by
  unfold Dev.countMissed
  extract_lets y
  have hy : x.steady y := x.modNode_steady ..
  split
  · split
    · exact hy
    · exact Dev.steady_trans hy (y.modCell_steady ..)
  · exact hy

theorem Dev.cutoff_open (d : Dev) (lane : Nat) (hrun : d.lanesRun = true) (hon : d.laneOn lane = true) (hcut : (nth d.ikl.lanes lane {}).cut = false) :
    d.cutoff lane = (((d.missingOn lane).foldl Dev.countMissed d).modLane lane (fun l => { l with cut := true, missed := (d.missingOn lane).length })).completeReady :=
  if_neg (by simp [hrun, hon, hcut])

/-- A power domain that is on stays on as time goes on. -/
theorem Dev.domOn_timeTo (d : Dev) (t n : Nat) (h : d.domOn n = true) : (d.timeTo t).domOn n = true := by
  have hpwr : (d.timeTo t).pwr = d.pwr := by rw [d.timeTo_only t]
  have hup := d.timeTo_up t
  unfold Dev.domOn at *
  rw [hpwr]
  cases hon : nth d.pwr.on (n - 1) none with
  | none =>
    rw [hon] at h
    exact h
  | some from_ =>
    rw [hon] at h
    exact decide_eq_true (Nat.le_trans (of_decide_eq_true h) hup)

theorem Dev.laneOn_timeTo (d : Dev) (t n : Nat) (h : d.laneOn n = true) : (d.timeTo t).laneOn n = true := by
  have hact : (d.timeTo t).active = d.active := by rw [d.timeTo_only t]
  simp only [Dev.laneOn, Bool.and_eq_true] at h ⊢
  obtain ⟨⟨hn, hen⟩, hdom⟩ := h
  refine ⟨⟨hn, ?_⟩, d.domOn_timeTo t _ hdom⟩
  rw [Dev.abit, Dev.act, hact]
  exact hen

/-- The cut-off closes its lane and counts what is missing. -/
theorem Dev.cutoff_shows (d : Dev) (lane : Nat) (hrun : d.lanesRun = true) (hon : d.laneOn lane = true) (hcut : (nth d.ikl.lanes lane {}).cut = false)
    (hlen : lane < d.ikl.lanes.length) :
    (nth (d.cutoff lane).ikl.lanes lane {}).cut = true ∧ (nth (d.cutoff lane).ikl.lanes lane {}).missed = (d.missingOn lane).length ∧ (d.cutoff lane).tmb = d.tmb := by
  obtain ⟨y, hy⟩ : ∃ y, y = (d.missingOn lane).foldl Dev.countMissed d := ⟨_, rfl⟩
  obtain ⟨z, hz⟩ : ∃ z, z = y.modLane lane (fun l => { l with cut := true, missed := (d.missingOn lane).length }) := ⟨_, rfl⟩
  have hd : d.cutoff lane = z.completeReady := by rw [hz, hy]; exact d.cutoff_open lane hrun hon hcut
  have hylanes : y.ikl.lanes = d.ikl.lanes := by
    rw [hy]
    exact foldl_same (fun x : Dev => x.ikl.lanes) Dev.countMissed Dev.countMissed_lanes _ d
  have hysteady : d.steady y := by
    rw [hy]
    exact Dev.steady_foldl _ Dev.countMissed_steady _ _
  have hlane : nth z.ikl.lanes lane {} = { nth y.ikl.lanes lane {} with cut := true, missed := (d.missingOn lane).length } := by
    rw [hz]
    exact nth_modAt_self _ lane _ _ (hylanes ▸ hlen)
  have hztmb : z.tmb = y.tmb := by rw [hz]; rfl
  rw [hd, (z.completeReady_net).2, hlane, z.completeReady_only]
  exact ⟨rfl, rfl, hztmb.trans hysteady.2.1⟩

-- Lost nodes -------------------------------------------------------------------------------------------------------------------------------------

/-- A change of the cells of an address is seen at the first of them. -/
theorem find_modAddr (cs : List Cell) (addr : Nat) (f : Cell → Cell) (hf : ∀ c, (f c).addr = c.addr) :
    (cs.map (fun c => if c.addr = addr then f c else c)).find? (fun c => c.addr == addr) = (cs.find? (fun c => c.addr == addr)).map f := by
  induction cs with
  | nil => rfl
  | cons c cs ih =>
    by_cases hc : c.addr = addr
    · simp [hc, hf]
    · simp [hc, ih]

theorem Dev.cell_modCell (d : Dev) (arm addr : Nat) (f : Cell → Cell) (hf : ∀ c, (f c).addr = c.addr) (harm : arm < d.mbe.arms.length) :
    (d.modCell arm addr f).cell arm addr = (d.cell arm addr).map f := by
  have h : nth (d.modCell arm addr f).mbe.arms arm {} = { nth d.mbe.arms arm {} with cells := (nth d.mbe.arms arm {}).cells.map (fun c => if c.addr = addr then f c else c) } :=
    nth_modAt_self _ arm _ _ harm
  rw [Dev.cell, h]
  exact find_modAddr _ addr f hf

theorem Dev.cell_arm {d : Dev} {arm addr : Nat} {c : Cell} (h : d.cell arm addr = some c) : arm < d.mbe.arms.length := by
  by_contra hout
  have hnone : nth d.mbe.arms arm {} = {} := by simp [nth, List.getElem?_eq_none (Nat.le_of_not_lt hout)]
  rw [Dev.cell, hnone] at h
  cases h

/-- NODE_LOST at a submodule's ledger entry: three reports missed and none of the epoch (R337). -/
def Cell.lostIf (c : Cell) : Cell := if decide (3 ≤ c.missed) && c.got.isNone && !c.gone then { c with st := 3 } else c

theorem Cell.lostIf_addr (c : Cell) : c.lostIf.addr = c.addr := by
  unfold Cell.lostIf
  split <;> rfl

theorem Dev.nodeLost_submodule (d : Dev) (addr : Nat) (e : NodeEnt) (hnode : findNode d.ikl.nodes addr = some e) (hsm : e.sm = true) :
    d.nodeLost addr = d.modCell e.arm addr Cell.lostIf := by
  unfold Dev.nodeLost
  rw [hnode]
  exact if_pos hsm

theorem Dev.nodeLost_measurement (d : Dev) (addr : Nat) (e : NodeEnt) (hnode : findNode d.ikl.nodes addr = some e) (hsm : e.sm = false) (hmissed : 3 ≤ e.missedRun)
    (hadm : e.adm = 1) : d.nodeLost addr = d.modNode addr (fun x => { x with adm := 2 }) := by
  unfold Dev.nodeLost
  rw [hnode]
  exact (if_neg (by simp [hsm])).trans (if_pos ⟨hmissed, hadm⟩)

theorem exec_nodeLost (s : State) (addr : Nat) : exec (.nodeLost addr) s = .next { s with dev := s.dev.nodeLost addr } := rfl

/-- Settles O35. The cut-off moves time to its own instant, and acts late when that has passed (log 17), and NODE_LOST is a row of its own (log 67): the model's
choices. -/
theorem reportsReachTheNode : Obligations.ReportsReachTheNode := by
  unfold Obligations.ReportsReachTheNode
  refine ⟨?accepted, ?unscheduled, ?badCrc, ?cutoff, ?lostCell, ?lostNode⟩
  case accepted =>
    intro s lane slot addr b e _ hrun hon hlock hnode hcut hfirst hcrc haddr hseq
    obtain ⟨y, hy⟩ : ∃ y, y = s.dev.report lane slot b := ⟨_, rfl⟩
    obtain ⟨x, hx⟩ := s.dev.slotNode_found lane slot addr _ e hnode
    obtain ⟨htmb, hmode⟩ := y.prcOver_time
    have hys : s.dev.steady y := by rw [hy]; exact s.dev.report_steady lane slot b
    have hrep := hy.trans (s.dev.report_accepted lane slot addr b e ⟨hrun, hon, hlock⟩ hnode hcut hfirst hcrc haddr hseq)
    cases hsm : e.sm with
    | true =>
      rw [hsm, if_pos rfl] at hrep
      obtain ⟨again, hnodes⟩ := s.dev.smReport_nodes addr e b
      have hfound : findNode y.prcOver.ikl.nodes addr = some (s.dev.reported b again x) := by
        rw [(y.prcOver_net).1, hrep, hnodes, findNode_modNode, hx]; rfl
      exact ⟨y.prcOver, _, by rw [exec_report, hy], hfound, rfl, htmb.trans hys.2.1, hmode.trans (congrArg Sys.mode hys.1), fun _ => rfl, fun h => absurd h (by decide)⟩
    | false =>
      rw [hsm, if_neg (by decide)] at hrep
      have hfound : findNode y.prcOver.ikl.nodes addr = some (s.dev.measured b x) := by
        rw [(y.prcOver_net).1, hrep, findNode_modNode, hx]; rfl
      exact ⟨y.prcOver, _, by rw [exec_report, hy], hfound, rfl, htmb.trans hys.2.1, hmode.trans (congrArg Sys.mode hys.1), fun h => absurd h (by decide), fun _ => ⟨rfl, rfl, rfl⟩⟩
  case unscheduled =>
    intro s lane slot b _ hrun hon hlock hmode hnone
    rw [exec_report, s.dev.report_unscheduled lane slot b ⟨hrun, hon, hlock⟩ hnone]
    rw [Dev.prcOver_same (s.dev.laneError lane) hmode]
    rfl
  case badCrc =>
    intro s lane slot addr b e _ hrun hon hlock hmode hnode hcrc
    rw [exec_report, s.dev.report_badCrc lane slot addr b e ⟨hrun, hon, hlock⟩ hnode hcrc]
    rw [Dev.prcOver_same (s.dev.laneError lane) hmode]
    rfl
  case cutoff =>
    intro s lane hlane hlen hmode hrunning hrun hon hcut
    obtain ⟨t, ht⟩ : ∃ t, t = s.dev.tmb.sync + (nth s.dev.ikl.lanes lane {}).cutTicks * 5 * nsU + s.dev.advance1.toNat := ⟨_, rfl⟩
    obtain ⟨x, hx⟩ : ∃ x, x = s.dev.timeTo t := ⟨_, rfl⟩
    have hrow : exec (.reportCutoff lane) s = .next { s with dev := (x.cutoff lane).prcOver } := by
      rw [hx, ht]
      exact next_congr s ((if_pos hlane).trans (if_neg (by simp [hmode, hrunning])))
    have hxo := s.dev.timeTo_only t
    rw [← hx] at hxo
    have hxon : x.laneOn lane = true := by rw [hx]; exact s.dev.laneOn_timeTo t lane hon
    have hnow : x.tmb.now = max s.dev.tmb.now t := by rw [hx]; exact s.dev.timeTo_now t
    have hep : x.tmb.epoch = s.dev.tmb.epoch := by rw [hxo]
    obtain ⟨hxcut, hxmissed, hxtmb⟩ := x.cutoff_shows lane (by rw [hxo]; exact hrun) hxon (by rw [hxo]; exact hcut) (by rw [hxo]; exact hlen)
    obtain ⟨htmb, _⟩ := (x.cutoff lane).prcOver_time
    have hmissing : x.missingOn lane = s.dev.missingOn lane := by rw [hxo]; rfl
    refine ⟨_, hrow, ?_, ?_, ?_, ?_⟩
    · rw [((x.cutoff lane).prcOver_net).2]
      exact hxcut
    · rw [((x.cutoff lane).prcOver_net).2, hxmissed, hmissing]
      rfl
    · rw [htmb, hxtmb, hnow, ht]
    · rw [htmb, hxtmb, hep]
  case lostCell =>
    intro s addr e c hnode hsm hcell hmissed hgot hgone
    refine ⟨_, exec_nodeLost s addr, ?_⟩
    rw [s.dev.nodeLost_submodule addr e hnode hsm]
    refine ⟨rfl, ?_⟩
    have hlost : c.lostIf = { c with st := 3 } := if_pos (by simp [hmissed, hgot, hgone])
    rw [s.dev.cell_modCell e.arm addr Cell.lostIf Cell.lostIf_addr (Dev.cell_arm hcell), hcell, Option.map_some, hlost]
  case lostNode =>
    intro s addr e hnode hsm hmissed hadm
    refine ⟨_, exec_nodeLost s addr, ?_⟩
    rw [s.dev.nodeLost_measurement addr e hnode hsm hmissed hadm, findNode_modNode, hnode]
    exact ⟨rfl, rfl⟩

end Sys2Proof.Machine
end
